-- ==== Sys2Proof/Word.lean ====
section
/-!
DEFINITION. The words of the CA24's two lines (spec 00 section 5, spec 11 section 1): a byte of a frame or an image,
a 16-bit check value, a 40-bit band number. Seconds, minutes, counts and positions are plain numbers.
-/

namespace Sys2Proof

/-- One byte of a frame, of an order body, or of the site or tariff image (spec 11). -/
abbrev Byte := BitVec 8

/-- A 16-bit word: the check value of R173, and the ten condition bits and enable marks in their layout of R174. -/
abbrev Half := BitVec 16

/-- A band number: the 40-bit token number of a wristband (spec 00 5.03). -/
abbrev BandNo := BitVec 40

/-- The ten condition bits (R156) and the ten enable marks (R159), bit `n` for notice class `n` (R174). -/
abbrev ClassBits := BitVec 10

end Sys2Proof
end

