-- ==== Sys2Proof/Config.lean ====
section
/-!
DEFINITION. What the spec fixes as a number (spec 00 section 6, spec 11), and what it leaves open: the free values,
constants with no body, of which no proof can find the value.
-/

namespace Sys2Proof.Config

/-- Band records at most (R1). -/
def maxBands : Nat := 2048
/-- Parties at most (spec 01 5.02). -/
def maxParties : Nat := 256
/-- Members of a party at most (spec 01 5.02). -/
def maxMembers : Nat := 6
/-- Entries of a call queue at most (R57). -/
def maxQueue : Nat := 32
/-- Orders the order buffer holds (R153). -/
def maxOrders : Nat := 4
/-- Places of the answer queue (R153). -/
def answerPlaces : Nat := 8
/-- Notices the notice queue holds (R156). -/
def maxNotices : Nat := 32
/-- Watches open at once (R160). -/
def maxWatches : Nat := 4
/-- Polls at one visit at most (R137). -/
def pollsPerVisit : Nat := 4
/-- Entries one poll carries at most (R139). -/
def entriesPerPoll : Nat := 12
/-- Seconds of a day (R124). -/
def daySeconds : Nat := 86400
/-- Doors of a bank number a locker: bank × 24 + door (R24). -/
def doorsPerBank : Nat := 24
/-- Bytes of the site image (spec 11 5.01). -/
def siteBytes : Nat := 346
/-- Bytes of the tariff image (spec 11 6.01). -/
def tariffBytes : Nat := 142

/-- The most bytes a frame's body holds: a length of 250 less kind and tag (R151). -/
def maxBody : Nat := 248

/-- Vendor code of IDENTIFY (spec 11 4.06). -/
def vendorCode : Nat := 0x0419
/-- Part code of IDENTIFY, and the format code of the site image (spec 11 4.06, 5.01). -/
def partCode : Nat := 0x0A24
/-- Revision of IDENTIFY (R164). -/
def revision : Nat := 1

/-- The fields of the central answer layouts for which spec 11 states no code where the field is absent
(log entry 21). -/
inductive OpenField where
  /-- READ BAND offset 14: member count of a band of no party. -/
  | memberCount
  /-- READ BAND offset 28: group or cabin of an absent cabin link. -/
  | linkNumber
  /-- READ BAND offset 33 and READ LANE: the quote amount where no quote stands. -/
  | quoteAmount
  /-- READ CABIN: the offer miss count of a cabin not Offered. -/
  | offerMisses
  /-- IDENTIFY: the generation of an absent live bank. -/
  | liveGeneration
  deriving DecidableEq, Repr

/-- FREE VALUE: the number sent in an absent field whose code the spec does not state (log entry 21). -/
opaque unstated : OpenField → Nat

/-- FREE VALUE: the figures read from the live bank in a state that has none. R81 says no read meets such a
state, so the spec states no figure there (log entry 22). -/
opaque absentBank : List Byte

end Sys2Proof.Config
end

