-- ==== Sys2Proof/Syntax.lean ====
section
/-!
DEFINITION. The commands: one constructor of `Instr` for each row of spec/opcode_table.json, with what the row's
step carries. An order carries the tag and the body of its frame (R174, R175).
-/

namespace Sys2Proof

/-- An event a station reports in a poll answer (R141). The index is the station's own, physical, door index. -/
inductive StationEvent where
  | bandPresented (index : Nat) (band : BandNo)
  | doorChanged (index : Nat) (isOpen : Bool)
  | passSensed
  | collectorFault
  deriving DecidableEq, Repr

/-- The sensed position of one door and its bolt, as a status read reports them (R144). -/
structure DoorReading where
  isOpen : Bool
  locked : Bool
  deriving DecidableEq, Repr

/-- What the answer to a status read reports, by kind of station (R144). -/
inductive StatusReport where
  /-- Each door of a lock bank. -/
  | lockBank (doors : List DoorReading)
  /-- The door of a cabin door unit. -/
  | cabin (door : DoorReading)
  /-- A call pad reports nothing beyond the answer itself. -/
  | callPad
  /-- The slot, gate and shutter of an exit lane unit. -/
  | lane (slot : Option BandNo) (gateOpen : Bool) (shutterOpen : Bool)
  deriving DecidableEq, Repr

/-- A good poll answer (R140, R141, R144, R145): the event at the head of the station's buffer with its bit, the
two flags, and the status where the poll was a status read. -/
structure PollReply where
  event : Option (StationEvent × Bool)
  overrun : Bool
  restart : Bool
  status : Option StatusReport
  deriving DecidableEq, Repr

/-- The four ways in which an answer is missed (R142 (a) to (d)). -/
inductive MissCause where
  | noAnswer
  | brokeOff
  | badCheck
  | wrongAddress
  deriving DecidableEq, Repr

/-- The two copies of the non-volatile store (R88, R169). -/
inductive StoreCopy where
  | site
  | tariff
  deriving DecidableEq, Repr

/-- A desired entry that holds an expiry second (R138, R139): the bolt of a door, or a gate. -/
inductive TimedEntry where
  | bolt (door : Nat)
  | gate
  deriving DecidableEq, Repr

/-- The commands of the CA24, one for each row of spec/opcode_table.json. -/
inductive Instr where
  /-- R171: power-up or the reset line; the two strap pins as they stand (R165 (a)). -/
  | coldReset (straps : BitVec 2)
  /-- R151: the bytes of a complete frame, from its start byte to its check value. -/
  | frameReceived (bytes : List Byte)
  /-- R151 (a): the length byte that is out of range. -/
  | frameLengthOutOfRange (length : Byte)
  /-- R151 (c). -/
  | byteWithoutStopBit
  /-- R151 (b). -/
  | interByteGap
  /-- R152. -/
  | lineBreak
  /-- R155. -/
  | transmissionEnd
  /-- R155. -/
  | noticeHoldAsserted
  /-- R155. -/
  | noticeHoldNegated
  /-- R154 (a). -/
  | unknownOrder (kind tag : Byte) (body : List Byte)
  /-- R10. -/
  | issueBand (tag : Byte) (body : List Byte)
  /-- R12. -/
  | barBand (tag : Byte) (body : List Byte)
  /-- R13, R14. -/
  | replaceBand (tag : Byte) (body : List Byte)
  /-- R15. -/
  | forgetBand (tag : Byte) (body : List Byte)
  /-- R17. -/
  | readBand (tag : Byte) (body : List Byte)
  /-- R18. -/
  | listBands (tag : Byte) (body : List Byte)
  /-- R39. -/
  | releaseLocker (tag : Byte) (body : List Byte)
  /-- R37. -/
  | clearForced (tag : Byte) (body : List Byte)
  /-- R40, direction out. -/
  | lockerServiceOut (tag : Byte) (body : List Byte)
  /-- R40, direction in. -/
  | lockerServiceIn (tag : Byte) (body : List Byte)
  /-- R41. -/
  | resetUseCount (tag : Byte) (body : List Byte)
  /-- R42, R43. -/
  | lockerWindowLoad (tag : Byte) (body : List Byte)
  /-- R44. -/
  | readLocker (tag : Byte) (body : List Byte)
  /-- R27. -/
  | readBank (tag : Byte) (body : List Byte)
  /-- R60. -/
  | cabinAssign (tag : Byte) (body : List Byte)
  /-- R53. -/
  | setCabinLimit (tag : Byte) (body : List Byte)
  /-- R70. -/
  | cleaned (tag : Byte) (body : List Byte)
  /-- R71. -/
  | cabinServiceOut (tag : Byte) (body : List Byte)
  /-- R72. -/
  | cabinServiceIn (tag : Byte) (body : List Byte)
  /-- R73. -/
  | readCabin (tag : Byte) (body : List Byte)
  /-- R73. -/
  | readQueue (tag : Byte) (body : List Byte)
  /-- R83. -/
  | tariffLoad (tag : Byte) (body : List Byte)
  /-- R84, R85. -/
  | tariffCommit (tag : Byte) (body : List Byte)
  /-- R89. -/
  | readTariff (tag : Byte) (body : List Byte)
  /-- R103. -/
  | quotePreview (tag : Byte) (body : List Byte)
  /-- R113. -/
  | paid (tag : Byte) (body : List Byte)
  /-- R115. -/
  | cancelQuote (tag : Byte) (body : List Byte)
  /-- R121. -/
  | readLane (tag : Byte) (body : List Byte)
  /-- R127. -/
  | setClock (tag : Byte) (body : List Byte)
  /-- R128. -/
  | adjustClock (tag : Byte) (body : List Byte)
  /-- R129. -/
  | readClock (tag : Byte) (body : List Byte)
  /-- R131. -/
  | openDay (tag : Byte) (body : List Byte)
  /-- R132. -/
  | closeDay (tag : Byte) (body : List Byte)
  /-- R135. -/
  | purge (tag : Byte) (body : List Byte)
  /-- R148. -/
  | readStation (tag : Byte) (body : List Byte)
  /-- R158. -/
  | readConditions (tag : Byte) (body : List Byte)
  /-- R159. -/
  | setNoticeMask (tag : Byte) (body : List Byte)
  /-- R164. -/
  | identify (tag : Byte) (body : List Byte)
  /-- R152. -/
  | reset (tag : Byte) (body : List Byte)
  /-- R172. -/
  | warmReset
  /-- R160. -/
  | watch (tag : Byte) (body : List Byte)
  /-- R162. -/
  | cancelWatch (tag : Byte) (body : List Byte)
  /-- R167. -/
  | siteLoad (tag : Byte) (body : List Byte)
  /-- R168 to R170. -/
  | siteCommit (tag : Byte) (body : List Byte)
  /-- R126. -/
  | minuteBoundary
  /-- R133. -/
  | midnightRollover
  /-- R34: the logical locker number. -/
  | openingExpiry (locker : Nat)
  /-- R65. -/
  | offerExpiry (cabin : Nat)
  /-- R67. -/
  | entryExpiry (cabin : Nat)
  /-- R70. -/
  | cleaningExpiry (cabin : Nat)
  /-- R69. -/
  | abandonment (cabin : Nat)
  /-- R114. -/
  | quoteExpiry (lane : Nat)
  /-- R116. -/
  | passExpiry (lane : Nat)
  /-- R162: the tag of the watch. -/
  | watchExpiry (tag : Byte)
  /-- R139: the station address and its entry. -/
  | desiredEntryExpiry (station : Nat) (entry : TimedEntry)
  /-- R137. -/
  | poll
  /-- R141. -/
  | pollAnswer (reply : PollReply)
  /-- R142. -/
  | missedAnswer (cause : MissCause)
  /-- R151. -/
  | startByteReceived
  /-- R152. -/
  | lineReturnToMark
  /-- R88, R169. -/
  | storeWriteEnd (copy : StoreCopy)
  deriving DecidableEq, Repr

end Sys2Proof
end

