-- ==== Sys2Proof/Decode.lean ====
section
/-!
DEFINITION. Words to commands. The part is a block: no row of spec/opcode_table.json gives bits, so no word spells a
command. The bytes that do spell an order are a link frame's, read by `frameOrder` (Machine/Layout.lean).
-/

namespace Sys2Proof

/-- The command a word spells by the table's bits: none, since no row of the table gives bits. -/
def decodeTableWord (_nbits _w : Nat) : Option Instr := none

end Sys2Proof
end

