-- ==== Sys2Proof/Machine/State.lean ====
section
/-!
DEFINITION. The state of the CA24, block by block as spec 00 section 3 gives the owners, and the state right after
reset: a new part at power-up, whose store has never been written (R171).
-/

namespace Sys2Proof.Machine

/-! ## Band register (spec 01) -/

/-- Band states (R3), in the order of their codes (R175). -/
inductive BandState where
  | inside
  | quoted
  | barred
  deriving DecidableEq, Repr

/-- A reader: the station address, and the logical door of a lock bank, else 0 (spec 01 2.02). -/
structure Reader where
  station : Nat
  door : Nat
  deriving DecidableEq, Repr

/-- A band's cabin link (spec 01 2.01); an absent link is `none`. -/
inductive CabinLink where
  | queued (group ticket : Nat)
  | offered (cabin : Nat)
  | holding (cabin : Nat)
  deriving DecidableEq, Repr

/-- The quote of a band record (spec 01 2.01). -/
structure Quote where
  lane : Nat
  amount : Nat
  expiry : Nat
  deriving DecidableEq, Repr

/-- A band record, with the slot it stands in (spec 01 2.01). -/
structure BandRecord where
  slot : Nat
  number : BandNo
  state : BandState
  cls : Nat
  entryMinute : Nat
  paidMinutes : Nat
  party : Option Nat
  lockers : List Nat
  link : Option CabinLink
  overstay : Nat
  quote : Option Quote
  replacedBy : Option BandNo
  lastPresentation : Option (Reader × Nat)
  deriving DecidableEq, Repr

/-- A party record (spec 01 5.02); the lead is the first member (R11). -/
structure Party where
  number : Nat
  members : List BandNo
  deriving DecidableEq, Repr

/-- An entry of the master list with its repeat slot (R5). -/
structure MasterBand where
  number : BandNo
  lastPresentation : Option (Reader × Nat)
  deriving DecidableEq, Repr

/-- The band register. `bands` stands in rising order of slot, `parties` in rising order of number. -/
structure BandRegister where
  bands : List BandRecord
  parties : List Party
  masters : List MasterBand
  deriving DecidableEq, Repr

/-! ## Locker map (spec 02) -/

/-- Locker states, in the order of their codes (R175). -/
inductive LockerState where
  | vacant
  | held
  | opening
  | opened
  | forced
  | unreachable
  | orphaned
  | outOfService
  deriving DecidableEq, Repr

/-- Retention (spec 02 2.01), in the order of the codes of R42. -/
inductive Retention where
  | single
  | visit
  deriving DecidableEq, Repr

/-- Who started an opening (spec 02 2.01). -/
inductive Opener where
  | band
  | master
  deriving DecidableEq, Repr

/-- A locker entry (spec 02 2.01). -/
structure Locker where
  state : LockerState
  holder : Option BandNo
  claimRetention : Option Retention
  openedBy : Option Opener
  openingExpiry : Option Nat
  retention : Retention
  inService : Bool
  staffOnly : Bool
  pendingOut : Bool
  remembered : Option LockerState
  doorOpen : Bool
  boltLocked : Bool
  useCount : Nat
  serviceNotified : Bool
  orphanCheck : Bool
  deriving DecidableEq, Repr

/-- A configured bank: its lockers by logical door, its free count (R27), and whether it awaits its first
reconcile since a rebuild (R48). -/
structure Bank where
  lockers : List Locker
  freeCount : Nat
  awaitingFirst : Bool
  deriving DecidableEq, Repr

/-- The locker map: the configured banks in order (R24). -/
structure LockerMap where
  banks : List Bank
  deriving DecidableEq, Repr

/-! ## Cabin unit (spec 03) -/

/-- Cabin states, in the order of their codes (R175). -/
inductive CabinState where
  | free
  | offered
  | occupied
  | cleaning
  | outOfService
  | unreachable
  deriving DecidableEq, Repr

/-- A cabin entry (spec 03 2.01). `loadedLimit` is the limit loaded at the acceptance, which R67's notice names. -/
structure Cabin where
  group : Nat
  state : CabinState
  band : Option BandNo
  ticketShown : Option Nat
  offerExpiry : Option Nat
  offerMisses : Option Nat
  offerJoin : Option Nat
  entryExpiry : Option Nat
  counter : Int
  overstayFlag : Bool
  doorOpen : Bool
  doorOpenSince : Option Nat
  cleaningExpiry : Option Nat
  pendingOut : Bool
  remembered : Option CabinState
  loadedLimit : Nat
  deriving DecidableEq, Repr

/-- An entry of a call queue (spec 03 3.01). -/
structure QueueEntry where
  band : BandNo
  ticket : Nat
  join : Nat
  misses : Nat
  deriving DecidableEq, Repr

/-- What a cabin group holds beside its site table record (spec 03 1.03): current limit, next ticket, call queue. -/
structure Group where
  currentLimit : Nat
  nextTicket : Nat
  queue : List QueueEntry
  deriving DecidableEq, Repr

/-- The cabin unit: cabins and groups in order (R52). -/
structure CabinUnit where
  cabins : List Cabin
  groups : List Group
  deriving DecidableEq, Repr

/-! ## Tariff store (spec 04) -/

/-- Load states of the standby bank (R82). -/
inductive LoadState where
  | empty
  | loading
  | complete
  deriving DecidableEq, Repr

/-- A copy in the non-volatile store: the bytes last given to it, and whether their write is still running
(R88, R169). A copy never written, or spoiled, holds no bytes. -/
structure NvCopy where
  bytes : List Byte
  writing : Bool
  deriving DecidableEq, Repr

/-- The tariff store: banks are held as their 142-byte images (R80, R82, R88). -/
structure TariffStore where
  live : Option (List Byte)
  standby : List Byte
  load : LoadState
  store : NvCopy
  deriving DecidableEq, Repr

/-! ## Exit lanes (spec 06) -/

/-- Lane states, in the order of their codes (R175). -/
inductive LaneState where
  | idle
  | holding
  | passing
  | unreachable
  deriving DecidableEq, Repr

/-- Passing causes (spec 06 2.01), in the order of their codes (spec 11 4.04). -/
inductive PassCause where
  | master
  | collected
  | paid
  deriving DecidableEq, Repr

/-- A lane record (spec 06 2.01). -/
structure Lane where
  state : LaneState
  band : Option BandNo
  cause : Option PassCause
  quoteAmount : Option Nat
  quoteExpiry : Option Nat
  passExpiry : Option Nat
  remembered : Option LaneState
  lastExpiry : Option (BandNo × Nat)
  slot : Option BandNo
  deriving DecidableEq, Repr

/-- The exit lane unit: the configured lanes in order (R104). -/
structure LaneUnit where
  lanes : List Lane
  deriving DecidableEq, Repr

/-! ## Site clock and site table store (spec 07, spec 10) -/

/-- Day states (R130). -/
inductive DayState where
  | closed
  | opened
  deriving DecidableEq, Repr

/-- The site clock and the day record (R124, R130). -/
structure SiteClock where
  counter : Nat
  clockValid : Bool
  day : DayState
  openMinute : Option Nat
  wrapped : Bool
  deriving DecidableEq, Repr

/-- A bank record of the site table (spec 10 1.02). -/
structure BankSetting where
  doors : Nat
  mirrored : Bool
  retention : Retention
  pitch : Nat
  deriving DecidableEq, Repr

/-- A cabin record of the site table. -/
structure CabinSetting where
  group : Nat
  pitch : Nat
  deriving DecidableEq, Repr

/-- A group record of the site table. -/
structure GroupSetting where
  offerWindow : Nat
  cleaningTime : Nat
  occupancyLimit : Nat
  abandonTime : Nat
  callPad : Bool
  pitch : Nat
  deriving DecidableEq, Repr

/-- A lane record of the site table. -/
structure LaneSetting where
  quoteWindow : Nat
  passWindow : Nat
  pitch : Nat
  deriving DecidableEq, Repr

/-- The committed site table: the records below their counts (spec 10 1.02). -/
structure SiteTable where
  generation : Nat
  openWindow : Nat
  repeatWindow : Nat
  serviceInterval : Nat
  banks : List BankSetting
  cabins : List CabinSetting
  groups : List GroupSetting
  lanes : List LaneSetting
  masters : List BandNo
  deriving DecidableEq, Repr

/-- The site table store. The part is Configured exactly when `site` is present (R166). -/
structure SiteStore where
  site : Option SiteTable
  staging : List Byte
  store : NvCopy
  deriving DecidableEq, Repr

/-! ## Field line master (spec 08) -/

/-- Health of a configured station (R136); a station not in the table is Absent. -/
inductive Health where
  | starting
  | answering
  | lost
  deriving DecidableEq, Repr

/-- Kinds of status read (R144). -/
inductive ReadKind where
  | plain
  | clearing
  deriving DecidableEq, Repr

/-- Kinds of station (spec 08 1.03). -/
inductive StationKind where
  | lockBank
  | cabinUnit
  | callPad
  | laneUnit
  deriving DecidableEq, Repr

/-- The two-character display codes of the spec. -/
inductive DisplayCode where
  /-- "–1", unknown band (R6). -/
  | unknown
  | br | cl | se | st | fl | doorOpen | no | al | orphan | os | na | iq | hc | qf | byCode
  deriving DecidableEq, Repr

/-- The texts of the standing displays (R147, R107, R56). -/
inductive DisplayText where
  | blank
  | ticket (n : Nat)
  | ticketPlace (n place : Nat)
  | ticketCabin (n cabin : Nat)
  | amount (cents : Nat)
  | lockerRefusal (locker : Nat)
  | cabinRefusal (cabin : Nat)
  | code (c : DisplayCode)
  | go
  deriving DecidableEq, Repr

/-- Lamp settings (R147). -/
inductive Lamp where
  | off
  | steady
  | slowFlash
  | fastFlash
  deriving DecidableEq, Repr

/-- Bolt entry values (R138 (a)). -/
inductive BoltWish where
  | locked
  | unlocked
  | unlockedUntil (expiry : Nat)
  deriving DecidableEq, Repr

/-- Gate entry values (R138 (b)). -/
inductive GateWish where
  | shut
  | openUntil (expiry : Nat)
  deriving DecidableEq, Repr

/-- One-shot patterns (R146). -/
inductive OneShot where
  | accept
  | refuse
  | call
  deriving DecidableEq, Repr

/-- Slot actions (R105 (b)). -/
inductive SlotAction where
  | hold
  | giveBack
  | collect
  | retain
  deriving DecidableEq, Repr

/-- The entries of a desired-state image (R138). A call pad's and a cabin's one reader is door 0. -/
inductive EntryKey where
  | sounder
  | slotAction
  | shutter
  | gate
  | standing
  | bolt (door : Nat)
  | lamp (door : Nat)
  | flash (door : Nat)
  deriving DecidableEq, Repr

/-- The values of desired entries (R138 (a) to (h)). -/
inductive EntryValue where
  | sounder (alarm : Bool) (oneShot : Option OneShot)
  | slotAction (act : Option (SlotAction × BandNo))
  | shutter (isOpen : Bool)
  | gate (wish : GateWish)
  | standing (text : DisplayText)
  | bolt (wish : BoltWish)
  | lamp (lamp : Lamp)
  | flash (code : Option DisplayCode)
  deriving DecidableEq, Repr

/-- A desired entry: its value, its dirty mark (R138), and whether the poll in flight carried it and it has not
been written since (R139). -/
structure Entry where
  key : EntryKey
  value : EntryValue
  dirty : Bool
  carried : Bool
  deriving DecidableEq, Repr

/-- A configured record of the station table (R136). The image stands in the image order of R139. -/
structure Station where
  addr : Nat
  health : Health
  missCount : Nat
  statusDue : Option ReadKind
  lastBit : Option Bool
  restartSeen : Bool
  image : List Entry
  lastStatus : Option (StatusReport × Nat)
  lastGood : Option Nat
  deriving DecidableEq, Repr

/-- The value of an entry as it is sent (R139, R146): an expiry second as a duration, a sounder with the two tones
its station's pitch selects, in Hz. -/
inductive SentValue where
  | sounder (alarm : Bool) (oneShot : Option OneShot) (tone refusalTone : Nat)
  | slotAction (act : Option (SlotAction × BandNo))
  | shutter (isOpen : Bool)
  | gateShut
  | gateOpenFor (seconds : Nat)
  | standing (text : DisplayText)
  | boltLocked
  | boltUnlocked
  | boltUnlockedFor (seconds : Nat)
  | lamp (lamp : Lamp)
  | flash (code : Option DisplayCode)
  deriving DecidableEq, Repr

/-- A poll (R137, R139, R144): the address, a status read's kind or none for an ordinary poll, the last event bit
taken, and the entries carried under the station's own, physical, door indexes (R25). -/
structure Poll where
  addr : Nat
  read : Option ReadKind
  bit : Option Bool
  sent : List (EntryKey × SentValue)
  deriving DecidableEq, Repr

/-- The visit of the rotation (R137): its address, the polls sent at it, whether a further one follows. -/
structure Visit where
  addr : Nat
  polls : Nat
  again : Bool
  deriving DecidableEq, Repr

/-- The field line master: the configured stations in rising order of address (R136), the visit of the rotation and
the poll in flight (R137). -/
structure FieldLine where
  stations : List Station
  visit : Option Visit
  inFlight : Option Poll
  deriving DecidableEq, Repr

/-! ## Settlement record (spec 05) -/

/-- The working of a computation (R102). -/
structure Working where
  minute : Nat
  wrapped : Bool
  stay : Nat
  overstay : Nat
  units : Nat
  timeSum : Nat
  cabinSum : Nat
  total : Nat
  rounded : Nat
  capped : Bool
  generation : Nat
  deriving DecidableEq, Repr

/-! ## Link controller, condition and notice unit (spec 09) -/

/-- A well-framed order: kind, tag and body (R151, R174). -/
structure OrderFrame where
  kind : Byte
  tag : Byte
  body : List Byte
  deriving DecidableEq, Repr

/-- Result codes, in the order of the table of result codes, which numbers them (R174). -/
inductive ResultCode where
  | done
  | unknown
  | malformed
  | notReady
  | notOpen
  | notClosed
  | range
  | invalid
  | inUse
  | tableFull
  | noSuch
  | noParty
  | partyFull
  | settling
  | bound
  | bandsRemain
  | short
  | expired
  | cancelled
  | busy
  | overrun
  deriving DecidableEq, Repr

/-- What a watch observes (R160). -/
inductive Target where
  | locker (n : Nat)
  | cabin (n : Nat)
  | lane (n : Nat)
  | station (n : Nat)
  deriving DecidableEq, Repr

/-- Where CABIN ASSIGN leaves the band (R60). -/
inductive Placement where
  | position (n : Nat)
  | cabin (n : Nat)
  deriving DecidableEq, Repr

/-- Cause carried by OPEN DAY's NotReady (R131). -/
inductive ReadyCause where
  | clock
  | tariff
  deriving DecidableEq, Repr

/-- What READ STATION reports of a configured station (R148 (b) to (f)). -/
structure StationReadout where
  health : Health
  missCount : Nat
  statusDue : Option ReadKind
  dirtyEntries : Nat
  lastGood : Option Nat
  lastStatus : Option (StatusReport × Nat)
  deriving DecidableEq, Repr

/-- What QUOTE PREVIEW adds to the charge and its working (R103 (b), (c)). DESIGN CHOICE (log entry 42): R103 (b) names only
whether a cabin link is present and of which kind; the content held here is the whole link, with its group and ticket or
its cabin. -/
structure PreviewExtra where
  lockers : Nat
  link : Option CabinLink
  standing : Option (Nat × Nat)
  deriving DecidableEq, Repr

/-- A band's place in its party (R17): position from 1, member count, lead. -/
structure PartyPlace where
  position : Nat
  members : Nat
  lead : Option BandNo
  deriving DecidableEq, Repr

/-- The parameters of a group (spec 03 1.03): those of its group record, its current limit and its next ticket. -/
structure GroupParameters where
  offerWindow : Nat
  cleaningTime : Nat
  occupancyLimit : Nat
  abandonTime : Nat
  callPad : Bool
  currentLimit : Nat
  nextTicket : Nat
  deriving DecidableEq, Repr

/-- Answer bodies by the content their rules name (R174; spec 00 2.01 (d)). Where a rule has the answer carry an entry or a
record, the body holds State's whole record (log entry 45). -/
inductive AnswerBody where
  | none
  /-- R10: the party number or none. -/
  | issued (party : Option Nat)
  /-- R17: the record, and position, member count and lead where the band has a party. -/
  | bandRecord (r : BandRecord) (place : Option PartyPlace)
  /-- R18. -/
  | bandList (numbers : List BandNo) (next inUse : Nat)
  /-- R39. -/
  | released (formerHolder : Option BandNo) (state : LockerState)
  /-- R37. -/
  | lockerState (state : LockerState)
  /-- R40. -/
  | lockerService (state : LockerState) (pending : Bool)
  /-- R43. -/
  | windowCount (n : Nat)
  /-- R44. -/
  | locker (n : Nat) (entry : Locker)
  /-- R27: doors, mirrored, default retention, free count, lockers in each of the eight states, health. -/
  | bank (doors : Nat) (mirrored : Bool) (retention : Retention) (free : Nat) (counts : List Nat) (health : Option Health)
  /-- R60. -/
  | assigned (ticket : Nat) (place : Placement)
  /-- R71, R72. -/
  | cabinService (state : CabinState) (pending : Bool)
  /-- R73. -/
  | cabin (n : Nat) (entry : Cabin)
  /-- R73: parameters, cabins in each state, entries in the queue, entries reported. -/
  | queue (parameters : GroupParameters) (counts : List Nat) (length : Nat) (entries : List QueueEntry)
  /-- R83. -/
  | loadState (load : LoadState)
  /-- R85. -/
  | generation (n : Nat)
  /-- R89, live: absent, or generation and bytes. -/
  | tariffLive (bank : Option (Nat × List Byte))
  /-- R89, standby. -/
  | tariffStandby (load : LoadState) (generation : Nat) (bytes : List Byte)
  /-- R103. -/
  | preview (charge : Nat) (working : Working) (extra : PreviewExtra)
  /-- R113 (a) Busy: the standing quote's amount and expiry. -/
  | quoteStanding (amount expiry : Nat)
  /-- R113 (b) Short: the quote amount. -/
  | quoteAmount (amount : Nat)
  /-- R113 (b) Done: the quote amount and the amount paid. -/
  | paid (quote amount : Nat)
  /-- R113 (c): the second of the expiry. -/
  | expiredAt (second : Nat)
  /-- R115. -/
  | quoteCancelled (band : BandNo) (amount : Nat)
  /-- R121. -/
  | lane (n : Nat) (entry : Lane) (health : Option Health)
  /-- R127: the counter as set and its former value. -/
  | clockSet (counter former : Nat)
  /-- R128. -/
  | clockAdjusted (counter : Nat)
  /-- R129. -/
  | clock (counter minute : Nat) (valid : Bool) (day : DayState) (openMinute : Option Nat) (wrapped : Bool) (bands : Nat)
  /-- R131 (b), (c). -/
  | notReady (cause : ReadyCause)
  /-- R131 (d). -/
  | bandsRemain (n : Nat)
  /-- R131. -/
  | dayOpened (minute : Nat)
  /-- R132: band records, lockers holding a band, cabins Occupied. -/
  | dayClosed (bands lockers cabins : Nat)
  /-- R135. -/
  | purged (bands quotes vacated forced cabins : Nat)
  /-- R148: kind, and for a configured station its health, misses, read due, dirty entries, last good, last status. -/
  | station (kind : StationKind) (readout : Option StationReadout)
  /-- R158. -/
  | conditions (bits mask : ClassBits) (notices : Nat) (dropped : Bool)
  /-- R159. -/
  | formerMask (mask : ClassBits)
  /-- R164: part state, site generation, live generation, day state, clock-valid, speed code. -/
  | identity (configured : Bool) (site live : Option Nat) (day : DayState) (valid : Bool) (speed : BitVec 2)
  /-- R152: the answer to RESET, of no content. -/
  | reset
  /-- R161: the state code reached and the second of the change. -/
  | watchMet (state second : Nat)
  /-- R162: the target's state code as it stands. -/
  | watchExpired (state : Nat)
  /-- R170. -/
  | siteCommitted (generation banks lockers cabins lanes : Nat)
  deriving DecidableEq, Repr

/-- An answer: the order's tag, the result code, the Clamped flag and the body (R174). -/
structure Answer where
  tag : Byte
  code : ResultCode
  clamped : Bool
  body : AnswerBody
  deriving DecidableEq, Repr

/-- Notice classes, numbered in this order (R174). -/
inductive NoticeClass where
  | lockerAlarm
  | cabinOverstay
  | callMissed
  | settlement
  | stationHealth
  | tariffSwitched
  | dayEvent
  | link
  | barredSeen
  | service
  deriving DecidableEq, Repr

/-- Causes of LockerAlarm (R36). -/
inductive AlarmCause where
  | openedWhileHeld
  | openedWhileOrphaned
  | foundOpen
  deriving DecidableEq, Repr

/-- Outcomes of CallMissed (R58, R65). -/
inductive MissOutcome where
  | requeued
  | dropped
  | displaced
  deriving DecidableEq, Repr

/-- Causes of QuoteExpired (R114, R119, R120). -/
inductive QuoteEnd where
  | window
  | regain
  | reconcile
  deriving DecidableEq, Repr

/-- Causes of StationHealth that name a station (R142, R143, R145). -/
inductive HealthCause where
  | lost
  | regained
  | restarted
  deriving DecidableEq, Repr

/-- Causes of a frame's discard (R157). -/
inductive DiscardCause where
  | length
  | gap
  | check
  | noPlace
  deriving DecidableEq, Repr

/-- Contents of DayEvent, by reason (R131, R132, R133, R135, R152). -/
inductive DayReason where
  | opened (minute generation : Nat)
  | closedByOrder (bands lockers cabins : Nat)
  | closedAtMidnight (bands lockers cabins : Nat)
  | wrapped (bands : Nat)
  | purged (bands quotes vacated forced cabins : Nat)
  | linkReset
  deriving DecidableEq, Repr

/-- Notices by the content their raising rules name (R156). -/
inductive NoticeContent where
  /-- R36. -/
  | lockerAlarm (locker : Nat) (holder : Option BandNo) (second : Nat) (cause : AlarmCause)
  /-- R67. -/
  | cabinOverstay (cabin group : Nat) (band : Option BandNo) (limit : Nat)
  /-- R69. -/
  | cabinAbandoned (cabin : Nat) (band : Option BandNo) (minutes : Nat)
  /-- R58, R65: the cabin is absent for Displaced. -/
  | callMissed (band : BandNo) (group : Nat) (cabin : Option Nat) (ticket : Nat) (outcome : MissOutcome)
  /-- R112; the generation read is in the working. -/
  | settlementDue (band : BandNo) (lane amount expiry : Nat) (working : Working)
  /-- R114, R119, R120. -/
  | quoteExpired (band : BandNo) (lane amount : Nat) (cause : QuoteEnd)
  /-- R116. -/
  | noPass (lane : Nat) (band : Option BandNo) (cause : Option PassCause)
  /-- R142, R143, R145. -/
  | stationHealth (addr : Nat) (kind : StationKind) (cause : HealthCause) (second : Nat)
  /-- R117. -/
  | collectorFault (addr : Nat) (lane : LaneState)
  /-- R86: new generation, replaced generation or none, minute of the boundary. -/
  | tariffSwitched (generation : Nat) (former : Option Nat) (minute : Nat)
  | dayEvent (reason : DayReason)
  /-- R157. -/
  | link (cause : DiscardCause) (second count : Nat)
  /-- R8. -/
  | barredSeen (band : BandNo) (reader : Reader) (second : Nat) (replacedBy : Option BandNo)
  /-- R31. -/
  | service (locker useCount : Nat)
  deriving DecidableEq, Repr

/-- A notice with the second at which it was raised (R156). -/
structure Notice where
  content : NoticeContent
  second : Nat
  deriving DecidableEq, Repr

/-- An open watch (R161): `states` holds the state codes of its set, `untilIn` its polarity. -/
structure Watch where
  tag : Byte
  target : Target
  states : List Nat
  untilIn : Bool
  expiry : Nat
  deriving DecidableEq, Repr

/-- The receive framer (R151), and its wait for mark after a break (R152). -/
inductive Framer where
  | hunting
  | inFrame
  | awaitingMark
  deriving DecidableEq, Repr

/-- The transmitter (R155): Idle, or Sending. The answer being sent stands at the head of the answer queue; a
notice being sent has left its queue and carries the Dropped flag (R156). -/
inductive Transmitter where
  | idle
  | answer
  | notice (n : Notice) (dropped : Bool)
  deriving DecidableEq, Repr

/-- RESET between its taking and its warm reset (R152): its answer not yet sent, or sent in full. -/
inductive ResetPhase where
  | none
  | answering
  | due
  deriving DecidableEq, Repr

/-- The link controller (spec 00 3.01, spec 09). -/
structure LinkController where
  speed : BitVec 2
  framer : Framer
  hold : Bool
  orders : List OrderFrame
  answers : List Answer
  notices : List Notice
  dropped : Bool
  watches : List Watch
  tx : Transmitter
  resetPhase : ResetPhase
  deriving DecidableEq, Repr

/-- The condition and notice unit: bit `n` for class `n` (R156, R159, R174). -/
structure Conditions where
  bits : ClassBits
  mask : ClassBits
  deriving DecidableEq, Repr

/-- The whole machine. `pending` is the model's queue of waiting commands (log entry 1). -/
structure State where
  pending : List Instr
  bdr : BandRegister
  lmu : LockerMap
  cbu : CabinUnit
  tfs : TariffStore
  xlu : LaneUnit
  sck : SiteClock
  sts : SiteStore
  flm : FieldLine
  lkc : LinkController
  cnu : Conditions
  deriving DecidableEq, Repr

/-- Reasons to stop with a fault: none. The spec gives the part no state in which it stops, so no meaning faults. -/
inductive Fault where
  deriving DecidableEq, Repr

/-- Reasons to refuse a command. -/
inductive Refusal where
  /-- Raised by an arm of `exec` for a row that has no meaning yet; no arm raises it. Safe. -/
  | notModelled (mnemonic : String)
  deriving DecidableEq, Repr

/-! ## After reset -/

/-- The band register after a cold reset without a good site image (R21). -/
def emptyRegister : BandRegister := { bands := [], parties := [], masters := [] }

/-- The site clock and day record after a cold reset (R124, R130). -/
def resetClock : SiteClock := { counter := 0, clockValid := false, day := .closed, openMinute := none, wrapped := false }

/-- The link controller after a cold reset (R165), with the straps' speed code and the hold line as it stands. -/
def resetLink (straps : BitVec 2) (hold : Bool) : LinkController :=
  { speed := straps, framer := .hunting, hold := hold, orders := [], answers := [], notices := [], dropped := false,
    watches := [], tx := .idle, resetPhase := .none }

/-- Conditions clear and every class enabled (R159, R165). -/
def resetConditions : Conditions := { bits := 0, mask := BitVec.allOnes 10 }

/-- A copy of the non-volatile store that has never been written (R171). -/
def neverWritten : NvCopy := { bytes := [], writing := false }

/-- The tariff store after a cold reset that finds no good copy (R88, R91 (a)). -/
def emptyTariff (store : NvCopy) : TariffStore :=
  { live := none, standby := List.replicate Config.tariffBytes 0, load := .empty, store := store }

/-- The site table store after a cold reset that finds no good image (R171). -/
def emptySite (store : NvCopy) : SiteStore :=
  { site := none, staging := List.replicate Config.siteBytes 0, store := store }

/-- A new part right after power-up: its store has never been written, so it is Unconfigured with no live bank and
the clock not valid (R171). The straps and the hold line are the installer's: code 0 and negated (log entry 17). -/
def State.reset : State :=
  { pending := []
    bdr := emptyRegister
    lmu := { banks := [] }
    cbu := { cabins := [], groups := [] }
    tfs := emptyTariff neverWritten
    xlu := { lanes := [] }
    sck := resetClock
    sts := emptySite neverWritten
    flm := { stations := [], visit := none, inFlight := none }
    lkc := resetLink 0 false
    cnu := resetConditions }

end Sys2Proof.Machine
end

