-- ==== Sys2Proof/Machine/Layout.lean ====
section
/-!
DEFINITION. Bytes: multi-byte fields, low byte first (spec 11 1.01), the check value (R173), the readers and the
clamping of the site image (spec 11 section 5, R168, R169) and of the tariff image (spec 11 section 6, R84, R85).
-/

namespace Sys2Proof.Machine

/-! ## Fields -/

/-- The byte at an offset, as a number. -/
def byteAt (l : List Byte) (i : Nat) : Nat := (l.getD i 0).toNat

/-- A 2-byte field, low byte first. -/
def u16At (l : List Byte) (i : Nat) : Nat := byteAt l i + 256 * byteAt l (i + 1)

/-- A 4-byte field, low byte first. -/
def u32At (l : List Byte) (i : Nat) : Nat := u16At l i + 65536 * u16At l (i + 2)

/-- A 2-byte field read as two's complement (ADJUST CLOCK). -/
def s16At (l : List Byte) (i : Nat) : Int := if u16At l i < 32768 then u16At l i else (u16At l i : Int) - 65536

/-- A 5-byte band number, low byte first. -/
def bandAt (l : List Byte) (i : Nat) : BandNo := BitVec.ofNat 40 (u32At l i + 4294967296 * byteAt l (i + 4))

/-- A number as one byte. -/
def u8Bytes (n : Nat) : List Byte := [BitVec.ofNat 8 n]

/-- A number as 2 bytes, low byte first. -/
def u16Bytes (n : Nat) : List Byte := [BitVec.ofNat 8 n, BitVec.ofNat 8 (n / 256)]

/-- A number as 4 bytes, low byte first. -/
def u32Bytes (n : Nat) : List Byte := u16Bytes n ++ u16Bytes (n / 65536)

/-- A band number as 5 bytes, low byte first. -/
def bandBytes (b : BandNo) : List Byte := u32Bytes b.toNat ++ u8Bytes (b.toNat / 4294967296)

/-- Write a segment into a byte array from an offset onward (R83, R167). -/
def writeSegment (l : List Byte) (offset : Nat) (segment : List Byte) : List Byte :=
  l.take offset ++ segment ++ l.drop (offset + segment.length)

/-- A band number of 0 or 2^40−1 is not valid (spec 00 5.03, R4). -/
def invalidBand (b : BandNo) : Bool := b = 0 || b = BitVec.allOnes 40

/-! ## The check value (R173) -/

/-- One shift of the register. -/
def crcShift (r : Half) : Half := if r.msb then (r <<< 1) ^^^ 0x1021#16 else r <<< 1

/-- `n` shifts of the register. -/
def crcShifts : Nat → Half → Half
  | 0, r => r
  | n + 1, r => crcShifts n (crcShift r)

/-- One byte taken into the register: into its upper 8 bits, then eight shifts. -/
def crcByte (r : Half) (b : Byte) : Half := crcShifts 8 (r ^^^ (b.zeroExtend 16 <<< 8))

/-- The check value over a run of bytes (R173). -/
def crc (l : List Byte) : Half := l.foldl crcByte 0xFFFF#16

/-- An image of `n` bytes carries its check value in its last 2 (R84 (b), R168 (a)). -/
def checkValueMatches (image : List Byte) (n : Nat) : Bool :=
  image.length = n && (crc (image.take (n - 2))).toNat = u16At image (n - 2)

/-- The image with its check value computed afresh (R85, R169). -/
def withCheckValue (image : List Byte) (n : Nat) : List Byte :=
  image.take (n - 2) ++ u16Bytes (crc (image.take (n - 2))).toNat

/-! ## Link frame (spec 11 section 2) -/

/-- A complete frame: start byte, a length of 3 to 250, and as many bytes as the length asks for (R151). -/
def isFrame (bytes : List Byte) : Bool :=
  byteAt bytes 0 = 0xC5 && 3 ≤ byteAt bytes 1 && byteAt bytes 1 ≤ 250 && bytes.length = byteAt bytes 1 + 4

/-- The check of a complete frame, over length, kind, tag and body (R151). -/
def frameCheckMatches (bytes : List Byte) : Bool :=
  (crc ((bytes.drop 1).take (byteAt bytes 1 + 1))).toNat = u16At bytes (byteAt bytes 1 + 2)

/-- The order a well-framed frame carries. -/
def frameOrder (bytes : List Byte) : OrderFrame :=
  { kind := bytes.getD 2 0, tag := bytes.getD 3 0, body := (bytes.drop 4).take (byteAt bytes 1 - 2) }

/-- The frame of a kind, tag and body: the layout of spec 11 2.01. -/
def frameBytes (kind tag : Byte) (body : List Byte) : List Byte :=
  let inner := u8Bytes (body.length + 2) ++ [kind, tag] ++ body
  [0xC5] ++ inner ++ u16Bytes (crc inner).toNat

/-! ## Clamping -/

/-- A number brought to the nearest limit of its range (spec 00 5.12 (b)). -/
def clamp (lo hi n : Nat) : Nat := if n < lo then lo else if hi < n then hi else n

/-- A field of an image with its range: offset, bytes (1 or 2), least and greatest value. -/
structure RangedField where
  offset : Nat
  wide : Bool
  least : Nat
  greatest : Nat
  deriving DecidableEq, Repr

/-- One field of an image brought into its range. -/
def clampField (image : List Byte) (f : RangedField) : List Byte :=
  if f.wide then writeSegment image f.offset (u16Bytes (clamp f.least f.greatest (u16At image f.offset)))
  else writeSegment image f.offset (u8Bytes (clamp f.least f.greatest (byteAt image f.offset)))

/-- Every field of a list brought into its range. -/
def clampFields (fields : List RangedField) (image : List Byte) : List Byte := fields.foldl clampField image

/-- An image of `n` bytes clamped, its check value computed afresh where any figure was changed (R85, R169). -/
def clampImage (n : Nat) (fields : List RangedField) (image : List Byte) : List Byte :=
  let clamped := clampFields fields image
  if clamped = image then image else withCheckValue clamped n

/-! ## Site image (spec 11 section 5) -/

def siteBankOffset (b : Nat) : Nat := 16 + 4 * b
def siteCabinOffset (c : Nat) : Nat := 144 + 2 * c
def siteGroupOffset (g : Nat) : Nat := 240 + 12 * g
def siteLaneOffset (l : Nat) : Nat := 288 + 4 * l
def siteMasterOffset (m : Nat) : Nat := 304 + 5 * m

def siteBankCount (i : List Byte) : Nat := byteAt i 4
def siteCabinCount (i : List Byte) : Nat := byteAt i 5
def siteLaneCount (i : List Byte) : Nat := byteAt i 6
def siteMasterCount (i : List Byte) : Nat := byteAt i 7

/-- A bank record: doors, flags (bit 0 mirrored, bit 1 default retention Single), pitch. -/
def siteBank (i : List Byte) (b : Nat) : BankSetting :=
  { doors := byteAt i (siteBankOffset b)
    mirrored := (byteAt i (siteBankOffset b + 1)).testBit 0
    retention := if (byteAt i (siteBankOffset b + 1)).testBit 1 then .single else .visit
    pitch := byteAt i (siteBankOffset b + 2) }

def siteCabin (i : List Byte) (c : Nat) : CabinSetting :=
  { group := byteAt i (siteCabinOffset c), pitch := byteAt i (siteCabinOffset c + 1) }

/-- A group record: W, K, L, A, call pad present (0 no, other values yes), pitch. -/
def siteGroup (i : List Byte) (g : Nat) : GroupSetting :=
  { offerWindow := u16At i (siteGroupOffset g)
    cleaningTime := u16At i (siteGroupOffset g + 2)
    occupancyLimit := byteAt i (siteGroupOffset g + 4)
    abandonTime := u16At i (siteGroupOffset g + 5)
    callPad := byteAt i (siteGroupOffset g + 7) ≠ 0
    pitch := byteAt i (siteGroupOffset g + 8) }

def siteLane (i : List Byte) (l : Nat) : LaneSetting :=
  { quoteWindow := u16At i (siteLaneOffset l)
    passWindow := byteAt i (siteLaneOffset l + 2)
    pitch := byteAt i (siteLaneOffset l + 3) }

def siteMaster (i : List Byte) (m : Nat) : BandNo := bandAt i (siteMasterOffset m)

/-- The site table a site image holds: the records below their counts, and all four groups (R52). -/
def siteTableOf (i : List Byte) : SiteTable :=
  { generation := u16At i 2
    openWindow := byteAt i 8
    repeatWindow := byteAt i 9
    serviceInterval := u16At i 10
    banks := (List.range (siteBankCount i)).map (siteBank i)
    cabins := (List.range (siteCabinCount i)).map (siteCabin i)
    groups := (List.range 4).map (siteGroup i)
    lanes := (List.range (siteLaneCount i)).map (siteLane i)
    masters := (List.range (siteMasterCount i)).map (siteMaster i) }

/-- The structure checks (b) to (j) of R168. -/
def siteStructureGood (i : List Byte) : Bool :=
  u16At i 0 = Config.partCode
  && 1 ≤ siteBankCount i && siteBankCount i ≤ 32
  && (List.range (siteBankCount i)).all (fun b => 8 ≤ (siteBank i b).doors && (siteBank i b).doors ≤ 24)
  && siteCabinCount i ≤ 48
  && (List.range (siteCabinCount i)).all (fun c => (siteCabin i c).group ≤ 3)
  && 1 ≤ siteLaneCount i && siteLaneCount i ≤ 4
  && siteMasterCount i ≤ 8
  && (List.range (siteMasterCount i)).all (fun m => !invalidBand (siteMaster i m))
  && decide ((List.range (siteMasterCount i)).map (siteMaster i)).Nodup

/-- A site image passes R168 (a) to (j). -/
def siteImageGood (i : List Byte) : Bool := checkValueMatches i Config.siteBytes && siteStructureGood i

/-- The settings R169 clamps: those of the header, of the records below their counts, and of all four groups. -/
def siteRangedFields (i : List Byte) : List RangedField :=
  [⟨8, false, 4, 15⟩, ⟨9, false, 1, 5⟩]
  ++ (List.range (siteBankCount i)).map (fun b => ⟨siteBankOffset b + 2, false, 0, 3⟩)
  ++ (List.range (siteCabinCount i)).map (fun c => ⟨siteCabinOffset c + 1, false, 0, 3⟩)
  ++ (List.range 4).flatMap (fun g =>
      [⟨siteGroupOffset g, true, 30, 300⟩, ⟨siteGroupOffset g + 2, true, 0, 600⟩, ⟨siteGroupOffset g + 4, false, 5, 120⟩,
       ⟨siteGroupOffset g + 5, true, 30, 600⟩, ⟨siteGroupOffset g + 8, false, 0, 3⟩])
  ++ (List.range (siteLaneCount i)).flatMap (fun l =>
      [⟨siteLaneOffset l, true, 60, 600⟩, ⟨siteLaneOffset l + 2, false, 3, 15⟩, ⟨siteLaneOffset l + 3, false, 0, 3⟩])

/-- The site image as clamped by R169. -/
def clampSite (i : List Byte) : List Byte := clampImage Config.siteBytes (siteRangedFields i) i

/-! ## Tariff image (spec 11 section 6) -/

def tariffGeneration (t : List Byte) : Nat := u16At t 0
def tariffBandCount (t : List Byte) : Nat := byteAt t 2
def tariffStart (t : List Byte) (j : Nat) : Nat := u16At t (4 + 2 * j)
/-- r(j,c), in fine units. -/
def tariffRate (t : List Byte) (j c : Nat) : Nat := u16At t (12 + 8 * c + 2 * j)
def tariffClassOffset (c : Nat) : Nat := 76 + 8 * c
def tariffAllowance (t : List Byte) (c : Nat) : Nat := byteAt t (tariffClassOffset c)
def tariffMask (t : List Byte) (c : Nat) : Nat := byteAt t (tariffClassOffset c + 1)
/-- Whether the access mask includes a group. -/
def tariffGroupAccess (t : List Byte) (c g : Nat) : Bool := (tariffMask t c).testBit g
/-- The staff locker right, bit 4 of the mask. -/
def tariffStaffRight (t : List Byte) (c : Nat) : Bool := (tariffMask t c).testBit 4
def tariffGrace (t : List Byte) (c : Nat) : Nat := byteAt t (tariffClassOffset c + 2)
def tariffUnit (t : List Byte) (c : Nat) : Nat := byteAt t (tariffClassOffset c + 3)
def tariffCap (t : List Byte) (c : Nat) : Nat := u16At t (tariffClassOffset c + 4)
def tariffCabinRate (t : List Byte) (c : Nat) : Nat := u16At t (tariffClassOffset c + 6)

/-- The structure checks (c) and (d) of R84. -/
def tariffStructureGood (t : List Byte) : Bool :=
  1 ≤ tariffBandCount t && tariffBandCount t ≤ 4 && tariffStart t 0 = 0
  && (List.range (tariffBandCount t - 1)).all
      (fun j => tariffStart t j < tariffStart t (j + 1) && tariffStart t (j + 1) ≤ 1439)

/-- R84 (b) to (d); also the test of the stored copy at a cold reset (R88). -/
def tariffImageGood (t : List Byte) : Bool := checkValueMatches t Config.tariffBytes && tariffStructureGood t

/-- The excess of an access mask cleared (R85 (b)): bits 0 to 4 are kept. -/
def clearMaskExcess (t : List Byte) (c : Nat) : List Byte :=
  writeSegment t (tariffClassOffset c + 1) (u8Bytes (tariffMask t c % 32))

/-- One class record clamped (R85 (a) to (d)). -/
def clampClass (t : List Byte) (c : Nat) : List Byte :=
  clampFields [⟨tariffClassOffset c, false, 0, 3⟩, ⟨tariffClassOffset c + 2, false, 0, 30⟩, ⟨tariffClassOffset c + 3, false, 1, 60⟩]
    (clearMaskExcess t c)

/-- The tariff image as clamped by R85. -/
def clampTariff (t : List Byte) : List Byte :=
  let clamped := (List.range 8).foldl clampClass t
  if clamped = t then t else withCheckValue clamped Config.tariffBytes

/-! ## Codes (R174, R175) -/

def BandState.code : BandState → Nat
  | .inside => 0 | .quoted => 1 | .barred => 2

def LockerState.code : LockerState → Nat
  | .vacant => 0 | .held => 1 | .opening => 2 | .opened => 3 | .forced => 4 | .unreachable => 5 | .orphaned => 6 | .outOfService => 7

def CabinState.code : CabinState → Nat
  | .free => 0 | .offered => 1 | .occupied => 2 | .cleaning => 3 | .outOfService => 4 | .unreachable => 5

def LaneState.code : LaneState → Nat
  | .idle => 0 | .holding => 1 | .passing => 2 | .unreachable => 3

/-- Health codes; an Absent station has code 0. -/
def healthCode : Option Health → Nat
  | none => 0 | some .starting => 1 | some .answering => 2 | some .lost => 3

def ResultCode.code : ResultCode → Nat
  | .done => 0 | .unknown => 1 | .malformed => 2 | .notReady => 3 | .notOpen => 4 | .notClosed => 5 | .range => 6
  | .invalid => 7 | .inUse => 8 | .tableFull => 9 | .noSuch => 10 | .noParty => 11 | .partyFull => 12 | .settling => 13
  | .bound => 14 | .bandsRemain => 15 | .short => 16 | .expired => 17 | .cancelled => 18 | .busy => 19 | .overrun => 20

def NoticeClass.code : NoticeClass → Nat
  | .lockerAlarm => 0 | .cabinOverstay => 1 | .callMissed => 2 | .settlement => 3 | .stationHealth => 4
  | .tariffSwitched => 5 | .dayEvent => 6 | .link => 7 | .barredSeen => 8 | .service => 9

/-- The class of a notice (spec 09 4.01). -/
def NoticeContent.cls : NoticeContent → NoticeClass
  | .lockerAlarm .. => .lockerAlarm
  | .cabinOverstay .. => .cabinOverstay
  | .cabinAbandoned .. => .cabinOverstay
  | .callMissed .. => .callMissed
  | .settlementDue .. => .settlement
  | .quoteExpired .. => .settlement
  | .noPass .. => .settlement
  | .stationHealth .. => .stationHealth
  | .collectorFault .. => .stationHealth
  | .tariffSwitched .. => .tariffSwitched
  | .dayEvent .. => .dayEvent
  | .link .. => .link
  | .barredSeen .. => .barredSeen
  | .service .. => .service

/-- The number of a notice within its class (R174). -/
def NoticeContent.number : NoticeContent → Nat
  | .cabinAbandoned .. => 1
  | .quoteExpired .. => 1
  | .noPass .. => 2
  | _ => 0

end Sys2Proof.Machine
end

