-- ==== Sys2Proof/Machine/Ops.lean ====
section
/-!
DEFINITION. The named operations on each block's state. A block's operation is a function on that block; the
operations on the whole state each are one record update, so what an operation leaves alone is seen from its text.
-/

namespace Sys2Proof.Machine

/-! ## Time of day (R124, R125) -/

/-- The second `n` seconds after a second of day (R125). -/
def addSeconds (second n : Nat) : Nat := (second + n) % Config.daySeconds

/-- The time from the present second to an expiry second (R125, R127, R139). -/
def secondsUntil (now expiry : Nat) : Nat := (expiry + Config.daySeconds - now) % Config.daySeconds

/-- The time elapsed from a held second to a stamp (R7). -/
def secondsSince (stamp held : Nat) : Nat :=
  if stamp < held then stamp + Config.daySeconds - held else stamp - held

/-- The minute of day of a second (R124). -/
def minuteOf (second : Nat) : Nat := second / 60

/-- The present second. -/
def State.now (s : State) : Nat := s.sck.counter

/-- The site table without records, whose figures stand where the part has no site table. -/
def emptyTable : SiteTable :=
  { generation := 0, openWindow := 0, repeatWindow := 0, serviceInterval := 0, banks := [], cabins := [], groups := [],
    lanes := [], masters := [] }

/-- The committed site table the part runs on. -/
def State.table (s : State) : SiteTable := s.sts.site.getD emptyTable

/-- The part state is Configured (R166). -/
def State.configured (s : State) : Bool := s.sts.site.isSome

/-- The bytes of the live bank; a state without one reads free figures (R81, log entry 22). -/
def State.liveBank (s : State) : List Byte := s.tfs.live.getD Config.absentBank

/-! ## Station addresses (spec 00 5.07) -/

def bankAddr (b : Nat) : Nat := b + 1
def cabinAddr (c : Nat) : Nat := 33 + c
def padAddr (g : Nat) : Nat := 81 + g
def laneAddr (l : Nat) : Nat := 85 + l

/-- The kind of station an address from 1 to 88 is allotted to. -/
def kindOf (addr : Nat) : StationKind :=
  if addr ≤ 32 then .lockBank else if addr ≤ 80 then .cabinUnit else if addr ≤ 84 then .callPad else .laneUnit

/-- The bank and door of a logical locker number (R24). -/
def lockerBank (n : Nat) : Nat := n / Config.doorsPerBank
def lockerDoor (n : Nat) : Nat := n % Config.doorsPerBank
def lockerNumber (b d : Nat) : Nat := b * Config.doorsPerBank + d

/-! ## Band register -/

/-- The record of a band number. -/
def BandRegister.find (r : BandRegister) (b : BandNo) : Option BandRecord := r.bands.find? (fun x => x.number = b)

/-- Change the record of a band number. -/
def BandRegister.update (r : BandRegister) (b : BandNo) (f : BandRecord → BandRecord) : BandRegister :=
  { r with bands := r.bands.map (fun x => if x.number = b then f x else x) }

/-- The first number from `n` upward that a rising list leaves out. -/
def firstGap : Nat → List Nat → Nat
  | n, [] => n
  | n, x :: xs => if x = n then firstGap (n + 1) xs else n

/-- The lowest-numbered free slot (R1). -/
def BandRegister.freeSlot (r : BandRegister) : Nat := firstGap 0 (r.bands.map (·.slot))

/-- The lowest free party number (R11). -/
def BandRegister.freeParty (r : BandRegister) : Nat := firstGap 0 (r.parties.map (·.number))

/-- A record put in slot order. -/
def insertRecord (x : BandRecord) : List BandRecord → List BandRecord
  | [] => [x]
  | y :: ys => if x.slot < y.slot then x :: y :: ys else y :: insertRecord x ys

/-- A party put in the order of party numbers. -/
def insertParty (p : Party) : List Party → List Party
  | [] => [p]
  | q :: qs => if p.number < q.number then p :: q :: qs else q :: insertParty p qs

/-- Create a record (R1). -/
def BandRegister.add (r : BandRegister) (x : BandRecord) : BandRegister := { r with bands := insertRecord x r.bands }

/-- The master list entry of a number (R5). -/
def BandRegister.master (r : BandRegister) (b : BandNo) : Option MasterBand := r.masters.find? (fun m => m.number = b)

/-- The party record of a party number. -/
def BandRegister.party (r : BandRegister) (n : Nat) : Option Party := r.parties.find? (fun p => p.number = n)

/-- A band leaves its party; a party left empty is removed (R19). -/
def BandRegister.leaveParty (r : BandRegister) (b : BandNo) (party : Option Nat) : BandRegister :=
  { r with
    parties := r.parties.filterMap (fun p =>
      if party = some p.number then
        let rest := p.members.filter (fun x => x ≠ b)
        if rest = [] then none else some { p with members := rest }
      else some p) }

/-- Free a record: the band leaves its party first (R1, R16, R19). -/
def BandRegister.free (r : BandRegister) (b : BandNo) : BandRegister :=
  let left := r.leaveParty b ((r.find b).bind (·.party))
  { left with bands := left.bands.filter (fun x => x.number ≠ b) }

/-- Whether two bands' records name the same party (R20). -/
def BandRegister.sameParty (r : BandRegister) (a b : BandNo) : Bool :=
  match (r.find a).bind (·.party), (r.find b).bind (·.party) with
  | some p, some q => p = q
  | _, _ => false

/-- Change a band's record. -/
def updateBand (b : BandNo) (f : BandRecord → BandRecord) (s : State) : State := { s with bdr := s.bdr.update b f }

/-- Write a band's cabin link (R55, R57). -/
def setLink (b : BandNo) (link : Option CabinLink) (s : State) : State := updateBand b (fun r => { r with link := link }) s

/-- Remove a locker from a band's list, the rest keeping their order (R26). -/
def dropLocker (holder : Option BandNo) (n : Nat) (s : State) : State :=
  match holder with
  | none => s
  | some b => updateBand b (fun r => { r with lockers := r.lockers.filter (fun x => x ≠ n) }) s

/-! ## Locker map -/

/-- 1 for a Vacant locker, else 0. -/
def Locker.vacantCount (l : Locker) : Nat := if l.state = .vacant then 1 else 0

/-- Write the entry of a door; the free count follows (R27). -/
def Bank.put (b : Bank) (d : Nat) (l : Locker) : Bank :=
  match b.lockers[d]? with
  | none => b
  | some old => { b with lockers := b.lockers.set d l, freeCount := b.freeCount + l.vacantCount - old.vacantCount }

/-- The entry of a logical locker number (R24). -/
def LockerMap.find (m : LockerMap) (n : Nat) : Option Locker :=
  (m.banks[lockerBank n]?).bind (fun b => b.lockers[lockerDoor n]?)

/-- Write the entry of a logical locker number. -/
def LockerMap.put (m : LockerMap) (n : Nat) (l : Locker) : LockerMap :=
  { m with banks := m.banks.modify (lockerBank n) (fun b => b.put (lockerDoor n) l) }

/-- The doors of a bank that exist in the map. -/
def LockerMap.doors (m : LockerMap) (b : Nat) : Nat := ((m.banks[b]?).map (·.lockers.length)).getD 0

/-- The logical numbers of a bank's lockers, in door order. -/
def LockerMap.numbersOf (m : LockerMap) (b : Nat) : List Nat := (List.range (m.doors b)).map (lockerNumber b)

/-- The logical numbers of every locker, in rising order. -/
def LockerMap.numbers (m : LockerMap) : List Nat := (List.range m.banks.length).flatMap m.numbersOf

/-- Whether a bank awaits its first reconcile since a rebuild (R48). -/
def LockerMap.awaiting (m : LockerMap) (b : Nat) : Bool := ((m.banks[b]?).map (·.awaitingFirst)).getD false

/-- The lockers of a bank in a given state. -/
def LockerMap.countIn (m : LockerMap) (b : Nat) (st : LockerState) : Nat :=
  ((m.banks[b]?).map (fun k => (k.lockers.filter (fun l => l.state = st)).length)).getD 0

/-- The state a locker is in, or remembers while Unreachable (R46). -/
def Locker.acting (l : Locker) : LockerState := if l.state = .unreachable then l.remembered.getD .unreachable else l.state

/-- The entry with that state changed: the state, or the remembered state while Unreachable. -/
def Locker.act (l : Locker) (st : LockerState) : Locker :=
  if l.state = .unreachable then { l with remembered := some st } else { l with state := st }

/-! ## Cabin unit -/

/-- The cabin entry of a cabin number. -/
def CabinUnit.find (u : CabinUnit) (c : Nat) : Option Cabin := u.cabins[c]?

/-- Write a cabin entry. -/
def CabinUnit.put (u : CabinUnit) (c : Nat) (e : Cabin) : CabinUnit := { u with cabins := u.cabins.set c e }

/-- The group record of a group number. -/
def CabinUnit.group (u : CabinUnit) (g : Nat) : Option Group := u.groups[g]?

/-- Change a group record. -/
def CabinUnit.updateGroup (u : CabinUnit) (g : Nat) (f : Group → Group) : CabinUnit := { u with groups := u.groups.modify g f }

/-- The call queue of a group. -/
def CabinUnit.queue (u : CabinUnit) (g : Nat) : List QueueEntry := ((u.group g).map (·.queue)).getD []

/-- A group to which no cabin belongs is an empty group (R52). -/
def CabinUnit.emptyGroup (u : CabinUnit) (g : Nat) : Bool := u.cabins.all (fun c => c.group ≠ g)

/-- The state a cabin is in, or remembers while Unreachable (R76). -/
def Cabin.acting (c : Cabin) : CabinState := if c.state = .unreachable then c.remembered.getD .unreachable else c.state

/-- The entry with that state changed: the state, or the remembered state while Unreachable. -/
def Cabin.act (c : Cabin) (st : CabinState) : Cabin :=
  if c.state = .unreachable then { c with remembered := some st } else { c with state := st }

/-! ## Exit lane unit -/

/-- The lane record of a lane number. -/
def LaneUnit.find (u : LaneUnit) (l : Nat) : Option Lane := u.lanes[l]?

/-- Write a lane record. -/
def LaneUnit.put (u : LaneUnit) (l : Nat) (e : Lane) : LaneUnit := { u with lanes := u.lanes.set l e }

/-- The state a lane is in, or remembers while Unreachable (R118). -/
def Lane.acting (l : Lane) : LaneState := if l.state = .unreachable then l.remembered.getD .unreachable else l.state

/-- The record with that state changed: the state, or the remembered state while Unreachable. -/
def Lane.act (l : Lane) (st : LaneState) : Lane :=
  if l.state = .unreachable then { l with remembered := some st } else { l with state := st }

/-! ## Link controller: transmitter, answers, notices, watches (R153, R155, R156, R161) -/

/-- Places of the answer queue in use: answers waiting or being sent, and open watches (R153). -/
def LinkController.placesUsed (l : LinkController) : Nat := l.answers.length + l.watches.length

/-- The transmitter chooses the next frame (R155 (a) to (c)); a notice begun carries the Dropped flag (R156). -/
def LinkController.choose (l : LinkController) : LinkController :=
  match l.answers with
  | _ :: _ => { l with tx := .answer }
  | [] =>
    if l.hold then { l with tx := .idle }
    else
      match l.notices with
      | [] => { l with tx := .idle }
      | n :: rest => { l with tx := .notice n l.dropped, notices := rest, dropped := false }

/-- A frame placed while the transmitter is Idle is sent at once where R155 allows it. -/
def LinkController.start (l : LinkController) : LinkController := if l.tx = .idle then l.choose else l

/-- Place an answer in the answer queue. -/
def LinkController.place (l : LinkController) (a : Answer) : LinkController := { l with answers := l.answers ++ [a] }.start

/-- Offer a notice to the notice queue (R156). -/
def LinkController.offer (l : LinkController) (n : Notice) : LinkController :=
  if l.notices.length < Config.maxNotices then { l with notices := l.notices ++ [n] }.start else { l with dropped := true }

/-- Whether a state meets a watch's set by its polarity (R160). -/
def Watch.meets (w : Watch) (code : Nat) : Bool := w.states.contains code = w.untilIn

/-- Whether a change of a target to a state meets a watch (R161). -/
def Watch.metBy (w : Watch) (t : Target) (code : Nat) : Bool := w.target = t && w.meets code

/-- The answer of a watch met by a change (R161). -/
def Watch.doneAnswer (w : Watch) (code second : Nat) : Answer :=
  { tag := w.tag, code := .done, clamped := false, body := .watchMet code second }

/-- A target has changed to a state: the watches it meets are answered in the order of opening, and closed (R161). -/
def LinkController.meet (l : LinkController) (t : Target) (code second : Nat) : LinkController :=
  (l.watches.filter (fun w => w.metBy t code)).foldl (fun k w => k.place (w.doneAnswer code second))
    { l with watches := l.watches.filter (fun w => !w.metBy t code) }

/-- Place an answer (R154). -/
def placeAnswer (a : Answer) (s : State) : State := { s with lkc := s.lkc.place a }

/-! ## Desired-state image (R138, R139) -/

/-- The record of a station address; none where the station is Absent (R136). -/
def FieldLine.find (f : FieldLine) (addr : Nat) : Option Station := f.stations.find? (fun st => st.addr = addr)

/-- Change the record of a station address. -/
def FieldLine.update (f : FieldLine) (addr : Nat) (g : Station → Station) : FieldLine :=
  { f with stations := f.stations.map (fun st => if st.addr = addr then g st else st) }

/-- Health of a station address; none where it is Absent. -/
def FieldLine.health (f : FieldLine) (addr : Nat) : Option Health := (f.find addr).map (·.health)

/-- The value of an entry. -/
def Station.value (st : Station) (k : EntryKey) : Option EntryValue := (st.image.find? (fun e => e.key = k)).map (·.value)

/-- Write an entry: its dirty mark is set whether or not the value differs (R138). -/
def Station.write (st : Station) (k : EntryKey) (v : EntryValue) : Station :=
  { st with image := st.image.map (fun e => if e.key = k then { e with value := v, dirty := true, carried := false } else e) }

/-- Write an entry without a dirty mark: the one case of R48. -/
def Station.writeUnmarked (st : Station) (k : EntryKey) (v : EntryValue) : Station :=
  { st with image := st.image.map (fun e => if e.key = k then { e with value := v, carried := false } else e) }

/-- Write an entry, with its mark or without it. -/
def Station.writeMarked (st : Station) (marked : Bool) (k : EntryKey) (v : EntryValue) : Station :=
  if marked then st.write k v else st.writeUnmarked k v

/-- The continuous part of the sounder is Alarm. -/
def Station.alarm (st : Station) : Bool :=
  match st.value .sounder with
  | some (.sounder a _) => a
  | _ => false

/-- Write a one-shot pattern; it is dropped while the continuous part is Alarm (R138). -/
def Station.oneShot (st : Station) (p : OneShot) : Station :=
  if st.alarm then st else st.write .sounder (.sounder false (some p))

/-- Write the continuous part; no one-shot pattern stands beside it (R138, R146, log entry 14). -/
def Station.setAlarm (st : Station) (on : Bool) : Station := st.write .sounder (.sounder on none)

/-- Mark every entry dirty (R143 (e), R144). -/
def Station.markAll (st : Station) : Station := { st with image := st.image.map (fun e => { e with dirty := true }) }

/-- The entries that carry dirty marks, in the image order. -/
def Station.dirtyEntries (st : Station) : List Entry := st.image.filter (·.dirty)

/-- Write a desired entry of a station. -/
def writeEntry (addr : Nat) (k : EntryKey) (v : EntryValue) (s : State) : State :=
  { s with flm := s.flm.update addr (fun st => st.write k v) }

/-- Write a one-shot pattern for a station's sounder. -/
def playOnce (addr : Nat) (p : OneShot) (s : State) : State := { s with flm := s.flm.update addr (fun st => st.oneShot p) }

/-- A refusal at a reader with a flash code: the Refuse pattern and the display code (R28, R56). -/
def refuseAt (addr door : Nat) (code : DisplayCode) (s : State) : State :=
  { s with flm := s.flm.update addr (fun st => (st.oneShot .refuse).write (.flash door) (.flash (some code))) }

/-- The owner asks for a status read of a station: a mark standing is kept, and clearing is not made plain (R144). -/
def ReadKind.join (due : Option ReadKind) (k : ReadKind) : Option ReadKind :=
  match due, k with
  | some .clearing, _ => some .clearing
  | _, .clearing => some .clearing
  | some .plain, .plain => some .plain
  | none, .plain => some .plain

/-- Mark a status read due (R144). -/
def Station.markRead (st : Station) (k : ReadKind) : Station := { st with statusDue := ReadKind.join st.statusDue k }

/-! ## Writing entries of the owners' tables, with watches (R161) -/

/-- A table holds a value for the target and the new one is different from it: a change in the sense of R161. -/
def differs {α : Type} [DecidableEq α] (old : Option α) (new : α) : Bool :=
  match old with
  | none => false
  | some o => decide (o ≠ new)

/-- A target's state has changed: its watches are evaluated in the same act (R161). -/
def meetWhen (changed : Bool) (t : Target) (code : Nat) (s : State) : LinkController :=
  if changed then s.lkc.meet t code s.now else s.lkc

/-- Write a locker entry; the free count follows and the watches of the locker are evaluated (R27, R161). -/
def putLocker (n : Nat) (l : Locker) (s : State) : State :=
  { s with
    lmu := s.lmu.put n l
    lkc := meetWhen (differs ((s.lmu.find n).map (·.state)) l.state) (.locker n) l.state.code s }

/-- Write a cabin entry; the watches of the cabin are evaluated (R161). -/
def putCabin (c : Nat) (e : Cabin) (s : State) : State :=
  { s with
    cbu := s.cbu.put c e
    lkc := meetWhen (differs ((s.cbu.find c).map (·.state)) e.state) (.cabin c) e.state.code s }

/-- Write a lane record; the watches of the lane are evaluated (R161). -/
def putLane (l : Nat) (e : Lane) (s : State) : State :=
  { s with
    xlu := s.xlu.put l e
    lkc := meetWhen (differs ((s.xlu.find l).map (·.state)) e.state) (.lane l) e.state.code s }

/-- Change a station's health; the watches of the station are evaluated (R161). -/
def setHealth (addr : Nat) (h : Health) (s : State) : State :=
  { s with
    flm := s.flm.update addr (fun st => { st with health := h })
    lkc := meetWhen (differs (s.flm.health addr) h) (.station addr) (healthCode (some h)) s }

end Sys2Proof.Machine
end

