-- ==== Sys2Proof/Machine/Flags.lean ====
section
/-!
DEFINITION. The condition and notice unit: latching a condition and queueing its notice (R156), and the Link notice
of a discarded frame (R157).
-/

namespace Sys2Proof.Machine

/-- Set the condition bit of a class, whatever it held and whatever the mask (R156). -/
def Conditions.latch (c : Conditions) (k : NoticeClass) : Conditions := { c with bits := c.bits ||| (1#10 <<< k.code) }

/-- A class is enabled in the notice mask (R159). -/
def Conditions.enabled (c : Conditions) (k : NoticeClass) : Bool := c.mask.getLsbD k.code

/-- A block raises a notice: its condition is latched, and where its class is enabled the notice is offered with the
present second (R156). -/
def raiseNotice (content : NoticeContent) (s : State) : State :=
  { s with
    cnu := s.cnu.latch content.cls
    lkc := if s.cnu.enabled content.cls then s.lkc.offer { content := content, second := s.now } else s.lkc }

/-- A notice is a Link notice. -/
def Notice.isLink (n : Notice) : Bool := n.content.cls = .link

/-- A Link notice with its discard count raised by one, stopping at 255, and its cause kept (R157). -/
def Notice.countDiscard (n : Notice) : Notice :=
  match n.content with
  | .link cause second count => { n with content := .link cause second (min (count + 1) 255) }
  | _ => n

/-- A discarded frame is reported under the Link class (R157). -/
def reportDiscard (cause : DiscardCause) (s : State) : State :=
  if s.lkc.notices.any Notice.isLink then
    { s with cnu := s.cnu.latch .link, lkc := { s.lkc with notices := s.lkc.notices.map Notice.countDiscard } }
  else raiseNotice (.link cause s.now 1) s

end Sys2Proof.Machine
end

