-- ==== Sys2Proof/Machine/Operands.lean ====
section
/-!
DEFINITION. The orders: their kinds (spec 11 2.02), the body length of each (spec 11 3.01, R175), which are taken in the
Unconfigured part state (R154 (c)), the operand fields of each body with the writer of the same layout, and the
dispatch every order goes through (R153, R154).
-/

namespace Sys2Proof.Machine

/-- The orders of spec 09 2.04, row by row. -/
inductive OrderKind where
  | issueBand | barBand | replaceBand | forgetBand | readBand | listBands
  | releaseLocker | clearForced | lockerService | resetUseCount | lockerWindowLoad | readLocker | readBank
  | cabinAssign | setCabinLimit | cleaned | cabinService | readCabin | readQueue
  | tariffLoad | tariffCommit | readTariff
  | quotePreview
  | paid | cancelQuote | readLane
  | setClock
  | adjustClock | readClock | openDay | closeDay | purge
  | readStation
  | readConditions | setNoticeMask | identify | reset
  | watch | cancelWatch
  | siteLoad | siteCommit
  deriving DecidableEq, Repr

/-- The kind byte of an order: its position in the list of orders, from 0x01 (spec 11 2.02). -/
def OrderKind.code : OrderKind → Byte
  | .issueBand => 0x01 | .barBand => 0x02 | .replaceBand => 0x03 | .forgetBand => 0x04 | .readBand => 0x05
  | .listBands => 0x06 | .releaseLocker => 0x07 | .clearForced => 0x08 | .lockerService => 0x09
  | .resetUseCount => 0x0A | .lockerWindowLoad => 0x0B | .readLocker => 0x0C | .readBank => 0x0D
  | .cabinAssign => 0x0E | .setCabinLimit => 0x0F | .cleaned => 0x10 | .cabinService => 0x11 | .readCabin => 0x12
  | .readQueue => 0x13 | .tariffLoad => 0x14 | .tariffCommit => 0x15 | .readTariff => 0x16 | .quotePreview => 0x17
  | .paid => 0x18 | .cancelQuote => 0x19 | .readLane => 0x1A | .setClock => 0x1B | .adjustClock => 0x1C
  | .readClock => 0x1D | .openDay => 0x1E | .closeDay => 0x1F | .purge => 0x20 | .readStation => 0x21
  | .readConditions => 0x22 | .setNoticeMask => 0x23 | .identify => 0x24 | .reset => 0x25 | .watch => 0x26
  | .cancelWatch => 0x27 | .siteLoad => 0x28 | .siteCommit => 0x29

/-- A kind byte names an order (R154 (a)); 0x29 is the last. -/
def namesOrder (kind : Byte) : Bool := 1 ≤ kind.toNat && kind.toNat ≤ 0x29

/-- The body lengths spec 11 3.01 gives for each kind (R175). -/
def OrderKind.bodyLengthOk (k : OrderKind) (n : Nat) : Bool :=
  match k with
  | .identify | .reset | .readConditions | .readClock | .openDay | .closeDay | .purge | .tariffCommit | .siteCommit
  | .readBank | .cleaned | .readCabin | .readTariff | .cancelQuote | .readLane | .readStation | .cancelWatch => n = 1
  | .releaseLocker | .clearForced | .resetUseCount | .readLocker | .setCabinLimit | .readQueue | .cabinService
  | .adjustClock | .setNoticeMask => n = 2
  | .lockerService | .listBands => n = 3
  | .setClock => n = 4
  | .barBand | .forgetBand | .readBand | .quotePreview => n = 5
  | .cabinAssign => n = 6
  | .lockerWindowLoad => n = 7
  | .paid => n = 8
  | .issueBand | .replaceBand => n = 10
  | .watch => 6 ≤ n && n ≤ 14
  | .tariffLoad => 1 ≤ n && n ≤ 248
  | .siteLoad => 2 ≤ n && n ≤ 248

/-- The orders taken in the Unconfigured part state (R154 (c)). -/
def OrderKind.takenUnconfigured : OrderKind → Bool
  | .identify | .siteLoad | .siteCommit | .tariffLoad | .tariffCommit | .readTariff | .setClock | .readConditions
  | .setNoticeMask | .reset => true
  | _ => false

/-! ## Operand fields (spec 11 3.01) -/

/-- The party choice of ISSUE BAND (R10, spec 11 3.02). -/
inductive PartyChoice where
  | alone
  | new
  | join (n : Nat)
  | outOfRange
  deriving DecidableEq, Repr

/-- The party choice a 2-byte field spells. -/
def partyChoiceOf (n : Nat) : PartyChoice :=
  if n = 0xFFFF then .alone else if n = 0xFFFE then .new else if n ≤ 255 then .join n else .outOfRange

/-- ISSUE BAND: band, class, paid minutes, party choice. -/
structure IssueArgs where
  band : BandNo
  cls : Nat
  paidMinutes : Nat
  choice : Nat
  deriving DecidableEq, Repr

def issueArgs (body : List Byte) : IssueArgs :=
  { band := bandAt body 0, cls := byteAt body 5, paidMinutes := u16At body 6, choice := u16At body 8 }

def issueBody (a : IssueArgs) : List Byte := bandBytes a.band ++ u8Bytes a.cls ++ u16Bytes a.paidMinutes ++ u16Bytes a.choice

/-- BAR BAND, FORGET BAND, READ BAND, QUOTE PREVIEW: band. -/
def bandBody (b : BandNo) : List Byte := bandBytes b

/-- REPLACE BAND: old band, new band. -/
def replaceBody (old new : BandNo) : List Byte := bandBytes old ++ bandBytes new

/-- LIST BANDS: filter, start index. -/
def listBody (filter start : Nat) : List Byte := u8Bytes filter ++ u16Bytes start

/-- RELEASE LOCKER, CLEAR FORCED, RESET USE COUNT, READ LOCKER: logical locker number. -/
def lockerBody (n : Nat) : List Byte := u16Bytes n

/-- LOCKER SERVICE: locker number, direction (0 out, 1 in). -/
def lockerServiceBody (n direction : Nat) : List Byte := u16Bytes n ++ u8Bytes direction

/-- LOCKER WINDOW LOAD: the window and the three attribute values. -/
structure WindowArgs where
  firstBank : Nat
  lastBank : Nat
  firstDoor : Nat
  lastDoor : Nat
  inService : Nat
  retention : Nat
  staffOnly : Nat
  deriving DecidableEq, Repr

def windowArgs (body : List Byte) : WindowArgs :=
  { firstBank := byteAt body 0, lastBank := byteAt body 1, firstDoor := byteAt body 2, lastDoor := byteAt body 3
    inService := byteAt body 4, retention := byteAt body 5, staffOnly := byteAt body 6 }

def windowBody (a : WindowArgs) : List Byte :=
  u8Bytes a.firstBank ++ u8Bytes a.lastBank ++ u8Bytes a.firstDoor ++ u8Bytes a.lastDoor ++ u8Bytes a.inService
    ++ u8Bytes a.retention ++ u8Bytes a.staffOnly

/-- The orders of one byte: READ BANK, CLEANED, READ CABIN, READ TARIFF, CANCEL QUOTE, READ LANE, READ STATION,
CANCEL WATCH. -/
def byteBody (n : Nat) : List Byte := u8Bytes n

/-- SET CABIN LIMIT, READ QUEUE, CABIN SERVICE: two bytes. -/
def pairBody (a b : Nat) : List Byte := u8Bytes a ++ u8Bytes b

/-- CABIN ASSIGN: band, group. -/
def assignBody (b : BandNo) (g : Nat) : List Byte := bandBytes b ++ u8Bytes g

/-- PAID: lane, band, amount. -/
structure PaidArgs where
  lane : Nat
  band : BandNo
  amount : Nat
  deriving DecidableEq, Repr

def paidArgs (body : List Byte) : PaidArgs := { lane := byteAt body 0, band := bandAt body 1, amount := u16At body 6 }

def paidBody (a : PaidArgs) : List Byte := u8Bytes a.lane ++ bandBytes a.band ++ u16Bytes a.amount

/-- SET CLOCK: second of day. -/
def setClockBody (second : Nat) : List Byte := u32Bytes second

/-- ADJUST CLOCK: seconds, two's complement. -/
def adjustBody (seconds : Int) : List Byte := u16Bytes (seconds % 65536).toNat

/-- SET NOTICE MASK: ten enable marks. -/
def maskBody (mask : Nat) : List Byte := u16Bytes mask

/-- WATCH: target kind, target number, polarity, time limit, state codes. -/
structure WatchArgs where
  kind : Nat
  number : Nat
  polarity : Nat
  limit : Nat
  states : List Nat
  deriving DecidableEq, Repr

def watchArgs (body : List Byte) : WatchArgs :=
  { kind := byteAt body 0, number := u16At body 1, polarity := byteAt body 3, limit := u16At body 4
    states := (body.drop 6).map (·.toNat) }

def watchBody (a : WatchArgs) : List Byte :=
  u8Bytes a.kind ++ u16Bytes a.number ++ u8Bytes a.polarity ++ u16Bytes a.limit ++ a.states.map (BitVec.ofNat 8)

/-- TARIFF LOAD: offset of 1 byte, then the segment. -/
def tariffLoadBody (offset : Nat) (segment : List Byte) : List Byte := u8Bytes offset ++ segment

/-- SITE LOAD: offset of 2 bytes, then the segment. -/
def siteLoadBody (offset : Nat) (segment : List Byte) : List Byte := u16Bytes offset ++ segment

/-- The one byte of an order whose content is nothing (R151, spec 11 3.01). -/
def emptyBody : List Byte := [0]

/-! ## Dispatch (R153, R154) -/

/-- What an owner gives back: result code, Clamped flag, body. -/
structure Reply where
  code : ResultCode
  clamped : Bool
  body : AnswerBody
  deriving DecidableEq, Repr

/-- A refusal with nothing to report (R174). -/
def Reply.refuse (c : ResultCode) : Reply := { code := c, clamped := false, body := .none }

/-- Done, with a body. -/
def Reply.done (b : AnswerBody) : Reply := { code := .done, clamped := false, body := b }

/-- The answer to the order of a tag. -/
def Reply.answer (r : Reply) (tag : Byte) : Answer := { tag := tag, code := r.code, clamped := r.clamped, body := r.body }

/-- Order owners: the state after the owner's act, and its result; none where the answer is deferred (WATCH). -/
abbrev Owned : Type := State × Option Reply

/-- The owner refuses the order: a result code, and nothing changes (spec 00 5.12 (a)). -/
def refused (c : ResultCode) (s : State) : Owned := (s, some (Reply.refuse c))

/-- The owner has acted, or reads: Done with a body. -/
def done (b : AnswerBody) (s : State) : Owned := (s, some (Reply.done b))

/-- A place of the answer queue is free and no RESET awaits its warm reset (R154). -/
def canDispatch (s : State) : Bool := s.lkc.placesUsed < Config.answerPlaces && s.lkc.resetPhase = .none

/-- The order at the head leaves the buffer (R153). -/
def popOrder (s : State) : State := { s with lkc := { s.lkc with orders := s.lkc.orders.tail } }

/-- An order is appended at the tail of the buffer (R153). -/
def appendOrder (o : OrderFrame) (s : State) : State := { s with lkc := { s.lkc with orders := s.lkc.orders ++ [o] } }

/-- The dispatch of an order: taken from the head of the buffer. Where the buffer is empty the command stands for the
order's arrival as well (log entry 3); where the order may not be dispatched yet it waits in the buffer. -/
def dispatchOrder (o : OrderFrame) (act : State → State) (s : State) : State :=
  if s.lkc.orders.head? = some o then if canDispatch s then act (popOrder s) else s
  else if s.lkc.orders = [] then if canDispatch s then act s else appendOrder o s
  else s

/-- The owner's result placed under the order's tag; the owner of WATCH may place none yet (R154, R160). -/
def settleOwned (tag : Byte) (r : Owned) : State :=
  match r.2 with
  | none => r.1
  | some reply => placeAnswer (reply.answer tag) r.1

/-- The checks made at dispatch (R154 (b), (c)), then the owner. -/
def examineOrder (k : OrderKind) (tag : Byte) (body : List Byte) (owner : State → Owned) (s : State) : State :=
  if k.bodyLengthOk body.length then
    if s.configured || k.takenUnconfigured then settleOwned tag (owner s)
    else placeAnswer ((Reply.refuse .notReady).answer tag) s
  else placeAnswer ((Reply.refuse .malformed).answer tag) s

/-- An order of a kind: dispatched, examined and handed to its owner as one act (R154). -/
def runOrder (k : OrderKind) (tag : Byte) (body : List Byte) (owner : State → Owned) (s : State) : State :=
  dispatchOrder { kind := k.code, tag := tag, body := body } (examineOrder k tag body owner) s

end Sys2Proof.Machine
end

