-- ==== Sys2Proof/Machine/Tariff.lean ====
section
/-!
DEFINITION. The tariff store (spec 04): loading, committing and reading the banks (R83 to R85, R89), the swap at a
minute boundary (R86), and the store's end of a write (R88, R169).
-/

namespace Sys2Proof.Machine

/-- TARIFF LOAD (R83): offset, then the segment. -/
def tariffLoad (body : List Byte) (s : State) : Owned :=
  let offset := byteAt body 0
  let segment := body.drop 1
  if 141 < offset || segment = [] || 142 < offset + segment.length then refused .range s
  else
    done (.loadState .loading)
      { s with tfs := { s.tfs with standby := writeSegment s.tfs.standby offset segment, load := .loading } }

/-- TARIFF COMMIT (R84, R85). -/
def tariffCommit (s : State) : Owned :=
  if s.tfs.load = .empty || !tariffImageGood s.tfs.standby then refused .invalid s
  else
    let image := clampTariff s.tfs.standby
    ({ s with tfs := { s.tfs with standby := image, load := .complete } },
      some { code := .done, clamped := decide (image ≠ s.tfs.standby), body := .generation (tariffGeneration image) })

/-- READ TARIFF (R89): selector 0 live, 1 standby. -/
def readTariff (body : List Byte) (s : State) : Owned :=
  match byteAt body 0 with
  | 0 => done (.tariffLive (s.tfs.live.map (fun t => (tariffGeneration t, t)))) s
  | 1 => done (.tariffStandby s.tfs.load (tariffGeneration s.tfs.standby) s.tfs.standby) s
  | _ => refused .range s

/-- The swap: a bank in Complete is put in force at a minute boundary (R86). -/
def swapTariff (minute : Nat) (s : State) : State :=
  if s.tfs.load = .complete then
    raiseNotice (.tariffSwitched (tariffGeneration s.tfs.standby) (s.tfs.live.map tariffGeneration) minute)
      { s with
        tfs :=
          { live := some s.tfs.standby
            standby := List.replicate Config.tariffBytes 0
            load := .empty
            store := { bytes := s.tfs.standby, writing := true } } }
  else s

/-- What the store gives at a cold reset: a copy whose write was cut short does not pass its check (R88, R169). -/
def NvCopy.afterReset (c : NvCopy) : NvCopy := { bytes := if c.writing then [] else c.bytes, writing := false }

/-- The tariff store after a cold reset (R88, R91 (a)). -/
def coldTariff (store : NvCopy) : TariffStore :=
  if tariffImageGood store.afterReset.bytes then { emptyTariff store.afterReset with live := some store.afterReset.bytes }
  else emptyTariff store.afterReset

/-- TARIFF LOAD. -/
def execTariffLoad (tag : Byte) (body : List Byte) (s : State) : Host.Outcome State Fault Refusal :=
  .next (runOrder .tariffLoad tag body (tariffLoad body) s)

/-- TARIFF COMMIT. -/
def execTariffCommit (tag : Byte) (body : List Byte) (s : State) : Host.Outcome State Fault Refusal :=
  .next (runOrder .tariffCommit tag body tariffCommit s)

/-- READ TARIFF. -/
def execReadTariff (tag : Byte) (body : List Byte) (s : State) : Host.Outcome State Fault Refusal :=
  .next (runOrder .readTariff tag body (readTariff body) s)

/-- STORE_WRITE_END: the write of a stored copy ends, so that the copy passes its check later (R88, R169). -/
def execStoreWriteEnd (copy : StoreCopy) (s : State) : Host.Outcome State Fault Refusal :=
  .next
    (match copy with
    | .site => { s with sts := { s.sts with store := { s.sts.store with writing := false } } }
    | .tariff => { s with tfs := { s.tfs with store := { s.tfs.store with writing := false } } })

end Sys2Proof.Machine
end

