-- ==== Sys2Proof/Machine/Cabins.lean ====
section
/-!
DEFINITION. The cabin unit (spec 03): tickets and call queues (R54, R57, R58), allocation and offers (R62, R63, R65, R66),
acceptance, occupancy, release and cleaning (R64, R67 to R70), service (R71, R72), the acts of other blocks (R74, R75,
R77, R78) and the reconcile (R76).
-/

namespace Sys2Proof.Machine

/-- The site table record of a group (R52). -/
def groupSetting (s : State) (g : Nat) : GroupSetting :=
  (s.table.groups[g]?).getD
    { offerWindow := 0, cleaningTime := 0, occupancyLimit := 0, abandonTime := 0, callPad := false, pitch := 0 }

/-! ## Desired entries of a cabin (R56) -/

/-- The bolt, lamp and display a cabin's state asks for (R56); none in Unreachable. -/
def Cabin.wishes (c : Cabin) : Option (BoltWish × Lamp × DisplayText) :=
  match c.state with
  | .free => some (.locked, .steady, .blank)
  | .offered => some (.locked, .slowFlash, .ticket (c.ticketShown.getD 0))
  | .occupied =>
    some ((match c.entryExpiry with | some e => .unlockedUntil e | none => .locked),
      if c.overstayFlag then .fastFlash else .off, .blank)
  | .cleaning => some (.unlocked, .off, .blank)
  | .outOfService => some (.unlocked, .off, .code .os)
  | .unreachable => none

/-- The entries of a cabin written from its state. -/
def FieldLine.showCabin (f : FieldLine) (n : Nat) (c : Option Cabin) : FieldLine :=
  match c.bind Cabin.wishes with
  | none => f
  | some w =>
    f.update (cabinAddr n) (fun st =>
      ((st.write (.bolt 0) (.bolt w.1)).write (.lamp 0) (.lamp w.2.1)).write .standing (.standing w.2.2))

/-- Write a cabin's bolt, lamp and display from its state (R56). -/
def showCabin (n : Nat) (s : State) : State := { s with flm := s.flm.showCabin n (s.cbu.find n) }

/-- A cabin entry of a new state: written, its watches evaluated, its desired entries written in the same act. -/
def moveCabin (n : Nat) (c : Cabin) (s : State) : State := showCabin n (putCabin n c s)

/-! ## Tickets and queues (R54, R57, R58) -/

/-- The ticket after a ticket: after 99 it is 1 (R54). -/
def ticketAfter (t : Nat) : Nat := if 99 ≤ t then 1 else t + 1

/-- The tickets held in a group: those of its queue, and those its cabins show or remember (R54). -/
def CabinUnit.heldTickets (u : CabinUnit) (g : Nat) : List Nat :=
  (u.queue g).map (·.ticket) ++ (u.cabins.filter (fun c => c.group = g)).filterMap (·.ticketShown)

/-- The first ticket from `t` on that is not held, counting on from 99 to 1, within `n` tries (R54). -/
def firstFreeTicket (held : List Nat) : Nat → Nat → Nat
  | 0, t => t
  | n + 1, t => if held.contains t then firstFreeTicket held n (ticketAfter t) else t

/-- The ticket the next join of a group is given (R54). -/
def CabinUnit.ticketFor (u : CabinUnit) (g : Nat) : Nat :=
  firstFreeTicket (u.heldTickets g) 99 (((u.group g).map (·.nextTicket)).getD 1)

/-- Change a group's call queue. -/
def setQueue (g : Nat) (f : List QueueEntry → List QueueEntry) (s : State) : State :=
  { s with cbu := s.cbu.updateGroup g (fun k => { k with queue := f k.queue }) }

/-- Append an entry at the tail, its band's link Queued in the same act (R57). -/
def appendEntry (g : Nat) (e : QueueEntry) (s : State) : State :=
  setLink e.band (some (.queued g e.ticket)) (setQueue g (fun q => q ++ [e]) s)

/-- A join: the band is given its ticket and appended with miss count 0; the next ticket moves (R54, R59, R60). -/
def joinQueue (g : Nat) (b : BandNo) (s : State) : State :=
  let t := s.cbu.ticketFor g
  appendEntry g { band := b, ticket := t, join := s.now, misses := 0 }
    { s with cbu := s.cbu.updateGroup g (fun k => { k with nextTicket := ticketAfter t }) }

/-- Remove a band's entry from a queue; the entries behind it move up (R57). -/
def removeEntry (g : Nat) (b : BandNo) (s : State) : State := setQueue g (fun q => q.filter (fun e => e.band ≠ b)) s

/-- The band at the tail of a full queue is taken out: its link becomes absent, and CallMissed with the outcome
Displaced is raised where the restore announces it (R58 (c); not at a warm reset, R78, log entry 9). -/
def displaceTail (g : Nat) (announce : Bool) (s : State) : State :=
  if (s.cbu.queue g).length < Config.maxQueue then s
  else
    match (s.cbu.queue g).getLast? with
    | none => s
    | some last =>
      let t := setLink last.band none (setQueue g List.dropLast s)
      if announce then raiseNotice (.callMissed last.band g none last.ticket .displaced) t else t

/-- A band is restored at the head with its ticket, join second and miss count (R57 (c), R58 (c), R66). -/
def restoreHead (g : Nat) (e : QueueEntry) (announce : Bool) (s : State) : State :=
  setLink e.band (some (.queued g e.ticket)) (setQueue g (fun q => e :: q) (displaceTail g announce s))

/-- The position of a band in a queue, from 1 (R57). -/
def CabinUnit.position (u : CabinUnit) (g : Nat) (b : BandNo) : Nat := (u.queue g).findIdx (fun e => e.band = b) + 1

/-! ## Allocation and offers (R62, R63) -/

/-- The lowest-numbered Free cabin of a group (R62). -/
def CabinUnit.lowestFree (u : CabinUnit) (g : Nat) : Option Nat :=
  (List.range u.cabins.length).find? (fun n =>
    match u.cabins[n]? with
    | some c => c.group = g && c.state = .free
    | none => false)

/-- An offer of a cabin to the entry at the head of its group's queue (R63). -/
def makeOffer (g n : Nat) (e : QueueEntry) (s : State) : State :=
  match s.cbu.find n with
  | none => s
  | some c =>
    let offered :=
      { c with
        state := .offered
        band := some e.band
        ticketShown := some e.ticket
        offerExpiry := some (addSeconds s.now (groupSetting s g).offerWindow)
        offerMisses := some e.misses
        offerJoin := some e.join }
    writeEntry (padAddr g) .standing (.standing (.ticketCabin e.ticket n))
      (playOnce (cabinAddr n) .call
        (setLink e.band (some (.offered n)) (moveCabin n offered (setQueue g List.tail s))))

/-- Offers one after another, at most `k` of them (R62). -/
def allocateUpTo : Nat → Nat → State → State
  | 0, _, s => s
  | k + 1, g, s =>
    match s.cbu.queue g, s.cbu.lowestFree g with
    | e :: _, some n => allocateUpTo k g (makeOffer g n e s)
    | _, _ => s

/-- A group allocates, until no cabin of it is Free or its queue is empty (R62). -/
def allocate (g : Nat) (s : State) : State := allocateUpTo (s.cbu.queue g).length g s

/-- The queue entry an offer keeps with it (R63). -/
def Cabin.offeredEntry (c : Cabin) : Option QueueEntry :=
  match c.band with
  | none => none
  | some b =>
    some { band := b, ticket := c.ticketShown.getD 0, join := c.offerJoin.getD 0, misses := c.offerMisses.getD 0 }

/-- A cabin leaves Offered, or remembered Offered, for a state, naming no band (R65, R66). -/
def endOffer (n : Nat) (c : Cabin) (next : CabinState) (s : State) : State :=
  moveCabin n
    ({ c with band := none, ticketShown := none, offerExpiry := none, offerMisses := none, offerJoin := none }.act next) s

/-- A band is removed from the cabin system: its queue entry is removed, or its offer withdrawn and the group
allocated, and its link becomes absent; a Holding link is kept (R12, R66, R74). -/
def withdrawBand (b : BandNo) (s : State) : State :=
  match (s.bdr.find b).bind (·.link) with
  | some (.queued g _) => setLink b none (removeEntry g b s)
  | some (.offered n) =>
    match s.cbu.find n with
    | none => setLink b none s
    | some c => allocate c.group (setLink b none (endOffer n c .free s))
  | _ => s

/-! ## Acceptance, occupancy, release, cleaning -/

/-- An entitled band accepts an offer (R64); the cabin keeps the band it was offered to. -/
def acceptOffer (n : Nat) (c : Cabin) (s : State) : State :=
  let limit := ((s.cbu.group c.group).map (·.currentLimit)).getD 0
  let taken :=
    { c with
      state := .occupied
      ticketShown := none
      offerExpiry := none
      offerMisses := none
      offerJoin := none
      entryExpiry := some (addSeconds s.now s.table.openWindow)
      counter := limit
      loadedLimit := limit
      overstayFlag := false
      doorOpenSince := if c.doorOpen then some s.now else none }
  let moved := moveCabin n taken s
  playOnce (cabinAddr n) .accept
    (match c.band with
    | some b => setLink b (some (.holding n)) moved
    | none => moved)

/-- The entry window is renewed (R67). -/
def renewEntry (n : Nat) (c : Cabin) (s : State) : State :=
  let e := addSeconds s.now s.table.openWindow
  playOnce (cabinAddr n) .accept
    (writeEntry (cabinAddr n) (.bolt 0) (.bolt (.unlockedUntil e)) (putCabin n { c with entryExpiry := some e } s))

/-- The minutes below 0 of an occupancy counter (R68). -/
def Cabin.overstayed (c : Cabin) : Nat := if c.counter < 0 then (-c.counter).toNat else 0

/-- Cabin overstay minutes raised, stopping at 1,440 (R68). -/
def addOverstay (held minutes : Nat) : Nat := min (held + minutes) 1440

/-- The state and cleaning expiry a cabin is released to (R68, R71 (c)). -/
def Cabin.released (c : Cabin) (now cleaningTime : Nat) : Cabin :=
  let left := { c with band := none, overstayFlag := false, doorOpenSince := none, entryExpiry := none }
  if c.pendingOut then { left.act .outOfService with pendingOut := false }
  else if cleaningTime = 0 then left.act .free
  else { left.act .cleaning with cleaningExpiry := some (addSeconds now cleaningTime) }

/-- A release, less its Accept pattern and its allocation (R68). -/
def releaseCabin (n : Nat) (c : Cabin) (s : State) : State :=
  let moved := moveCabin n (c.released s.now (groupSetting s c.group).cleaningTime) s
  match c.band with
  | none => moved
  | some b => updateBand b (fun r => { r with overstay := addOverstay r.overstay c.overstayed, link := none }) moved

/-- The cleaning of a cabin is ended: Free, or OutOfService where a pending out-of-service is marked (R70, R71). -/
def Cabin.cleaned (c : Cabin) : Cabin :=
  if c.pendingOut then { { c with cleaningExpiry := none }.act .outOfService with pendingOut := false }
  else { c with cleaningExpiry := none }.act .free

/-- Allocation is called for where a cabin has become Free (R62). -/
def allocateIfFree (n : Nat) (s : State) : State :=
  match s.cbu.find n with
  | some c => if c.state = .free then allocate c.group s else s
  | none => s

/-- Cleaning ended, less the allocation (R70). -/
def endCleaning (n : Nat) (c : Cabin) (s : State) : State := moveCabin n c.cleaned s

/-! ## Presentations (R59, R61) -/

/-- The display written at a group's call pad as at a join: ticket and cabin, or ticket and position (R59, R60). -/
def showJoin (g t : Nat) (b : BandNo) (s : State) : State :=
  match (s.bdr.find b).bind (·.link) with
  | some (.offered n) => writeEntry (padAddr g) .standing (.standing (.ticketCabin t n)) s
  | _ => writeEntry (padAddr g) .standing (.standing (.ticketPlace t (s.cbu.position g b))) s

/-- A band presented at a call pad (R59). -/
def presentAtPad (g : Nat) (r : BandRecord) (s : State) : State :=
  let refuse (code : DisplayCode) : State := refuseAt (padAddr g) 0 code s
  if s.sck.day = .closed then refuse .cl
  else if r.state = .quoted then refuse .se
  else if s.cbu.emptyGroup g || !tariffGroupAccess s.liveBank r.cls g then refuse .na
  else
    match r.link with
    | some (.queued _ _) => refuse .iq
    | some (.offered _) => refuse .iq
    | some (.holding _) => refuse .hc
    | none =>
      if Config.maxQueue ≤ (s.cbu.queue g).length then refuse .qf
      else
        let t := s.cbu.ticketFor g
        showJoin g t r.number (allocate g (playOnce (padAddr g) .accept (joinQueue g r.number s)))

/-- A master band presented at a call pad: Accept, and nothing changes (R59). -/
def masterAtPad (g : Nat) (s : State) : State := playOnce (padAddr g) .accept s

/-- A cabin names the presenting band, or a band of the presenting band's party (R61, R20). -/
def Cabin.entitles (c : Cabin) (r : BandRecord) (s : State) : Bool :=
  match c.band with
  | none => false
  | some b => r.state = .inside && (b = r.number || s.bdr.sameParty b r.number)

/-- A band presented at a cabin reader (R61). -/
def presentAtCabin (n : Nat) (r : BandRecord) (s : State) : State :=
  match s.cbu.find n with
  | none => s
  | some c =>
    let refuse (code : DisplayCode) : State := refuseAt (cabinAddr n) 0 code s
    if c.state = .unreachable then s
    else if r.state = .quoted then refuse .se
    else if c.state = .outOfService then refuse .os
    else if c.entitles r s then
      match c.state with
      | .offered => acceptOffer n c s
      | .occupied =>
        match c.entryExpiry with
        | some _ => renewEntry n c s
        | none => allocateIfFree n (playOnce (cabinAddr n) .accept (releaseCabin n c s))
      | _ => refuse .no
    else refuse .no

/-- The bolt of a cabin drawn for the open window for a master band, with Accept (R61). -/
def openForMaster (n : Nat) (s : State) : State :=
  playOnce (cabinAddr n) .accept
    (writeEntry (cabinAddr n) (.bolt 0) (.bolt (.unlockedUntil (addSeconds s.now s.table.openWindow))) s)

/-- A master band presented at a cabin reader (R61). -/
def masterAtCabin (n : Nat) (s : State) : State :=
  match s.cbu.find n with
  | none => s
  | some c =>
    match c.state with
    | .free => openForMaster n s
    | .offered => openForMaster n s
    | .occupied => allocateIfFree n (playOnce (cabinAddr n) .accept (releaseCabin n c s))
    | .cleaning => allocateIfFree n (playOnce (cabinAddr n) .accept (endCleaning n c s))
    | .outOfService => playOnce (cabinAddr n) .accept s
    | .unreachable => s

/-- A door-change event taken for a cabin (R70). -/
def cabinDoorEvent (n : Nat) (isOpen : Bool) (s : State) : State :=
  match s.cbu.find n with
  | none => s
  | some c =>
    match c.state with
    | .unreachable => s
    | .occupied =>
      putCabin n { c with doorOpen := isOpen, doorOpenSince := if isOpen then some (c.doorOpenSince.getD s.now) else none } s
    | _ => putCabin n { c with doorOpen := isOpen } s

/-! ## Timers of the cabin unit (R65, R67, R69, R70) -/

/-- An offer has been missed (R65). -/
def missOffer (n : Nat) (c : Cabin) (e : QueueEntry) (s : State) : State :=
  let freed := endOffer n c .free s
  let requeue := e.misses = 0 && (s.cbu.queue c.group).length < Config.maxQueue
  let moved := if requeue then appendEntry c.group { e with misses := 1 } freed else setLink e.band none freed
  allocate c.group
    (raiseNotice (.callMissed e.band c.group (some n) e.ticket (if requeue then .requeued else .dropped)) moved)

/-- The offer expiry of a cabin, where it is reached at the present second (R65). -/
def takeOfferExpiry (n : Nat) (s : State) : State :=
  match s.cbu.find n with
  | none => s
  | some c =>
    match c.offeredEntry with
    | some e => if c.acting = .offered && c.offerExpiry = some s.now then missOffer n c e s else s
    | none => s

/-- The entry expiry of a cabin, where it is reached at the present second (R67). -/
def takeEntryExpiry (n : Nat) (s : State) : State :=
  match s.cbu.find n with
  | none => s
  | some c =>
    if c.acting = .occupied && c.entryExpiry = some s.now then putCabin n { c with entryExpiry := none } s else s

/-- The cleaning expiry of a cabin, where it is reached at the present second (R70). -/
def takeCleaningExpiry (n : Nat) (s : State) : State :=
  match s.cbu.find n with
  | none => s
  | some c =>
    if c.acting = .cleaning && c.cleaningExpiry = some s.now then allocateIfFree n (endCleaning n c s) else s

/-- The second at which an occupied cabin is abandoned (R69). -/
def abandonSecond (s : State) (c : Cabin) : Option Nat :=
  c.doorOpenSince.map (fun since => addSeconds since (groupSetting s c.group).abandonTime)

/-- The overstay minutes a release adds to the band a cabin names. -/
def minutesAdded (s : State) (c : Cabin) : Nat :=
  let held := ((c.band.bind s.bdr.find).map (·.overstay)).getD 0
  addOverstay held c.overstayed - held

/-- The abandonment of a cabin: a release, and CabinAbandoned under CabinOverstay (R69). -/
def abandonCabin (n : Nat) (c : Cabin) (s : State) : State :=
  raiseNotice (.cabinAbandoned n c.band (minutesAdded s c)) (allocateIfFree n (releaseCabin n c s))

/-- The abandonment of a cabin, where it is reached at the present second; none while Unreachable (R69). -/
def takeAbandonment (n : Nat) (s : State) : State :=
  match s.cbu.find n with
  | none => s
  | some c => if c.state = .occupied && abandonSecond s c = some s.now then abandonCabin n c s else s

/-- The counter lowered by one, stopping at −1,440 (R67). -/
def countDown (k : Int) : Int := if k ≤ -1440 then k else k - 1

/-- One cabin counted at a minute boundary (R67). Where the overstay flag becomes yes, bolt, lamp and display are written in the
same act (R56), none of them in Unreachable. DEDUCED (log entry 43): R67 names the lamp alone there, and the bolt and the
display are written with the values that the cabin's state and entry expiry ask for. -/
def countCabin (n : Nat) (s : State) : State :=
  match s.cbu.find n with
  | none => s
  | some c =>
    if c.acting = .occupied then
      let k := countDown c.counter
      if k = 0 then
        raiseNotice (.cabinOverstay n c.group c.band c.loadedLimit) (moveCabin n { c with counter := k, overstayFlag := true } s)
      else putCabin n { c with counter := k } s
    else s

/-- Every cabin in turn, in rising number: DESIGN CHOICE where the spec gives the cabins of one act no order (log entry 41). -/
def overCabins (f : Nat → State → State) (s : State) : State :=
  (List.range s.cbu.cabins.length).foldl (fun t n => f n t) s

/-- The occupancy count of a minute boundary (R67). -/
def countOccupancy (s : State) : State := overCabins countCabin s

/-! ## Acts of other blocks (R75 to R79) -/

/-- The links of a queue's bands become absent and the queue is emptied (R75). -/
def emptyQueue (g : Nat) (s : State) : State :=
  setQueue g (fun _ => []) ((s.cbu.queue g).foldl (fun t e => setLink e.band none t) s)

/-- Every group in turn, in rising number: DESIGN CHOICE where the spec gives the groups of one act no order (log entry 41). -/
def overGroups (f : Nat → State → State) (s : State) : State :=
  (List.range s.cbu.groups.length).foldl (fun t g => f g t) s

/-- A standing offer is withdrawn and its band's link becomes absent (R66, R75). -/
def closeOffer (n : Nat) (s : State) : State :=
  match s.cbu.find n with
  | none => s
  | some c =>
    if c.acting = .offered then
      let freed := endOffer n c .free s
      match c.band with
      | some b => setLink b none freed
      | none => freed
    else s

/-- The cabin unit at CLOSE DAY and at midnight (R75). -/
def closeCabins (s : State) : State :=
  overGroups (fun g t => writeEntry (padAddr g) .standing (.standing .blank) t) (overCabins closeOffer (overGroups emptyQueue s))

/-- A cabin door unit is declared Lost (R76). -/
def loseCabin (n : Nat) (s : State) : State :=
  match s.cbu.find n with
  | none => s
  | some c => if c.state = .unreachable then s else putCabin n { c with state := .unreachable, remembered := some c.state } s

/-- A cabin is restored to its remembered state (R76). -/
def restoreCabin (n : Nat) (s : State) : State :=
  match s.cbu.find n with
  | none => s
  | some c =>
    if c.state = .unreachable then putCabin n { c with state := c.remembered.getD .free, remembered := none } s else s

/-- The reconcile of a cabin with a status read (R76). -/
def reconcileCabin (n : Nat) (door : DoorReading) (s : State) : State :=
  match s.cbu.find n with
  | none => s
  | some c =>
    let since := if c.state = .occupied then (if door.isOpen then some s.now else none) else c.doorOpenSince
    showCabin n (putCabin n { c with doorOpen := door.isOpen, doorOpenSince := since } s)

/-- A cabin door unit is regained: restored, reconciled, and the group allocated where the cabin is Free (R76). -/
def regainCabin (n : Nat) (door : DoorReading) (s : State) : State :=
  allocateIfFree n (reconcileCabin n door (restoreCabin n s))

/-- A cabin that PURGE frees (R77). -/
def Cabin.purgeFrees (c : Cabin) : Bool := c.acting = .occupied || c.acting = .cleaning

/-- A cabin at PURGE (R77). -/
def purgeCabin (n : Nat) (s : State) : State :=
  match s.cbu.find n with
  | none => s
  | some c =>
    if c.purgeFrees then
      let left :=
        { c with band := none, overstayFlag := false, doorOpenSince := none, entryExpiry := none, cleaningExpiry := none }
      if c.pendingOut then moveCabin n { left.act .outOfService with pendingOut := false } s
      else moveCabin n (left.act .free) s
    else s

/-- The cabins holding an offer, Offered or remembered, of a group: the time to its expiry and its number. -/
def standingOffers (g : Nat) (s : State) : List (Nat × Nat) :=
  (List.range s.cbu.cabins.length).filterMap (fun n =>
    match s.cbu.cabins[n]? with
    | some c => if c.group = g && c.acting = .offered then some (secondsUntil s.now (c.offerExpiry.getD 0), n) else none
    | none => none)

/-- An offer put in rising order of expiry, offers of one expiry in rising order of cabin (R78). -/
def insertOffer (x : Nat × Nat) : List (Nat × Nat) → List (Nat × Nat)
  | [] => [x]
  | y :: ys => if x.1 < y.1 || (x.1 = y.1 && x.2 < y.2) then x :: y :: ys else y :: insertOffer x ys

/-- Offers in rising order of expiry (R78). -/
def sortOffers (l : List (Nat × Nat)) : List (Nat × Nat) := l.foldr insertOffer []

/-- An offer withdrawn and its band restored at the head (R66, R78); no CallMissed is raised (log entry 9). -/
def unwindOffer (n : Nat) (s : State) : State :=
  match s.cbu.find n with
  | none => s
  | some c =>
    match c.offeredEntry with
    | none => s
    | some e => restoreHead c.group e false (endOffer n c .free s)

/-- A group at a warm reset: its offers restored so that the earliest expiry stands at the head (R78). -/
def unwindGroup (g : Nat) (s : State) : State :=
  (sortOffers (standingOffers g s)).reverse.foldl (fun t x => unwindOffer x.2 t) s

/-- Every offer standing at a warm reset, Offered or remembered, withdrawn and its band restored to its queue (R22 (a), R78). -/
def restoreOffers (s : State) : State := overGroups unwindGroup s

/-- The cabin unit at a warm reset: every offer withdrawn, then each group allocates, in rising order of group (log entry
41). DEDUCED (log entry 39): R22 ends with no link Offered after a warm reset; R66, R78 and R172 have each group allocate
in the same act, so that restored bands are offered again at once. The model has R22's end after the withdrawals, and
the allocation follow. -/
def warmCabins (s : State) : State := overGroups allocate (restoreOffers s)

/-- A cabin of a site rebuild (R79). -/
def freshCabin (k : CabinSetting) : Cabin :=
  { group := k.group, state := .free, band := none, ticketShown := none, offerExpiry := none, offerMisses := none,
    offerJoin := none, entryExpiry := none, counter := 0, overstayFlag := false, doorOpen := false, doorOpenSince := none,
    cleaningExpiry := none, pendingOut := false, remembered := none, loadedLimit := 0 }

/-- A group of a site rebuild (R79). -/
def freshGroup (k : GroupSetting) : Group := { currentLimit := k.occupancyLimit, nextTicket := 1, queue := [] }

/-- The cabin unit of a site rebuild (R79). -/
def freshCabins (t : SiteTable) : CabinUnit := { cabins := t.cabins.map freshCabin, groups := t.groups.map freshGroup }

end Sys2Proof.Machine
end

