-- ==== Sys2Proof/Machine/CabinOrders.lean ====
section
/-!
DEFINITION. The cabin orders (spec 03): CABIN ASSIGN (R60), SET CABIN LIMIT (R53), CLEANED (R70), CABIN SERVICE (R71, R72),
READ CABIN and READ QUEUE (R73).
-/

namespace Sys2Proof.Machine

/-- Where a band stands after its join: still queued, or offered a cabin (R60). -/
def placementOf (g : Nat) (b : BandNo) (s : State) : Placement :=
  match (s.bdr.find b).bind (·.link) with
  | some (.offered n) => .cabin n
  | _ => .position (s.cbu.position g b)

/-- CABIN ASSIGN (R60). -/
def cabinAssign (b : BandNo) (g : Nat) (s : State) : Owned :=
  if s.sck.day ≠ .opened then refused .notOpen s
  else if 3 < g || s.cbu.emptyGroup g then refused .range s
  else
    match s.bdr.find b with
    | none => refused .noSuch s
    | some r =>
      if r.state = .quoted then refused .settling s
      else if r.state = .barred then refused .invalid s
      else if r.link.isSome then refused .bound s
      else if Config.maxQueue ≤ (s.cbu.queue g).length then refused .tableFull s
      else
        let t := s.cbu.ticketFor g
        let joined := allocate g (joinQueue g b s)
        done (.assigned t (placementOf g b joined)) (showJoin g t b joined)

/-- SET CABIN LIMIT (R53). -/
def setCabinLimit (g minutes : Nat) (s : State) : Owned :=
  if 3 < g || minutes < 5 || 120 < minutes then refused .range s
  else done .none { s with cbu := s.cbu.updateGroup g (fun k => { k with currentLimit := minutes }) }

/-- CLEANED (R70). -/
def cleaned (n : Nat) (s : State) : Owned :=
  match s.cbu.find n with
  | none => refused .range s
  | some c => if c.acting = .cleaning then done .none (allocateIfFree n (endCleaning n c s)) else refused .invalid s

/-- CABIN SERVICE out (R71). -/
def cabinOut (n : Nat) (c : Cabin) (s : State) : State :=
  match c.acting with
  | .free => moveCabin n (c.act .outOfService) s
  | .offered =>
    let withdrawn := endOffer n c .outOfService s
    match c.offeredEntry with
    | some e => allocate c.group (restoreHead c.group e true withdrawn)
    | none => withdrawn
  | .occupied => putCabin n { c with pendingOut := true } s
  | .cleaning => putCabin n { c with pendingOut := true } s
  | .outOfService => s
  | .unreachable => s

/-- CABIN SERVICE in (R72). -/
def cabinIn (n : Nat) (c : Cabin) (s : State) : State :=
  let back := { c with pendingOut := false }
  if c.acting = .outOfService then allocateIfFree n (moveCabin n (back.act .free) s) else putCabin n back s

/-- The resulting state, or remembered state, and the pending mark that CABIN SERVICE answers with, read after the whole act:
DEDUCED (log entry 44) where a cabin put back in service is offered in the same act to a band that waits (R62, R72). -/
def cabinServiceBody (n : Nat) (s : State) : AnswerBody :=
  match s.cbu.find n with
  | none => .none
  | some c => .cabinService c.acting c.pendingOut

/-- CABIN SERVICE (R71, R72): direction 0 out, 1 in. -/
def cabinService (n direction : Nat) (s : State) : Owned :=
  match s.cbu.find n with
  | none => refused .range s
  | some c =>
    match direction with
    | 0 => done (cabinServiceBody n (cabinOut n c s)) (cabinOut n c s)
    | 1 => done (cabinServiceBody n (cabinIn n c s)) (cabinIn n c s)
    | _ => refused .range s

/-- READ CABIN (R73). The content holds State's whole record; the limit loaded, a field of the model's own, is in none of its
bytes (log entries 18 and 45). -/
def readCabin (n : Nat) (s : State) : Owned :=
  match s.cbu.find n with
  | none => refused .range s
  | some c => done (.cabin n c) s

/-- The six cabin states in the order of their codes. -/
def cabinStates : List CabinState := [.free, .offered, .occupied, .cleaning, .outOfService, .unreachable]

/-- The cabins of a group in a given state. -/
def CabinUnit.countIn (u : CabinUnit) (g : Nat) (st : CabinState) : Nat :=
  (u.cabins.filter (fun c => c.group = g && c.state = st)).length

/-- A group's parameters as they stand (R52, R53, R54; spec 03 1.03). -/
def Group.parameters (k : Group) (g : GroupSetting) : GroupParameters :=
  { offerWindow := g.offerWindow, cleaningTime := g.cleaningTime, occupancyLimit := g.occupancyLimit,
    abandonTime := g.abandonTime, callPad := g.callPad, currentLimit := k.currentLimit, nextTicket := k.nextTicket }

/-- READ QUEUE (R73). -/
def readQueue (g start : Nat) (s : State) : Owned :=
  match s.cbu.group g with
  | none => refused .range s
  | some k =>
    if 3 < g || start < 1 || 32 < start then refused .range s
    else
      done
        (.queue (k.parameters (groupSetting s g)) (cabinStates.map (s.cbu.countIn g)) k.queue.length
          ((k.queue.drop (start - 1)).take 16)) s

/-! ## The commands -/

/-- CABIN ASSIGN. -/
def execCabinAssign (tag : Byte) (body : List Byte) (s : State) : Host.Outcome State Fault Refusal :=
  .next (runOrder .cabinAssign tag body (cabinAssign (bandAt body 0) (byteAt body 5)) s)

/-- SET CABIN LIMIT. -/
def execSetCabinLimit (tag : Byte) (body : List Byte) (s : State) : Host.Outcome State Fault Refusal :=
  .next (runOrder .setCabinLimit tag body (setCabinLimit (byteAt body 0) (byteAt body 1)) s)

/-- CLEANED. -/
def execCleaned (tag : Byte) (body : List Byte) (s : State) : Host.Outcome State Fault Refusal :=
  .next (runOrder .cleaned tag body (cleaned (byteAt body 0)) s)

/-- CABIN SERVICE, of any direction but in; a body whose direction is in is the other row's (log entry 27). -/
def execCabinServiceOut (tag : Byte) (body : List Byte) (s : State) : Host.Outcome State Fault Refusal :=
  .next
    (if body.length = 2 && byteAt body 1 = 1 then s
    else runOrder .cabinService tag body (cabinService (byteAt body 0) (byteAt body 1)) s)

/-- CABIN SERVICE, of any direction but out; a body whose direction is out is the other row's (log entry 27). -/
def execCabinServiceIn (tag : Byte) (body : List Byte) (s : State) : Host.Outcome State Fault Refusal :=
  .next
    (if body.length = 2 && byteAt body 1 = 0 then s
    else runOrder .cabinService tag body (cabinService (byteAt body 0) (byteAt body 1)) s)

/-- READ CABIN. -/
def execReadCabin (tag : Byte) (body : List Byte) (s : State) : Host.Outcome State Fault Refusal :=
  .next (runOrder .readCabin tag body (readCabin (byteAt body 0)) s)

/-- READ QUEUE. -/
def execReadQueue (tag : Byte) (body : List Byte) (s : State) : Host.Outcome State Fault Refusal :=
  .next (runOrder .readQueue tag body (readQueue (byteAt body 0) (byteAt body 1)) s)

end Sys2Proof.Machine
end

