-- ==== Sys2Proof/Machine/Bands.lean ====
section
/-!
DEFINITION. The band register (spec 01): recognition of a presentation (R4 to R8), and the band orders (R10 to R18)
with parties (R11, R19).
-/

namespace Sys2Proof.Machine

/-! ## Recognition (R4 to R8) -/

/-- The outcome of recognition. -/
inductive Recognised where
  /-- R4 invalid number, or R7 suppressed repeat: nothing further. -/
  | discarded
  | master
  | unknown
  | barred
  | band (r : BandRecord)
  deriving DecidableEq, Repr

/-- A presentation repeats the last one at the same reader within the repeat window (R7). -/
def repeated (last : Option (Reader × Nat)) (reader : Reader) (stamp window : Nat) : Bool :=
  match last with
  | none => false
  | some (r, held) => r = reader && secondsSince stamp held < window

/-- A master's repeat slot written (R5). -/
def BandRegister.stampMaster (r : BandRegister) (b : BandNo) (reader : Reader) (stamp : Nat) : BandRegister :=
  { r with
    masters := r.masters.map (fun m => if m.number = b then { m with lastPresentation := some (reader, stamp) } else m) }

/-- Recognition of a presentation at the present second (R4 to R8): the last presentation or the master's repeat slot
is written, and BarredSeen raised for a barred band. -/
def recognise (reader : Reader) (b : BandNo) (s : State) : State × Recognised :=
  if invalidBand b then (s, .discarded)
  else
    match s.bdr.master b with
    | some m =>
      if repeated m.lastPresentation reader s.now s.table.repeatWindow then (s, .discarded)
      else ({ s with bdr := s.bdr.stampMaster b reader s.now }, .master)
    | none =>
      match s.bdr.find b with
      | none => (s, .unknown)
      | some r =>
        if repeated r.lastPresentation reader s.now s.table.repeatWindow then (s, .discarded)
        else
          let seen := updateBand b (fun x => { x with lastPresentation := some (reader, s.now) }) s
          if r.state = .barred then (raiseNotice (.barredSeen b reader s.now r.replacedBy) seen, .barred)
          else (seen, .band { r with lastPresentation := some (reader, s.now) })

/-! ## Parties -/

/-- The party a new band joins, by its choice (R11). -/
def joinParty (choice : PartyChoice) (b : BandNo) (r : BandRegister) : BandRegister × Option Nat :=
  match choice with
  | .new => ({ r with parties := insertParty { number := r.freeParty, members := [b] } r.parties }, some r.freeParty)
  | .join n =>
    ({ r with parties := r.parties.map (fun p => if p.number = n then { p with members := p.members ++ [b] } else p) }, some n)
  | _ => (r, none)

/-- A band's place in its party (R17). -/
def partyPlace (r : BandRegister) (x : BandRecord) : Option PartyPlace :=
  match x.party.bind r.party with
  | none => none
  | some p =>
    some { position := p.members.findIdx (fun m => m = x.number) + 1, members := p.members.length, lead := p.members.head? }

/-! ## The band orders -/

/-- The record ISSUE BAND creates (R2, R10). -/
def issuedRecord (a : IssueArgs) (slot minute : Nat) (party : Option Nat) : BandRecord :=
  { slot := slot, number := a.band, state := .inside, cls := a.cls, entryMinute := minute, paidMinutes := min a.paidMinutes 1440,
    party := party, lockers := [], link := none, overstay := 0, quote := none, replacedBy := none, lastPresentation := none }

/-- ISSUE BAND (R10). -/
def issueBand (a : IssueArgs) (s : State) : Owned :=
  let choice := partyChoiceOf a.choice
  if s.sck.day ≠ .opened then refused .notOpen s
  else if invalidBand a.band || 7 < a.cls || choice = .outOfRange then refused .range s
  else if (s.bdr.find a.band).isSome || (s.bdr.master a.band).isSome then refused .inUse s
  else if Config.maxBands ≤ s.bdr.bands.length then refused .tableFull s
  else
    let create : Owned :=
      let joined := joinParty choice a.band s.bdr
      ({ s with bdr := joined.1.add (issuedRecord a s.bdr.freeSlot (minuteOf s.now) joined.2) },
        some { code := .done, clamped := decide (1440 < a.paidMinutes), body := .issued joined.2 })
    match choice with
    | .join n =>
      match s.bdr.party n with
      | none => refused .noParty s
      | some p => if Config.maxMembers ≤ p.members.length then refused .partyFull s else create
    | .new => if Config.maxParties ≤ s.bdr.parties.length then refused .tableFull s else create
    | _ => create

/-- BAR BAND (R12). -/
def barBand (b : BandNo) (s : State) : Owned :=
  match s.bdr.find b with
  | none => refused .noSuch s
  | some r =>
    match r.state with
    | .quoted => refused .settling s
    | .barred => done .none s
    | .inside => done .none (withdrawBand b (updateBand b (fun x => { x with state := .barred }) s))

/-- The record REPLACE BAND creates (R14). -/
def replacementRecord (old : BandRecord) (new : BandNo) (slot : Nat) : BandRecord :=
  { slot := slot, number := new, state := .inside, cls := old.cls, entryMinute := old.entryMinute,
    paidMinutes := old.paidMinutes, party := old.party, lockers := old.lockers, link := old.link, overstay := old.overstay,
    quote := none, replacedBy := none, lastPresentation := none }

/-- The old record after REPLACE BAND (R14). -/
def replacedRecord (old : BandRecord) (new : BandNo) : BandRecord :=
  { old with state := .barred, replacedBy := some new, party := none, lockers := [], link := none, overstay := 0 }

/-- A locker's holder rewritten (R14 (a), R26). -/
def rehold (new : BandNo) (s : State) (n : Nat) : State :=
  match s.lmu.find n with
  | none => s
  | some l => putLocker n { l with holder := some new } s

/-- The cabin unit's part of REPLACE BAND (R14 (b), R74). -/
def relink (old new : BandNo) (link : Option CabinLink) (s : State) : State :=
  match link with
  | some (.queued g _) => setQueue g (fun q => q.map (fun e => if e.band = old then { e with band := new } else e)) s
  | some (.offered n) =>
    match s.cbu.find n with
    | none => s
    | some c => putCabin n { c with band := some new } s
  | some (.holding n) =>
    match s.cbu.find n with
    | none => s
    | some c => putCabin n { c with band := some new } s
  | none => s

/-- The band register's part of REPLACE BAND: the new record, the party place, the old record (R14). -/
def BandRegister.replace (r : BandRegister) (old : BandRecord) (new : BandNo) : BandRegister :=
  let renamed :=
    { r with
      parties := r.parties.map (fun (p : Party) =>
        if old.party = some p.number then
          { p with members := p.members.map (fun (m : BandNo) => if m = old.number then new else m) }
        else p) }
  (renamed.update old.number (fun x => replacedRecord x new)).add (replacementRecord old new r.freeSlot)

/-- REPLACE BAND (R13, R14). -/
def replaceBand (old new : BandNo) (s : State) : Owned :=
  match s.bdr.find old with
  | none => refused .noSuch s
  | some r =>
    if r.state = .quoted then refused .settling s
    else if r.state = .barred && r.replacedBy.isSome then refused .invalid s
    else if invalidBand new then refused .range s
    else if (s.bdr.find new).isSome || (s.bdr.master new).isSome then refused .inUse s
    else if Config.maxBands ≤ s.bdr.bands.length then refused .tableFull s
    else
      done .none
        (relink old new r.link (r.lockers.foldl (rehold new) { s with bdr := s.bdr.replace r new }))

/-- FORGET BAND (R15). -/
def forgetBand (b : BandNo) (s : State) : Owned :=
  match s.bdr.find b with
  | none => refused .noSuch s
  | some r =>
    if r.state ≠ .barred then refused .invalid s
    else if r.lockers ≠ [] || r.link.isSome then refused .bound s
    else done .none { s with bdr := s.bdr.free b }

/-- READ BAND (R17). -/
def readBand (b : BandNo) (s : State) : Owned :=
  match s.bdr.find b with
  | none => refused .noSuch s
  | some r => done (.bandRecord r (partyPlace s.bdr r)) s

/-- A record matches a state filter: 0 any, 1 In, 2 Quoted, 3 Barred (R18). -/
def matchesFilter (filter : Nat) (r : BandRecord) : Bool := filter = 0 || r.state.code + 1 = filter

/-- LIST BANDS (R18). -/
def listBands (filter start : Nat) (s : State) : Owned :=
  if 3 < filter || 2047 < start then refused .range s
  else
    let reported := (s.bdr.bands.filter (fun r => start ≤ r.slot && matchesFilter filter r)).take 16
    let next := if reported.length < 16 then 2048 else ((reported.getLast?.map (·.slot)).getD 2047) + 1
    done (.bandList (reported.map (·.number)) next s.bdr.bands.length) s

/-- ISSUE BAND. -/
def execIssueBand (tag : Byte) (body : List Byte) (s : State) : Host.Outcome State Fault Refusal :=
  .next (runOrder .issueBand tag body (issueBand (issueArgs body)) s)

/-- BAR BAND. -/
def execBarBand (tag : Byte) (body : List Byte) (s : State) : Host.Outcome State Fault Refusal :=
  .next (runOrder .barBand tag body (barBand (bandAt body 0)) s)

/-- REPLACE BAND. -/
def execReplaceBand (tag : Byte) (body : List Byte) (s : State) : Host.Outcome State Fault Refusal :=
  .next (runOrder .replaceBand tag body (replaceBand (bandAt body 0) (bandAt body 5)) s)

/-- FORGET BAND. -/
def execForgetBand (tag : Byte) (body : List Byte) (s : State) : Host.Outcome State Fault Refusal :=
  .next (runOrder .forgetBand tag body (forgetBand (bandAt body 0)) s)

/-- READ BAND. -/
def execReadBand (tag : Byte) (body : List Byte) (s : State) : Host.Outcome State Fault Refusal :=
  .next (runOrder .readBand tag body (readBand (bandAt body 0)) s)

/-- LIST BANDS. -/
def execListBands (tag : Byte) (body : List Byte) (s : State) : Host.Outcome State Fault Refusal :=
  .next (runOrder .listBands tag body (listBands (byteAt body 0) (u16At body 1)) s)

end Sys2Proof.Machine
end

