-- ==== Sys2Proof/Machine/Settlement.lean ====
section
/-!
DEFINITION. The settlement computation, stage by stage (R92 to R102), and QUOTE PREVIEW (R103).
-/

namespace Sys2Proof.Machine

/-- The minute of computation X: 1,439 in a wrapped day (R93). -/
def computationMinute (wrapped : Bool) (minute : Nat) : Nat := if wrapped then 1439 else minute

/-- The stay S (R94). -/
def stayMinutes (x entry : Nat) : Nat := x - entry

/-- The overstay O (R95). -/
def overstayMinutes (stay paid grace : Nat) : Nat := stay - paid - grace

/-- The unit count N (R95). -/
def unitCount (overstay unit : Nat) : Nat := (overstay + unit - 1) / unit

/-- The start of unit `u` (R96). -/
def unitStart (entry paid grace unit u : Nat) : Nat := entry + paid + grace + u * unit

/-- The largest time band below `n` whose start is at or before a minute (R97). -/
def timeBandAt (t : List Byte) (minute : Nat) : Nat → Nat
  | 0 => 0
  | j + 1 => if tariffStart t j ≤ minute then j else timeBandAt t minute j

/-- The rate of a unit by the minute at which it begins (R97). -/
def unitRate (t : List Byte) (cls minute : Nat) : Nat := tariffRate t (timeBandAt t minute (tariffBandCount t)) cls

/-- The sum of the rates of units 0 to `n`−1 (R98). -/
def timeSum (t : List Byte) (cls entry paid grace unit : Nat) : Nat → Nat
  | 0 => 0
  | n + 1 => timeSum t cls entry paid grace unit n + unitRate t cls (unitStart entry paid grace unit n)

/-- Fine units to cents, half up: shifted right four places, the bit last shifted out added (R99). -/
def roundCents (total : Nat) : Nat := total / 16 + total / 8 % 2

/-- The charge: the rounded charge limited by the daily cap (R100). -/
def capCharge (rounded cap : Nat) : Nat := if rounded ≤ cap then rounded else cap

/-- The working of a computation against a bank, for a record, at a minute handed over (R92 to R102). -/
def settlementWorking (t : List Byte) (wrapped : Bool) (minute : Nat) (r : BandRecord) : Working :=
  let x := computationMinute wrapped minute
  let stay := stayMinutes x r.entryMinute
  let late := overstayMinutes stay r.paidMinutes (tariffGrace t r.cls)
  let n := unitCount late (tariffUnit t r.cls)
  let ft := timeSum t r.cls r.entryMinute r.paidMinutes (tariffGrace t r.cls) (tariffUnit t r.cls) n
  let fc := tariffCabinRate t r.cls * r.overstay
  { minute := x
    wrapped := wrapped
    stay := stay
    overstay := late
    units := n
    timeSum := ft
    cabinSum := fc
    total := ft + fc
    rounded := roundCents (ft + fc)
    capped := decide (tariffCap t r.cls < roundCents (ft + fc))
    generation := tariffGeneration t }

/-- The charge C of a computation (R100). -/
def settlementCharge (t : List Byte) (w : Working) (r : BandRecord) : Nat := capCharge w.rounded (tariffCap t r.cls)

/-- QUOTE PREVIEW (R103). -/
def quotePreview (body : List Byte) (s : State) : Owned :=
  let b := bandAt body 0
  if invalidBand b then refused .range s
  else
    match s.bdr.find b with
    | none => refused .noSuch s
    | some r =>
      let w := settlementWorking s.liveBank s.sck.wrapped (minuteOf s.now) r
      done (.preview (settlementCharge s.liveBank w r) w
        { lockers := r.lockers.length, link := r.link, standing := r.quote.map (fun q => (q.lane, q.amount)) }) s

/-- QUOTE PREVIEW. -/
def execQuotePreview (tag : Byte) (body : List Byte) (s : State) : Host.Outcome State Fault Refusal :=
  .next (runOrder .quotePreview tag body (quotePreview body) s)

end Sys2Proof.Machine
end

