-- ==== Sys2Proof/Machine/Lanes.lean ====
section
/-!
DEFINITION. The exit lanes (spec 06): desired entries (R107), insertion and assessment (R108 to R112), payment and the
other ends of a quote (R113 to R115), the pass window (R116), the collector fault (R117), loss, regain and reconcile
(R118 to R120), READ LANE (R121), rebuild and the other resets (R122, R123).
-/

namespace Sys2Proof.Machine

/-- The site table record of a lane (R104). -/
def laneSetting (s : State) (l : Nat) : LaneSetting :=
  (s.table.lanes[l]?).getD { quoteWindow := 0, passWindow := 0, pitch := 0 }

/-! ## Desired entries (R107) -/

/-- The shutter, gate and display a lane's state asks for (R107); none in Unreachable. -/
def Lane.wishes (e : Lane) : Option (Bool × GateWish × DisplayText) :=
  match e.state with
  | .idle => some (true, .shut, .blank)
  | .holding => some (false, .shut, .amount (e.quoteAmount.getD 0))
  | .passing => some (false, (match e.passExpiry with | some x => .openUntil x | none => .shut), .go)
  | .unreachable => none

/-- The entries of a lane written from its state. -/
def FieldLine.showLane (f : FieldLine) (l : Nat) (e : Option Lane) : FieldLine :=
  match e.bind Lane.wishes with
  | none => f
  | some w =>
    f.update (laneAddr l) (fun st =>
      ((st.write .shutter (.shutter w.1)).write .gate (.gate w.2.1)).write .standing (.standing w.2.2))

/-- Write a lane's shutter, gate and display from its state (R107). -/
def showLane (l : Nat) (s : State) : State := { s with flm := s.flm.showLane l (s.xlu.find l) }

/-- A lane record of a new state: written, its watches evaluated, its desired entries written in the same act. -/
def moveLane (l : Nat) (e : Lane) (s : State) : State := showLane l (putLane l e s)

/-- A slot action for a band (R105 (b)). -/
def writeSlot (l : Nat) (act : SlotAction) (b : BandNo) (s : State) : State :=
  writeEntry (laneAddr l) .slotAction (.slotAction (some (act, b))) s

/-- Return written for the band in the slot, where there is one (R119, R120). -/
def returnSlot (l : Nat) (slot : Option BandNo) (s : State) : State :=
  match slot with
  | none => s
  | some b => writeSlot l .giveBack b s

/-- A refusal at a collector: a slot action, the Refuse pattern and a standing text (R107, R108, R109). -/
def refuseAtLane (l : Nat) (act : SlotAction) (b : BandNo) (text : DisplayText) (s : State) : State :=
  writeEntry (laneAddr l) .standing (.standing text) (playOnce (laneAddr l) .refuse (writeSlot l act b s))

/-! ## Insertion and assessment (R108 to R112) -/

/-- A lane in Passing, naming a band with a cause, for the pass window from the present second (R109, R111, R113). -/
def Lane.passing (e : Lane) (b : BandNo) (cause : PassCause) (passExpiry : Nat) : Lane :=
  { e with state := .passing, band := some b, cause := some cause, quoteAmount := none, quoteExpiry := none,
           passExpiry := some passExpiry }

/-- The gate opened for a band: the lane Passing, the Accept pattern, and a slot action for the band (R109, R111, R113). -/
def letThrough (l : Nat) (e : Lane) (b : BandNo) (cause : PassCause) (act : SlotAction) (s : State) : State :=
  playOnce (laneAddr l) .accept
    (writeSlot l act b (moveLane l (e.passing b cause (addSeconds s.now (laneSetting s l).passWindow)) s))

/-- Free a band's record (R16). -/
def freeBand (b : BandNo) (s : State) : State := { s with bdr := s.bdr.free b }

/-- A collection: the band's record freed in the act that opens the gate (R111, R113). -/
def collectBand (l : Nat) (e : Lane) (b : BandNo) (cause : PassCause) (s : State) : State :=
  freeBand b (letThrough l e b cause .collect s)

/-- A lane holding a band for a charge (R112 (b)). -/
def Lane.holding (e : Lane) (b : BandNo) (amount expiry : Nat) : Lane :=
  { e with state := .holding, band := some b, cause := none, quoteAmount := some amount, quoteExpiry := some expiry,
           passExpiry := none, lastExpiry := none }

/-- A quote: lane and band record written in one act, and SettlementDue (R112). -/
def quoteBand (l : Nat) (e : Lane) (b : BandNo) (amount : Nat) (w : Working) (s : State) : State :=
  let expiry := addSeconds s.now (laneSetting s l).quoteWindow
  raiseNotice (.settlementDue b l amount expiry w)
    (writeSlot l .hold b
      (updateBand b (fun r => { r with state := .quoted, quote := some { lane := l, amount := amount, expiry := expiry } })
        (moveLane l (e.holding b amount expiry) s)))

/-- The assessment of a band that has passed the refusals of R109: withdrawal, charge, and collection or quote (R110). -/
def assessBand (l : Nat) (e : Lane) (r : BandRecord) (s : State) : State :=
  let t := withdrawBand r.number s
  let w := settlementWorking t.liveBank t.sck.wrapped (minuteOf t.now) r
  let charge := settlementCharge t.liveBank w r
  if charge = 0 then collectBand l { e with lastExpiry := none } r.number .collected t
  else quoteBand l e r.number charge w t

/-- An insertion at an Idle lane, dealt with by the outcome of recognition and the record (R109). -/
def insertAtIdle (l : Nat) (e : Lane) (b : BandNo) (seen : Recognised) (s : State) : State :=
  match seen with
  | .discarded => s
  | .master => letThrough l e b .master .giveBack s
  | .unknown => refuseAtLane l .giveBack b (.code .unknown) s
  | .barred => refuseAtLane l .retain b (.code .br) s
  | .band r =>
    if r.state = .quoted then refuseAtLane l .giveBack b (.code .se) s
    else
      match r.lockers, r.link with
      | first :: _, _ => refuseAtLane l .giveBack b (.lockerRefusal first) s
      | [], some (.holding c) => refuseAtLane l .giveBack b (.cabinRefusal c) s
      | [], _ => assessBand l e r s

/-- An insertion that recognition has not discarded, by the lane's state (R108). -/
def insertBand (l : Nat) (b : BandNo) (seen : Recognised) (s : State) : State :=
  match s.xlu.find l with
  | none => s
  | some old =>
    let e := { old with slot := some b }
    match old.state with
    | .idle => insertAtIdle l e b seen (putLane l e s)
    | .passing => refuseAtLane l .giveBack b (.code .byCode) (putLane l e s)
    | .holding => s
    | .unreachable => s

/-! ## The end of a quote (R113 to R115) -/

/-- A band goes back to In with its quote absent (R106). -/
def unquote (b : Option BandNo) (s : State) : State :=
  match b with
  | none => s
  | some b => updateBand b (fun r => { r with state := .inside, quote := none }) s

/-- A quote ended without payment: the lane Idle, or remembered Idle, the band In; no slot action (R114, R119 (a)). -/
def endQuote (l : Nat) (e : Lane) (last : Option (BandNo × Nat)) (s : State) : State :=
  unquote e.band
    (moveLane l ({ e with band := none, quoteAmount := none, quoteExpiry := none, lastExpiry := last }.act .idle) s)

/-- A quote ended with Return written for its band, which waits for the regain while the lane is Unreachable
(R114, R115, R123). -/
def giveBackQuote (l : Nat) (e : Lane) (last : Option (BandNo × Nat)) (s : State) : State :=
  let ended := endQuote l e last s
  if e.state = .holding then returnSlot l e.band ended else ended

/-- QuoteExpired for the quote a lane record carries (R114, R119, R120). -/
def announceEnd (l : Nat) (e : Lane) (cause : QuoteEnd) (s : State) : State :=
  match e.band with
  | none => s
  | some b => raiseNotice (.quoteExpired b l (e.quoteAmount.getD 0) cause) s

/-- The quote expiry of a lane, where it is reached at the present second (R114). -/
def takeQuoteExpiry (l : Nat) (s : State) : State :=
  match s.xlu.find l with
  | none => s
  | some e =>
    if e.acting = .holding && e.quoteExpiry = some s.now then
      announceEnd l e .window (giveBackQuote l e (e.band.map (fun b => (b, s.now))) s)
    else s

/-- A lane returned from Passing to Idle, or remembered Idle (R116). -/
def endPass (l : Nat) (e : Lane) (s : State) : State :=
  moveLane l ({ e with band := none, cause := none, passExpiry := none }.act .idle) s

/-- The pass expiry of a lane, where it is reached at the present second (R116). -/
def takePassExpiry (l : Nat) (s : State) : State :=
  match s.xlu.find l with
  | none => s
  | some e =>
    if e.acting = .passing && e.passExpiry = some s.now then raiseNotice (.noPass l e.band e.cause) (endPass l e s) else s

/-- A PassSensed event (R116). -/
def passSensed (l : Nat) (s : State) : State :=
  match s.xlu.find l with
  | none => s
  | some e => if e.state = .passing then endPass l e s else s

/-- A CollectorFault event (R117). -/
def collectorFault (l : Nat) (s : State) : State :=
  match s.xlu.find l with
  | none => s
  | some e => raiseNotice (.collectorFault (laneAddr l) e.state) s

/-! ## The lane orders (R113, R115, R121) -/

/-- PAID against a lane that names the band (R113 (a), (b)). -/
def paidAgainst (l : Nat) (e : Lane) (b : BandNo) (amount : Nat) (s : State) : Owned :=
  let quoted := e.quoteAmount.getD 0
  if e.state = .unreachable then
    (s, some { code := .busy, clamped := false, body := .quoteStanding quoted (e.quoteExpiry.getD 0) })
  else if amount < quoted then (s, some { code := .short, clamped := false, body := .quoteAmount quoted })
  else done (.paid quoted amount) (collectBand l e b .paid s)

/-- PAID (R113). -/
def paid (a : PaidArgs) (s : State) : Owned :=
  match s.xlu.find a.lane with
  | none => refused .range s
  | some e =>
    if e.acting = .holding && e.band = some a.band then paidAgainst a.lane e a.band a.amount s
    else
      match e.lastExpiry with
      | some (b, second) =>
        if b = a.band then (s, some { code := .expired, clamped := false, body := .expiredAt second }) else refused .noSuch s
      | none => refused .noSuch s

/-- CANCEL QUOTE (R115). -/
def cancelQuote (l : Nat) (s : State) : Owned :=
  match s.xlu.find l with
  | none => refused .range s
  | some e =>
    match e.acting, e.band with
    | .holding, some b => done (.quoteCancelled b (e.quoteAmount.getD 0)) (giveBackQuote l e e.lastExpiry s)
    | _, _ => refused .noSuch s

/-- READ LANE (R121). -/
def readLane (l : Nat) (s : State) : Owned :=
  match s.xlu.find l with
  | none => refused .range s
  | some e => done (.lane l e (s.flm.health (laneAddr l))) s

/-! ## Loss, regain and reconcile (R118 to R120) -/

/-- A lane unit is declared Lost (R118). -/
def loseLane (l : Nat) (s : State) : State :=
  match s.xlu.find l with
  | none => s
  | some e => if e.state = .unreachable then s else putLane l { e with state := .unreachable, remembered := some e.state } s

/-- A regained lane: Idle, naming nothing (R119). -/
def Lane.regained (e : Lane) (slot : Option BandNo) : Lane :=
  { e with state := .idle, band := none, cause := none, quoteAmount := none, quoteExpiry := none, passExpiry := none,
           remembered := none, slot := slot }

/-- A lane unit is regained (R119). -/
def regainLane (l : Nat) (slot : Option BandNo) (s : State) : State :=
  match s.xlu.find l with
  | none => s
  | some e =>
    let restored := moveLane l (e.regained slot) s
    returnSlot l slot
      (if e.acting = .holding then announceEnd l e .regain (unquote e.band restored) else restored)

/-- The gate entry written again for the remainder of the pass window (R120). -/
def reopenGate (l : Nat) (e : Lane) (s : State) : State :=
  match e.passExpiry with
  | none => s
  | some x => writeEntry (laneAddr l) .gate (.gate (.openUntil x)) s

/-- The reconcile of a lane that is not Unreachable (R120). -/
def reconcileLane (l : Nat) (slot : Option BandNo) (s : State) : State :=
  match s.xlu.find l with
  | none => s
  | some old =>
    let e := { old with slot := slot }
    let sensed := putLane l e s
    match e.state with
    | .idle => returnSlot l slot sensed
    | .holding =>
      if slot.isSome && slot = e.band then (match e.band with | some b => writeSlot l .hold b sensed | none => sensed)
      else returnSlot l slot (announceEnd l e .reconcile (endQuote l e e.lastExpiry sensed))
    | .passing => returnSlot l slot (reopenGate l e sensed)
    | .unreachable => s

/-! ## Resets and PURGE (R122, R123) -/

/-- Every lane in turn, in rising number: DESIGN CHOICE, the spec gives the lanes of one act no order (log entry 41). -/
def overLanes (f : Nat → State → State) (s : State) : State := (List.range s.xlu.lanes.length).foldl (fun t l => f l t) s

/-- The quote of a lane ended at a warm reset or PURGE, its last expiry kept (R123). -/
def unwindQuote (l : Nat) (s : State) : State :=
  match s.xlu.find l with
  | none => s
  | some e => if e.acting = .holding then giveBackQuote l e e.lastExpiry s else s

/-- The exit lanes at a warm reset (R123 (a)). -/
def warmLanes (s : State) : State := overLanes unwindQuote s

/-- Lanes whose quote PURGE ends (R135). -/
def quotesStanding (s : State) : Nat := (s.xlu.lanes.filter (fun e => e.acting = .holding)).length

/-- The last expiry of every lane made absent (R123 (c)). -/
def LaneUnit.forgetExpiries (u : LaneUnit) : LaneUnit := { u with lanes := u.lanes.map (fun e => { e with lastExpiry := none }) }

/-- The exit lanes at PURGE (R123 (c)). -/
def purgeLanes (s : State) : State :=
  let t := overLanes unwindQuote s
  { t with xlu := t.xlu.forgetExpiries }

/-- A lane of a site rebuild (R122). -/
def freshLane : Lane :=
  { state := .idle, band := none, cause := none, quoteAmount := none, quoteExpiry := none, passExpiry := none,
    remembered := none, lastExpiry := none, slot := none }

/-- The exit lanes of a site rebuild (R122). -/
def freshLanes (t : SiteTable) : LaneUnit := { lanes := t.lanes.map (fun _ => freshLane) }

/-! ## The commands -/

/-- PAID. -/
def execPaid (tag : Byte) (body : List Byte) (s : State) : Host.Outcome State Fault Refusal :=
  .next (runOrder .paid tag body (paid (paidArgs body)) s)

/-- CANCEL QUOTE. -/
def execCancelQuote (tag : Byte) (body : List Byte) (s : State) : Host.Outcome State Fault Refusal :=
  .next (runOrder .cancelQuote tag body (cancelQuote (byteAt body 0)) s)

/-- READ LANE. -/
def execReadLane (tag : Byte) (body : List Byte) (s : State) : Host.Outcome State Fault Refusal :=
  .next (runOrder .readLane tag body (readLane (byteAt body 0)) s)

end Sys2Proof.Machine
end

