-- ==== Sys2Proof/Machine/Lockers.lean ====
section
/-!
DEFINITION. The locker map (spec 02): desired entries (R28), presentations (R29 to R32, R35, R38), door events (R33, R35,
R36, R45), the opening expiry (R34), the locker orders (R37, R39 to R44, R27), loss, regain and reconcile (R46, R47),
and the acts of PURGE and of a rebuild (R49, R51).
-/

namespace Sys2Proof.Machine

/-! ## Desired entries (R28) -/

/-- The bolt and lamp a locker's state asks for (R28); none in Unreachable. -/
def Locker.wishes (l : Locker) : Option (BoltWish × Lamp) :=
  match l.state with
  | .vacant => some (.unlocked, .steady)
  | .held => some (.locked, .off)
  | .opening => some (.unlockedUntil (l.openingExpiry.getD 0), .slowFlash)
  | .opened => some (.unlocked, .off)
  | .forced => some (.locked, .fastFlash)
  | .orphaned => some (.locked, .off)
  | .outOfService => some (.unlocked, .off)
  | .unreachable => none

/-- The entries of a locker written from its state, without dirty marks where R48 says so. -/
def FieldLine.showLocker (f : FieldLine) (n : Nat) (l : Option Locker) (marked : Bool) : FieldLine :=
  match l.bind Locker.wishes with
  | none => f
  | some w =>
    f.update (bankAddr (lockerBank n)) (fun st =>
      (st.writeMarked marked (.bolt (lockerDoor n)) (.bolt w.1)).writeMarked marked (.lamp (lockerDoor n)) (.lamp w.2))

/-- Write a locker's bolt and lamp from its state (R28). -/
def showLocker (n : Nat) (s : State) : State :=
  { s with flm := s.flm.showLocker n (s.lmu.find n) (!s.lmu.awaiting (lockerBank n)) }

/-- A locker entry of a new state: written, its watches evaluated, its desired entries written in the same act. -/
def moveLocker (n : Nat) (l : Locker) (s : State) : State := showLocker n (putLocker n l s)

/-- The bolt entry of a locker written again as unlocked (R47). -/
def unlockAgain (n : Nat) (s : State) : State :=
  { s with
    flm := s.flm.update (bankAddr (lockerBank n))
      (fun st => st.writeMarked (!s.lmu.awaiting (lockerBank n)) (.bolt (lockerDoor n)) (.bolt .unlocked)) }

/-- The Accept pattern of the locker's bank. -/
def acceptAtLocker (n : Nat) (s : State) : State := playOnce (bankAddr (lockerBank n)) .accept s

/-- A refusal at a locker reader. -/
def refuseAtLocker (n : Nat) (code : DisplayCode) (s : State) : State :=
  refuseAt (bankAddr (lockerBank n)) (lockerDoor n) code s

/-- The bank sounder is desired to play Alarm (R36). -/
def soundAlarm (b : Nat) (s : State) : State := { s with flm := s.flm.update (bankAddr b) (fun st => st.setAlarm true) }

/-- The bank sounder stops playing Alarm when no locker of the bank remains Forced (R37, R39, R47). -/
def quietAlarm (b : Nat) (s : State) : State :=
  if s.lmu.countIn b .forced = 0 then
    { s with flm := s.flm.update (bankAddr b) (fun st => if st.alarm then st.setAlarm false else st) }
  else s

/-! ## State changes -/

/-- A Vacant locker marked pending goes on at once to OutOfService, the mark cleared (R40). -/
def settlePending (n : Nat) (s : State) : State :=
  match s.lmu.find n with
  | none => s
  | some l =>
    if l.state = .vacant && l.pendingOut then moveLocker n { l with state := .outOfService, pendingOut := false } s else s

/-- A locker becomes Vacant: any binding ends, in the entry and on the holder's list, and a pending out-of-service
applies (R26, R33, R35, R37, R39, R40). -/
def vacate (n : Nat) (l : Locker) (s : State) : State :=
  settlePending n
    (dropLocker l.holder n
      (moveLocker n { l with state := .vacant, holder := none, openedBy := none, openingExpiry := none } s))

/-- A locker goes to Held or Open, its opening over (R33, R34, R35, R37). -/
def settleTo (n : Nat) (l : Locker) (st : LockerState) (s : State) : State :=
  moveLocker n { l with state := st, openedBy := none, openingExpiry := none } s

/-- Forced entry (R36). -/
def forceLocker (n : Nat) (l : Locker) (cause : AlarmCause) (s : State) : State :=
  raiseNotice (.lockerAlarm n l.holder s.now cause)
    (soundAlarm (lockerBank n) (moveLocker n { l with state := .forced } s))

/-- The use count raised by one, stopping at 65,535 (R31). -/
def countUse (n : Nat) : Nat := min (n + 1) 65535

/-- A count at or above the service interval that has not been notified (R31). -/
def serviceDue (interval count : Nat) (notified : Bool) : Bool := interval ≠ 0 && interval ≤ count && !notified

/-- A claim that has passed its tests (R31). -/
def claimLocker (n : Nat) (l : Locker) (b : BandNo) (s : State) : State :=
  let count := countUse l.useCount
  let due := serviceDue s.table.serviceInterval count l.serviceNotified
  let claimed :=
    { l with
      state := .held
      holder := some b
      claimRetention := some l.retention
      useCount := count
      serviceNotified := l.serviceNotified || due }
  let bound := acceptAtLocker n (updateBand b (fun r => { r with lockers := r.lockers ++ [n] }) (moveLocker n claimed s))
  if due then raiseNotice (.service n count) bound else bound

/-- An opening started at a Held or an Orphaned locker (R32, R38). -/
def startOpening (n : Nat) (l : Locker) (opener : Opener) (s : State) : State :=
  acceptAtLocker n
    (moveLocker n
      { l with state := .opening, openedBy := some opener, openingExpiry := some (addSeconds s.now s.table.openWindow) } s)

/-- An opening window renewed (R32). -/
def renewOpening (n : Nat) (l : Locker) (opener : Opener) (s : State) : State :=
  let e := addSeconds s.now s.table.openWindow
  acceptAtLocker n
    (writeEntry (bankAddr (lockerBank n)) (.bolt (lockerDoor n)) (.bolt (.unlockedUntil e))
      (putLocker n { l with openingExpiry := some e, openedBy := if opener = .master then some .master else l.openedBy } s))

/-- The door of an Opening locker opens (R33). -/
def openedInWindow (n : Nat) (l : Locker) (s : State) : State :=
  if l.holder.isNone then vacate n l s
  else if l.openedBy = some .master then settleTo n l .opened s
  else if l.claimRetention = some .single then vacate n l s
  else settleTo n l .opened s

/-- A Forced locker is cleared (R37). -/
def clearLocker (n : Nat) (l : Locker) (s : State) : State :=
  quietAlarm (lockerBank n)
    (if l.holder.isNone then vacate n l s
    else if l.doorOpen then settleTo n l .opened s
    else settleTo n l .held s)

/-! ## Presentations (R29, R30) -/

/-- The locker is held by the presenting band or by a band of its party (R29, R20). -/
def Locker.entitles (l : Locker) (r : BandRecord) (s : State) : Bool :=
  match l.holder with
  | none => false
  | some b => b = r.number || s.bdr.sameParty b r.number

/-- The tests of a claim, in order (R30). -/
def claimRefusal (l : Locker) (r : BandRecord) (s : State) : Option DisplayCode :=
  if l.staffOnly && !tariffStaffRight s.liveBank r.cls then some .st
  else if tariffAllowance s.liveBank r.cls ≤ r.lockers.length then some .fl
  else if l.doorOpen then some .doorOpen
  else none

/-- A band presented at a locker reader (R29). -/
def presentAtLocker (n : Nat) (r : BandRecord) (s : State) : State :=
  match s.lmu.find n with
  | none => s
  | some l =>
    if l.state = .unreachable then s
    else if l.state = .vacant && s.sck.day = .closed then refuseAtLocker n .cl s
    else if r.state = .quoted then refuseAtLocker n .se s
    else
      match l.state with
      | .vacant =>
        match claimRefusal l r s with
        | some code => refuseAtLocker n code s
        | none => claimLocker n l r.number s
      | .held => if l.entitles r s then startOpening n l .band s else refuseAtLocker n .no s
      | .opening => if l.entitles r s then renewOpening n l .band s else refuseAtLocker n .no s
      | .opened => if l.entitles r s then acceptAtLocker n (vacate n l s) else refuseAtLocker n .no s
      | .forced => refuseAtLocker n .al s
      | .orphaned => refuseAtLocker n .orphan s
      | .outOfService => refuseAtLocker n .os s
      | .unreachable => s

/-- A master band presented at a locker reader (R29). -/
def masterAtLocker (n : Nat) (s : State) : State :=
  match s.lmu.find n with
  | none => s
  | some l =>
    match l.state with
    | .vacant => acceptAtLocker n s
    | .held => startOpening n l .master s
    | .opening => renewOpening n l .master s
    | .opened => acceptAtLocker n s
    | .forced => acceptAtLocker n (clearLocker n l s)
    | .orphaned => startOpening n l .master s
    | .outOfService => acceptAtLocker n s
    | .unreachable => s

/-! ## Door events and the opening expiry -/

/-- A door-change event taken for a locker (R45). -/
def lockerDoorEvent (n : Nat) (isOpen : Bool) (s : State) : State :=
  match s.lmu.find n with
  | none => s
  | some old =>
    if old.state = .unreachable then s
    else
      let l := { old with doorOpen := isOpen }
      let sensed := putLocker n l s
      match l.state, isOpen with
      | .held, true => forceLocker n l .openedWhileHeld sensed
      | .orphaned, true => forceLocker n l .openedWhileOrphaned sensed
      | .opening, true => openedInWindow n l sensed
      | .opened, false => settleTo n l .held sensed
      | _, _ => sensed

/-- The opening expiry of a locker, where it is reached at the present second (R34, R46). -/
def takeOpeningExpiry (n : Nat) (s : State) : State :=
  match s.lmu.find n with
  | none => s
  | some l =>
    if l.acting = .opening && l.openingExpiry = some s.now then
      moveLocker n ({ l with openedBy := none, openingExpiry := none }.act (if l.holder.isSome then .held else .orphaned)) s
    else s

/-! ## Orders on lockers -/

/-- RELEASE LOCKER (R39). -/
def releaseLocker (n : Nat) (s : State) : Owned :=
  match s.lmu.find n with
  | none => refused .range s
  | some l =>
    if l.acting = .vacant || l.acting = .outOfService then refused .invalid s
    else if l.state = .unreachable then
      let left : LockerState := if l.pendingOut then .outOfService else .vacant
      done (.released l.holder left)
        (dropLocker l.holder n
          (putLocker n
            { l with remembered := some left, holder := none, openedBy := none, openingExpiry := none, pendingOut := false } s))
    else
      let t := quietAlarm (lockerBank n) (vacate n l s)
      done (.released l.holder (if l.pendingOut then .outOfService else .vacant)) t

/-- CLEAR FORCED (R37). -/
def clearForced (n : Nat) (s : State) : Owned :=
  match s.lmu.find n with
  | none => refused .range s
  | some l =>
    if l.state ≠ .forced then refused .invalid s
    else
      let t := clearLocker n l s
      done (.lockerState (((t.lmu.find n).map (·.state)).getD .vacant)) t

/-- LOCKER SERVICE out on one locker (R40). -/
def serviceOut (n : Nat) (l : Locker) (s : State) : State :=
  let out := { l with inService := false }
  match l.state with
  | .vacant => moveLocker n { out with state := .outOfService } s
  | .outOfService => putLocker n out s
  | .unreachable =>
    match l.remembered with
    | some .vacant => putLocker n { out with remembered := some .outOfService } s
    | some .outOfService => putLocker n out s
    | _ => putLocker n { out with pendingOut := true } s
  | _ => putLocker n { out with pendingOut := true } s

/-- LOCKER SERVICE in on one locker (R40). -/
def serviceIn (n : Nat) (l : Locker) (s : State) : State :=
  let back := { l with inService := true, pendingOut := false }
  match l.state with
  | .outOfService => moveLocker n { back with state := .vacant } s
  | .unreachable => putLocker n (if l.remembered = some .outOfService then { back with remembered := some .vacant } else back) s
  | _ => putLocker n back s

/-- The resulting state and pending mark that LOCKER SERVICE answers with (R40). DEDUCED (log entry 40): while the locker is
Unreachable the state answered is the remembered state, as R39 and R71 say of theirs; R40 says only the resulting state. -/
def serviceBody (n : Nat) (s : State) : AnswerBody :=
  match s.lmu.find n with
  | none => .none
  | some l => .lockerService l.acting l.pendingOut

/-- LOCKER SERVICE (R40): direction 0 out, 1 in. -/
def lockerService (n direction : Nat) (s : State) : Owned :=
  match s.lmu.find n with
  | none => refused .range s
  | some l =>
    match direction with
    | 0 => done (serviceBody n (serviceOut n l s)) (serviceOut n l s)
    | 1 => done (serviceBody n (serviceIn n l s)) (serviceIn n l s)
    | _ => refused .range s

/-- RESET USE COUNT (R41). -/
def resetUseCount (n : Nat) (s : State) : Owned :=
  match s.lmu.find n with
  | none => refused .range s
  | some l => done .none (putLocker n { l with useCount := 0, serviceNotified := false } s)

/-- LOCKER WINDOW LOAD is refused Range (R42 (a) to (d)). -/
def windowOutOfRange (a : WindowArgs) (banks : Nat) : Bool :=
  a.lastBank < a.firstBank || a.lastDoor < a.firstDoor || banks ≤ a.lastBank || 23 < a.lastDoor
  || 2 < a.inService || 2 < a.retention || 2 < a.staffOnly

/-- A locker lies in the window (R43). -/
def inWindow (a : WindowArgs) (n : Nat) : Bool :=
  a.firstBank ≤ lockerBank n && lockerBank n ≤ a.lastBank && a.firstDoor ≤ lockerDoor n && lockerDoor n ≤ a.lastDoor

/-- The retention and staff-only attributes written as a window asks; 2 is Keep (R43). -/
def Locker.load (l : Locker) (a : WindowArgs) : Locker :=
  { l with
    retention := match a.retention with | 0 => .single | 1 => .visit | _ => l.retention
    staffOnly := match a.staffOnly with | 0 => false | 1 => true | _ => l.staffOnly }

/-- One locker of a window load (R43). -/
def windowLocker (a : WindowArgs) (s : State) (n : Nat) : State :=
  match s.lmu.find n with
  | none => s
  | some l =>
    match a.inService with
    | 0 => serviceOut n (l.load a) s
    | 1 => serviceIn n (l.load a) s
    | _ => putLocker n (l.load a) s

/-- An attribute or the pending mark of a locker differs between two states (R43). -/
def attributesDiffer (s t : State) (n : Nat) : Bool :=
  match s.lmu.find n, t.lmu.find n with
  | some a, some b =>
    a.inService ≠ b.inService || a.retention ≠ b.retention || a.staffOnly ≠ b.staffOnly || a.pendingOut ≠ b.pendingOut
  | _, _ => false

/-- LOCKER WINDOW LOAD (R42, R43). DESIGN CHOICE (log entry 41): the lockers of its one act are taken in rising logical
number, an order the spec does not give. -/
def lockerWindowLoad (a : WindowArgs) (s : State) : Owned :=
  if windowOutOfRange a s.lmu.banks.length then refused .range s
  else
    let t := (s.lmu.numbers.filter (inWindow a)).foldl (windowLocker a) s
    done (.windowCount (s.lmu.numbers.filter (attributesDiffer s t)).length) t

/-- READ LOCKER (R44). -/
def readLocker (n : Nat) (s : State) : Owned :=
  match s.lmu.find n with
  | none => refused .range s
  | some l => done (.locker n l) s

/-- The eight locker states in the order of their codes. -/
def lockerStates : List LockerState :=
  [.vacant, .held, .opening, .opened, .forced, .unreachable, .orphaned, .outOfService]

/-- READ BANK (R27). -/
def readBank (b : Nat) (s : State) : Owned :=
  match s.lmu.banks[b]?, s.table.banks[b]? with
  | some k, some setting =>
    done
      (.bank setting.doors setting.mirrored setting.retention k.freeCount (lockerStates.map (s.lmu.countIn b))
        (s.flm.health (bankAddr b))) s
  | _, _ => refused .range s

/-! ## Loss, regain and reconcile (R46, R47) -/

/-- Every locker of a bank in turn, in rising order of logical door. DESIGN CHOICE (log entry 41): the spec gives the lockers
of one act, a loss, regain or reconcile of a bank, no order (R46, R47). -/
def overBank (b : Nat) (f : State → Nat → State) (s : State) : State := (s.lmu.numbersOf b).foldl f s

/-- One locker of a bank declared Lost (R46). -/
def loseLocker (s : State) (n : Nat) : State :=
  match s.lmu.find n with
  | none => s
  | some l => if l.state = .unreachable then s else putLocker n { l with state := .unreachable, remembered := some l.state } s

/-- One locker of a regained bank restored, its entries written from the restored state (R46). -/
def restoreLocker (s : State) (n : Nat) : State :=
  match s.lmu.find n with
  | none => s
  | some l =>
    if l.state = .unreachable then moveLocker n { l with state := l.remembered.getD .vacant, remembered := none } s else s

/-- A locker treated by the table of R47, its sensed positions written. -/
def treatLocker (n : Nat) (l : Locker) (s : State) : State :=
  match l.state with
  | .vacant =>
    if !l.doorOpen && l.boltLocked then
      if l.orphanCheck then moveLocker n { l with state := .orphaned } s else unlockAgain n s
    else s
  | .held => if l.doorOpen then forceLocker n l .foundOpen s else s
  | .opening => if l.doorOpen then openedInWindow n l s else s
  | .opened => if l.doorOpen then s else settleTo n l .held s
  | .forced =>
    if l.holder.isNone && !l.doorOpen && l.orphanCheck then
      quietAlarm (lockerBank n) (moveLocker n { l with state := .orphaned } s)
    else s
  | .orphaned => if l.doorOpen then forceLocker n l .foundOpen s else s
  | .outOfService => unlockAgain n s
  | .unreachable => s

/-- The orphan check of a locker set to no (R47). -/
def clearOrphanCheck (n : Nat) (s : State) : State :=
  match s.lmu.find n with
  | none => s
  | some l => putLocker n { l with orphanCheck := false } s

/-- One locker reconciled with its door and bolt positions (R47). -/
def reconcileLocker (doors : List DoorReading) (s : State) (n : Nat) : State :=
  match s.lmu.find n, doors[lockerDoor n]? with
  | some l, some d =>
    let sensed := { l with doorOpen := d.isOpen, boltLocked := d.locked }
    clearOrphanCheck n (treatLocker n sensed (putLocker n sensed s))
  | _, _ => s

/-- The bank has had its first reconcile since a rebuild (R48). -/
def endAwaiting (b : Nat) (s : State) : State :=
  { s with lmu := { s.lmu with banks := s.lmu.banks.modify b (fun k => { k with awaitingFirst := false }) } }

/-- The reconcile of a bank with a status read, doors by logical number (R47). -/
def reconcileBank (b : Nat) (doors : List DoorReading) (s : State) : State :=
  endAwaiting b (overBank b (reconcileLocker doors) s)

/-- The bank sounder entry follows the Forced lockers of the bank (R46). DEDUCED (log entry 14): the entry is written at the
regain whether or not a locker is Forced, and a one-shot pattern that has waited through the loss is dropped with it. -/
def followAlarm (b : Nat) (s : State) : State :=
  { s with flm := s.flm.update (bankAddr b) (fun st => st.setAlarm (s.lmu.countIn b .forced ≠ 0)) }

/-- A lock bank regained: restored, its sounder following, then reconciled (R46). -/
def regainBank (b : Nat) (doors : List DoorReading) (s : State) : State :=
  reconcileBank b doors (followAlarm b (overBank b restoreLocker s))

/-! ## PURGE and rebuild (R49, R51) -/

/-- One locker at PURGE (R51). -/
def purgeLocker (s : State) (n : Nat) : State :=
  match s.lmu.find n with
  | none => s
  | some l =>
    match l.state with
    | .held => vacate n l s
    | .opening => vacate n l s
    | .opened => vacate n l s
    | .forced => putLocker n { l with holder := none, orphanCheck := true } s
    | .unreachable =>
      let kept := { l with holder := none, orphanCheck := true }
      if l.remembered = some .held || l.remembered = some .opening || l.remembered = some .opened then
        putLocker n
          { kept with
            remembered := some (if l.pendingOut then .outOfService else .vacant)
            pendingOut := false
            openedBy := none
            openingExpiry := none } s
      else putLocker n kept s
    | _ => s

/-- The lockers PURGE makes Vacant (R135, log entry 23). -/
def purgeVacates (l : Locker) : Bool := l.state = .held || l.state = .opening || l.state = .opened

/-- The lockers PURGE leaves Forced without a holder, those that had none before it among them (R48, R51, R135). -/
def purgeLeavesForced (l : Locker) : Bool := l.state = .forced

/-- The lockers of the map that satisfy a test. -/
def LockerMap.count (m : LockerMap) (p : Locker → Bool) : Nat := (m.banks.map (fun b => (b.lockers.filter p).length)).sum

/-- Lockers holding a band (R132). -/
def lockersHeld (s : State) : Nat := s.lmu.count (fun l => l.holder.isSome)

/-- A locker of a site rebuild (R49). -/
def freshLocker (k : BankSetting) : Locker :=
  { state := .vacant, holder := none, claimRetention := none, openedBy := none, openingExpiry := none, retention := k.retention,
    inService := true, staffOnly := false, pendingOut := false, remembered := none, doorOpen := false, boltLocked := false,
    useCount := 0, serviceNotified := false, orphanCheck := true }

/-- A bank of a site rebuild (R49). -/
def freshBank (k : BankSetting) : Bank :=
  { lockers := List.replicate k.doors (freshLocker k), freeCount := k.doors, awaitingFirst := true }

/-- The locker map of a site rebuild (R24, R49). -/
def freshLockers (t : SiteTable) : LockerMap := { banks := t.banks.map freshBank }

/-! ## The commands -/

/-- RELEASE LOCKER. -/
def execReleaseLocker (tag : Byte) (body : List Byte) (s : State) : Host.Outcome State Fault Refusal :=
  .next (runOrder .releaseLocker tag body (releaseLocker (u16At body 0)) s)

/-- CLEAR FORCED. -/
def execClearForced (tag : Byte) (body : List Byte) (s : State) : Host.Outcome State Fault Refusal :=
  .next (runOrder .clearForced tag body (clearForced (u16At body 0)) s)

/-- LOCKER SERVICE, of any direction but in; a body whose direction is in is the other row's (log entry 27). -/
def execLockerServiceOut (tag : Byte) (body : List Byte) (s : State) : Host.Outcome State Fault Refusal :=
  .next (if body.length = 3 && byteAt body 2 = 1 then s else runOrder .lockerService tag body (lockerService (u16At body 0) (byteAt body 2)) s)

/-- LOCKER SERVICE, of any direction but out; a body whose direction is out is the other row's (log entry 27). -/
def execLockerServiceIn (tag : Byte) (body : List Byte) (s : State) : Host.Outcome State Fault Refusal :=
  .next (if body.length = 3 && byteAt body 2 = 0 then s else runOrder .lockerService tag body (lockerService (u16At body 0) (byteAt body 2)) s)

/-- RESET USE COUNT. -/
def execResetUseCount (tag : Byte) (body : List Byte) (s : State) : Host.Outcome State Fault Refusal :=
  .next (runOrder .resetUseCount tag body (resetUseCount (u16At body 0)) s)

/-- LOCKER WINDOW LOAD. -/
def execLockerWindowLoad (tag : Byte) (body : List Byte) (s : State) : Host.Outcome State Fault Refusal :=
  .next (runOrder .lockerWindowLoad tag body (lockerWindowLoad (windowArgs body)) s)

/-- READ LOCKER. -/
def execReadLocker (tag : Byte) (body : List Byte) (s : State) : Host.Outcome State Fault Refusal :=
  .next (runOrder .readLocker tag body (readLocker (u16At body 0)) s)

/-- READ BANK. -/
def execReadBank (tag : Byte) (body : List Byte) (s : State) : Host.Outcome State Fault Refusal :=
  .next (runOrder .readBank tag body (readBank (byteAt body 0)) s)

/-- The second of a locker's opening expiry, where it stands (R34, R46). -/
def openingExpiryOf (n : Nat) (s : State) : Option Nat :=
  (s.lmu.find n).bind (fun l => if l.acting = .opening then l.openingExpiry else none)

end Sys2Proof.Machine
end

