-- ==== Sys2Proof/Machine/FieldLine.lean ====
section
/-!
DEFINITION. The field line master (spec 08): the station table of a rebuild (R136), polls and their entries (R137, R139,
R146), answers, events and missed answers (R141 to R145), timed entries (R139), READ STATION (R148), the field line at the
resets (R149, R150).
-/

namespace Sys2Proof.Machine

/-! ## The station table of a rebuild (R136, R150) -/

/-- An entry of a fresh image; the log names those its owner's rebuild has marked dirty (log entry 15). -/
def freshEntry (k : EntryKey) (v : EntryValue) (dirty : Bool) : Entry := { key := k, value := v, dirty := dirty, carried := false }

/-- A configured record at a rebuild (R136). -/
def freshStation (addr : Nat) (image : List Entry) : Station :=
  { addr := addr, health := .starting, missCount := 0, statusDue := some .clearing, lastBit := none, restartSeen := false,
    image := image, lastStatus := none, lastGood := none }

/-- The entries of one door of a lock bank whose locker stands Vacant, without dirty marks (R48). -/
def freshDoor (d : Nat) : List Entry :=
  [freshEntry (.bolt d) (.bolt .unlocked) false, freshEntry (.lamp d) (.lamp .steady) false,
    freshEntry (.flash d) (.flash none) false]

/-- The image of a lock bank at a rebuild, in the image order (R139). -/
def freshBankImage (doors : Nat) : List Entry :=
  freshEntry .sounder (.sounder false none) true :: (List.range doors).flatMap freshDoor

/-- The image of a cabin door unit whose cabin stands Free. -/
def freshCabinImage : List Entry :=
  [freshEntry .sounder (.sounder false none) false, freshEntry .standing (.standing .blank) true,
    freshEntry (.bolt 0) (.bolt .locked) true, freshEntry (.lamp 0) (.lamp .steady) true,
    freshEntry (.flash 0) (.flash none) false]

/-- The image of a call pad. -/
def freshPadImage : List Entry :=
  [freshEntry .sounder (.sounder false none) false, freshEntry .standing (.standing .blank) false,
    freshEntry (.flash 0) (.flash none) false]

/-- The image of a lane unit whose lane stands Idle. -/
def freshLaneImage : List Entry :=
  [freshEntry .sounder (.sounder false none) false, freshEntry .slotAction (.slotAction none) false,
    freshEntry .shutter (.shutter true) true, freshEntry .gate (.gate .shut) true,
    freshEntry .standing (.standing .blank) true]

/-- A group's call pad is configured (R136 (c)). -/
def padConfigured (t : SiteTable) (g : Nat) : Bool := ((t.groups[g]?).map (·.callPad)).getD false

/-- The station table built from a site table, in rising order of address (R136). -/
def freshStations (t : SiteTable) : List Station :=
  (List.range t.banks.length).map
      (fun b => freshStation (bankAddr b) (freshBankImage (((t.banks[b]?).map (·.doors)).getD 0)))
  ++ (List.range t.cabins.length).map (fun c => freshStation (cabinAddr c) freshCabinImage)
  ++ ((List.range 4).filter (padConfigured t)).map (fun g => freshStation (padAddr g) freshPadImage)
  ++ (List.range t.lanes.length).map (fun l => freshStation (laneAddr l) freshLaneImage)

/-- The field line after a rebuild: no poll in flight, the rotation at its start (R150, R170 (b)). -/
def freshLine (t : SiteTable) : FieldLine := { stations := freshStations t, visit := none, inFlight := none }

/-! ## Tones (R146) -/

/-- The station's tone in Hz by its pitch. -/
def tone (pitch : Nat) : Nat := match pitch with | 0 => 3906 | 1 => 1953 | 2 => 977 | _ => 488

/-- The refusal tone: the tone of the next pitch up the table. -/
def refusalTone (pitch : Nat) : Nat := tone (pitch + 1)

/-- The pitch of a station, from its record of the site table. -/
def stationPitch (t : SiteTable) (addr : Nat) : Nat :=
  match kindOf addr with
  | .lockBank => ((t.banks[addr - 1]?).map (·.pitch)).getD 0
  | .cabinUnit => ((t.cabins[addr - 33]?).map (·.pitch)).getD 0
  | .callPad => ((t.groups[addr - 81]?).map (·.pitch)).getD 0
  | .laneUnit => ((t.lanes[addr - 85]?).map (·.pitch)).getD 0

/-! ## Door mapping (R25) -/

/-- The door count of the bank at an address. -/
def bankDoors (t : SiteTable) (addr : Nat) : Nat := ((t.banks[addr - 1]?).map (·.doors)).getD 0

/-- The bank at an address is mirrored. -/
def bankMirrored (t : SiteTable) (addr : Nat) : Bool :=
  kindOf addr = .lockBank && ((t.banks[addr - 1]?).map (·.mirrored)).getD false

/-- Physical index to logical door, or logical door to physical index: one mapping (R25). -/
def mirrorDoor (mirrored : Bool) (doors d : Nat) : Nat := if mirrored then doors - 1 - d else d

/-- The entry's key under the station's own door index (R25, R138). -/
def EntryKey.physical (k : EntryKey) (mirrored : Bool) (doors : Nat) : EntryKey :=
  match k with
  | .bolt d => .bolt (mirrorDoor mirrored doors d)
  | .lamp d => .lamp (mirrorDoor mirrored doors d)
  | .flash d => .flash (mirrorDoor mirrored doors d)
  | other => other

/-- A lock bank's readings by logical door (R144 (a)). -/
def logicalDoors (mirrored : Bool) (doors : Nat) (readings : List DoorReading) : List DoorReading :=
  if mirrored then (readings.take doors).reverse else readings.take doors

/-! ## The poll (R137, R139) -/

/-- The value of an entry as it is sent at the present second (R139, R146). -/
def EntryValue.sent (v : EntryValue) (now pitch : Nat) : SentValue :=
  match v with
  | .sounder a o => .sounder a o (tone pitch) (refusalTone pitch)
  | .slotAction a => .slotAction a
  | .shutter o => .shutter o
  | .gate .shut => .gateShut
  | .gate (.openUntil x) => .gateOpenFor (secondsUntil now x)
  | .standing t => .standing t
  | .bolt .locked => .boltLocked
  | .bolt .unlocked => .boltUnlocked
  | .bolt (.unlockedUntil x) => .boltUnlockedFor (secondsUntil now x)
  | .lamp l => .lamp l
  | .flash c => .flash c

/-- The first `k` dirty entries marked as carried by the poll being sent (R139). -/
def markCarried : Nat → List Entry → List Entry
  | 0, l => l
  | _, [] => []
  | k + 1, e :: es => if e.dirty then { e with carried := true } :: markCarried k es else e :: markCarried (k + 1) es

/-- The entries an ordinary poll of a station carries (R139). -/
def Station.carries (st : Station) : List Entry := st.dirtyEntries.take Config.entriesPerPoll

/-- The status read a poll of the station is, if it is one (R137, R144). -/
def Station.readNow (st : Station) : Option ReadKind :=
  if st.health = .lost then some (st.statusDue.getD .clearing) else st.statusDue

/-- The poll sent to a station (R139, R140, R144). -/
def Station.poll (st : Station) (t : SiteTable) (now : Nat) : Poll :=
  { addr := st.addr
    read := st.readNow
    bit := st.lastBit
    sent :=
      if st.readNow.isSome then []
      else
        st.carries.map (fun e =>
          (e.key.physical (bankMirrored t st.addr) (bankDoors t st.addr), e.value.sent now (stationPitch t st.addr))) }

/-- The station with the entries of the poll marked as carried. -/
def Station.polled (st : Station) : Station :=
  if st.readNow.isSome then st else { st with image := markCarried Config.entriesPerPoll st.image }

/-- The lowest configured address from an address on. -/
def FieldLine.nextFrom (f : FieldLine) (addr : Nat) : Option Nat :=
  ((f.stations.map (·.addr)).filter (fun a => addr ≤ a)).min?

/-- The visit the next poll belongs to: the standing visit's next poll, or the next address of the rotation (R137). -/
def FieldLine.nextVisit (f : FieldLine) : Option Visit :=
  let fresh (a : Option Nat) : Option Visit := a.map (fun x => { addr := x, polls := 1, again := false })
  match f.visit with
  | none => fresh (f.nextFrom 0)
  | some v =>
    if v.again then some { v with polls := v.polls + 1, again := false }
    else
      match f.nextFrom (v.addr + 1) with
      | some a => fresh (some a)
      | none => fresh (f.nextFrom 0)

/-- The next poll is sent, where none is in flight (R137). -/
def sendPoll (s : State) : State :=
  match s.flm.inFlight, s.flm.nextVisit with
  | none, some v =>
    match s.flm.find v.addr with
    | none => s
    | some st =>
      { s with
        flm := { s.flm.update v.addr Station.polled with visit := some v, inFlight := some (st.poll s.table s.now) } }
  | _, _ => s

/-! ## Events (R141) -/

/-- A refusal of recognition at a reader that has a flash code (R6, R8). -/
def refuseRecognition (reader : Reader) (code : DisplayCode) (s : State) : State := refuseAt reader.station reader.door code s

/-- A presentation at a reader that is not a collector: recognition, then the owner of the reader (R4 to R9). -/
def presentAt (reader : Reader) (b : BandNo) (master : State → State) (band : BandRecord → State → State) (s : State) : State :=
  let seen := recognise reader b s
  match seen.2 with
  | .discarded => seen.1
  | .master => master seen.1
  | .unknown => refuseRecognition reader .unknown seen.1
  | .barred => refuseRecognition reader .br seen.1
  | .band r => band r seen.1

/-- A presentation at a collector: recognition, then the lane with its outcome (R6, R8, R9, R108). -/
def presentAtLane (l : Nat) (b : BandNo) (s : State) : State :=
  let seen := recognise { station := laneAddr l, door := 0 } b s
  match seen.2 with
  | .discarded => seen.1
  | outcome => insertBand l b outcome seen.1

/-- An event of a lock bank (R141): the physical index mapped, and discarded at or above the door count. -/
def bankEvent (addr : Nat) (ev : StationEvent) (s : State) : State :=
  let doors := bankDoors s.table addr
  let logical (p : Nat) : Nat := mirrorDoor (bankMirrored s.table addr) doors p
  match ev with
  | .bandPresented p b =>
    if p < doors then
      let n := lockerNumber (addr - 1) (logical p)
      presentAt { station := addr, door := logical p } b (masterAtLocker n) (presentAtLocker n) s
    else s
  | .doorChanged p isOpen => if p < doors then lockerDoorEvent (lockerNumber (addr - 1) (logical p)) isOpen s else s
  | .passSensed => s
  | .collectorFault => s

/-- An event of a cabin door unit (R141). -/
def cabinEvent (addr : Nat) (ev : StationEvent) (s : State) : State :=
  match ev with
  | .bandPresented _ b =>
    presentAt { station := addr, door := 0 } b (masterAtCabin (addr - 33)) (presentAtCabin (addr - 33)) s
  | .doorChanged _ isOpen => cabinDoorEvent (addr - 33) isOpen s
  | .passSensed => s
  | .collectorFault => s

/-- An event of a call pad (R141). -/
def padEvent (addr : Nat) (ev : StationEvent) (s : State) : State :=
  match ev with
  | .bandPresented _ b =>
    presentAt { station := addr, door := 0 } b (masterAtPad (addr - 81)) (presentAtPad (addr - 81)) s
  | .doorChanged _ _ => s
  | .passSensed => s
  | .collectorFault => s

/-- An event of an exit lane unit (R141). -/
def laneEvent (addr : Nat) (ev : StationEvent) (s : State) : State :=
  match ev with
  | .bandPresented _ b => presentAtLane (addr - 85) b s
  | .doorChanged _ _ => s
  | .passSensed => passSensed (addr - 85) s
  | .collectorFault => collectorFault (addr - 85) s

/-- An event routed to the owner of the station's entries (R141). -/
def routeEvent (addr : Nat) (ev : StationEvent) (s : State) : State :=
  match kindOf addr with
  | .lockBank => bankEvent addr ev s
  | .cabinUnit => cabinEvent addr ev s
  | .callPad => padEvent addr ev s
  | .laneUnit => laneEvent addr ev s

/-- Change a station's record. -/
def updateStation (addr : Nat) (f : Station → Station) (s : State) : State := { s with flm := s.flm.update addr f }

/-- The event of an answer: a repeat by its bit is discarded, else its bit is kept and it is routed (R141). -/
def takeEvent (addr : Nat) (event : Option (StationEvent × Bool)) (s : State) : State :=
  match event with
  | none => s
  | some (ev, bit) =>
    if (s.flm.find addr).bind (·.lastBit) = some bit then s
    else routeEvent addr ev (updateStation addr (fun st => { st with lastBit := some bit }) s)

/-! ## Answers (R139, R143 to R145) -/

/-- An acknowledged entry: its mark gone, its one-shot part or flash code become none (R139, R146, R147). -/
def Entry.acknowledged (e : Entry) : Entry :=
  { e with
    dirty := false
    carried := false
    value :=
      match e.value with
      | .sounder a _ => .sounder a none
      | .flash _ => .flash none
      | v => v }

/-- A good answer acknowledges the entries its poll carried, but for those written again since (R139). -/
def Station.acknowledge (st : Station) : Station :=
  { st with image := st.image.map (fun e => if e.carried then e.acknowledged else e) }

/-- Nothing of the poll is acknowledged: every entry keeps its mark (R139, R149). -/
def Station.dropCarried (st : Station) : Station := { st with image := st.image.map (fun e => { e with carried := false }) }

/-- A good answer: no misses, its second, the acknowledgement (R136, R139, R142). -/
def Station.answered (st : Station) (now : Nat) : Station := { st.acknowledge with missCount := 0, lastGood := some now }

/-- The restart flag on the station's record: bit none, a plain read due, the flag seen (R145, log entry 12). -/
def Station.restarted (st : Station) : Station := { st.markRead .plain with lastBit := none, restartSeen := true }

/-- The restart flag of an answer; Restarted is raised once until the status read (R145). -/
def takeRestart (addr : Nat) (flag : Bool) (s : State) : State :=
  if flag then
    let marked := updateStation addr Station.restarted s
    if ((s.flm.find addr).map (·.restartSeen)).getD false then marked
    else raiseNotice (.stationHealth addr (kindOf addr) .restarted s.now) marked
  else s

/-- The report of a status read by logical door (R144). -/
def logicalReport (r : StatusReport) (t : SiteTable) (addr : Nat) : StatusReport :=
  match r with
  | .lockBank doors => .lockBank (logicalDoors (bankMirrored t addr) (bankDoors t addr) doors)
  | other => other

/-- The report is one of the station's kind, with a reading for each of its doors (R144, log entry 13). -/
def reportFits (r : StatusReport) (t : SiteTable) (addr : Nat) : Bool :=
  match r, kindOf addr with
  | .lockBank doors, .lockBank => bankDoors t addr ≤ doors.length
  | .cabin _, .cabinUnit => true
  | .callPad, .callPad => true
  | .lane _ _ _, .laneUnit => true
  | _, _ => false

/-- The owner reconciles its entries with a status (R47, R76, R120, R144). -/
def reconcileOwner (addr : Nat) (r : StatusReport) (s : State) : State :=
  match r with
  | .lockBank doors => reconcileBank (addr - 1) doors s
  | .cabin door => reconcileCabin (addr - 33) door s
  | .callPad => s
  | .lane slot _ _ => reconcileLane (addr - 85) slot s

/-- The owner restores its entries and reconciles them (R46, R76, R119, R143 (d)). -/
def regainOwner (addr : Nat) (r : StatusReport) (s : State) : State :=
  match r with
  | .lockBank doors => regainBank (addr - 1) doors s
  | .cabin door => regainCabin (addr - 33) door s
  | .callPad => s
  | .lane slot _ _ => regainLane (addr - 85) slot s

/-- The status held as the last status read, the mark cleared (R143 (c), R144). -/
def Station.heldStatus (st : Station) (r : StatusReport) (now : Nat) : Station :=
  { st with lastStatus := some (r, now), statusDue := none, restartSeen := false }

/-- A station in Starting becomes Answering (R144). -/
def endStarting (addr : Nat) (s : State) : State :=
  if s.flm.health addr = some .starting then setHealth addr .answering s else s

/-- The status of a good answer to a status read (R144). -/
def takeStatus (addr : Nat) (r : StatusReport) (s : State) : State :=
  updateStation addr Station.markAll
    (reconcileOwner addr r (endStarting addr (updateStation addr (fun st => st.heldStatus r s.now) s)))

/-- The regain of a Lost station (R143). -/
def regainStation (addr : Nat) (r : StatusReport) (s : State) : State :=
  raiseNotice (.stationHealth addr (kindOf addr) .regained s.now)
    (updateStation addr Station.markAll
      (regainOwner addr r
        (setHealth addr .answering
          (updateStation addr (fun st => { st.heldStatus r s.now with missCount := 0, lastBit := none, lastGood := some s.now })
            s))))

/-- The overrun flag of an answer: a plain status read due, unless the answer is a status read's own (R144). -/
def takeOverrun (addr : Nat) (flag : Bool) (read : Option ReadKind) (s : State) : State :=
  if flag && read.isNone then updateStation addr (fun st => st.markRead .plain) s else s

/-- The status of the answer, where the poll was a status read. -/
def takeStatusOf (addr : Nat) (r : Option StatusReport) (s : State) : State :=
  match r with
  | none => s
  | some x => takeStatus addr x s

/-- A good answer of a station in Starting or Answering: acknowledgement, restart flag, event, overrun flag, status, in
this order (R139, R141, R144, R145). -/
def takeAnswer (p : Poll) (reply : PollReply) (status : Option StatusReport) (s : State) : State :=
  takeStatusOf p.addr status
    (takeOverrun p.addr reply.overrun p.read
      (takeEvent p.addr reply.event
        (takeRestart p.addr reply.restart (updateStation p.addr (fun st => st.answered s.now) s))))

/-- The poll in flight is over. -/
def endPoll (s : State) : State := { s with flm := { s.flm with inFlight := none } }

/-- A further poll follows at the visit (R137): fewer than four, and the answer carried an event or left dirty entries. -/
def FieldLine.goesOn (f : FieldLine) (v : Visit) (event : Bool) : Bool :=
  v.polls < Config.pollsPerVisit && (event || ((f.find v.addr).map (fun st => st.image.any (·.dirty))).getD false)

/-- The visit after a good answer. -/
def continueVisit (event : Bool) (s : State) : State :=
  { s with flm := { s.flm with visit := s.flm.visit.map (fun v => { v with again := s.flm.goesOn v event }) } }

/-- The visit ends (R137). -/
def endVisit (s : State) : State := { s with flm := { s.flm with visit := s.flm.visit.map (fun v => { v with again := false }) } }

/-! ## Missed answers (R142) -/

/-- The owner of a Lost station's entries is told (R142 (c)). -/
def loseOwner (addr : Nat) (s : State) : State :=
  match kindOf addr with
  | .lockBank => overBank (addr - 1) loseLocker s
  | .cabinUnit => loseCabin (addr - 33) s
  | .callPad => s
  | .laneUnit => loseLane (addr - 85) s

/-- A station goes Lost (R142). -/
def loseStation (addr : Nat) (s : State) : State :=
  raiseNotice (.stationHealth addr (kindOf addr) .lost s.now)
    (loseOwner addr (updateStation addr (fun st => st.markRead .clearing) (setHealth addr .lost s)))

/-- A miss on the station's record: nothing acknowledged, the count raised, stopping at 3 (R142). -/
def Station.missed (st : Station) : Station := { st.dropCarried with missCount := min (st.missCount + 1) 3 }

/-- A missed answer of a station (R142). -/
def missAnswer (addr : Nat) (s : State) : State :=
  match s.flm.find addr with
  | none => s
  | some st =>
    let counted := updateStation addr Station.missed s
    if st.health ≠ .lost && st.missed.missCount = 3 then loseStation addr counted else counted

/-- A poll's answer missed: it ends the visit (R137, R142). -/
def missedPoll (p : Poll) (s : State) : State := endVisit (missAnswer p.addr (endPoll s))

/-- The status an answer gives to its poll: none for an ordinary poll, the report by logical door for a status read,
and nothing at all where a status read's answer lacks its report (log entry 13). -/
def statusFor (p : Poll) (reply : PollReply) (t : SiteTable) : Option (Option StatusReport) :=
  match p.read, reply.status with
  | none, _ => some none
  | some _, some r => if reportFits r t p.addr then some (some (logicalReport r t p.addr)) else none
  | some _, none => none

/-- A good answer of a station, by its health (R143, R144). -/
def goodAnswer (p : Poll) (reply : PollReply) (status : Option StatusReport) (s : State) : State :=
  if s.flm.health p.addr = some .lost then
    match status with
    | some r => endVisit (regainStation p.addr r (endPoll s))
    | none => endVisit (endPoll s)
  else continueVisit reply.event.isSome (takeAnswer p reply status (endPoll s))

/-! ## Timed entries (R139) -/

/-- The timer of an entry, where the entry holds an expiry second. -/
def EntryValue.expiry (v : EntryValue) : Option Nat :=
  match v with
  | .bolt (.unlockedUntil x) => some x
  | .gate (.openUntil x) => some x
  | _ => none

/-- The value an entry is rewritten to when its timer is reached: a bolt locked, a gate shut (R139). -/
def EntryValue.expired (v : EntryValue) : EntryValue :=
  match v with
  | .bolt _ => .bolt .locked
  | .gate _ => .gate .shut
  | other => other

/-- The key of a timed entry. -/
def timedKey : TimedEntry → EntryKey
  | .bolt d => .bolt d
  | .gate => .gate

/-- A write at an address sets dirty marks, but for the lockers of a bank awaiting its first reconcile (R48, R138). -/
def marksWrites (addr : Nat) (s : State) : Bool := !(decide (kindOf addr = .lockBank) && s.lmu.awaiting (addr - 1))

/-- The timer of one entry, where it is reached at the present second (R139). -/
def takeTimedEntry (addr : Nat) (k : EntryKey) (s : State) : State :=
  match (s.flm.find addr).bind (fun st => st.value k) with
  | none => s
  | some v =>
    if v.expiry = some s.now then updateStation addr (fun st => st.writeMarked (marksWrites addr s) k v.expired) s else s

/-- Every timed entry reached at the present second, station by station in the image order. -/
def takeEntryTimers (s : State) : State :=
  s.flm.stations.foldl
    (fun t st => st.image.foldl (fun u e => if e.value.expiry.isSome then takeTimedEntry st.addr e.key u else u) t) s

/-! ## READ STATION, and the field line at the resets -/

/-- What READ STATION reports of a configured station (R148). -/
def Station.readout (st : Station) : StationReadout :=
  { health := st.health, missCount := st.missCount, statusDue := st.statusDue, dirtyEntries := st.dirtyEntries.length,
    lastGood := st.lastGood, lastStatus := st.lastStatus }

/-- READ STATION (R148). -/
def readStation (addr : Nat) (s : State) : Owned :=
  if addr = 0 || 88 < addr then refused .range s
  else done (.station (kindOf addr) ((s.flm.find addr).map Station.readout)) s

/-- A station at a warm reset (R149). -/
def Station.warm (st : Station) : Station :=
  if st.health = .lost then st.dropCarried else { st.dropCarried.markRead .plain with missCount := 0 }

/-- The field line at a warm reset (R149). -/
def warmLine (s : State) : State :=
  { s with flm := { stations := s.flm.stations.map Station.warm, visit := none, inFlight := none } }

/-- A lock bank's record at PURGE: a plain status read due unless Lost (R51, R149). -/
def Station.purgeRead (st : Station) : Station :=
  if kindOf st.addr = .lockBank && st.health ≠ .lost then st.markRead .plain else st

/-- The status reads PURGE asks for (R51, R135 (c)). -/
def purgeReads (s : State) : State := { s with flm := { s.flm with stations := s.flm.stations.map Station.purgeRead } }

/-! ## The commands -/

/-- POLL. -/
def execPoll (s : State) : Host.Outcome State Fault Refusal := .next (sendPoll s)

/-- POLL_ANSWER: an answer with no poll in flight is not taken (log entry 6). -/
def execPollAnswer (reply : PollReply) (s : State) : Host.Outcome State Fault Refusal :=
  .next
    (match s.flm.inFlight with
    | none => s
    | some p =>
      match statusFor p reply s.table with
      | none => missedPoll p s
      | some status => goodAnswer p reply status s)

/-- MISSED_ANSWER, of whichever cause: a miss is a miss (R142). -/
def execMissedAnswer (_cause : MissCause) (s : State) : Host.Outcome State Fault Refusal :=
  .next (match s.flm.inFlight with | none => s | some p => missedPoll p s)

/-- READ STATION. -/
def execReadStation (tag : Byte) (body : List Byte) (s : State) : Host.Outcome State Fault Refusal :=
  .next (runOrder .readStation tag body (readStation (byteAt body 0)) s)

end Sys2Proof.Machine
end

