-- ==== Sys2Proof/Machine/Watches.lean ====
section
/-!
DEFINITION. Watches (spec 09 section 5): WATCH (R160), CANCEL WATCH and the expiry of a watch (R162), and the watches
answered Cancelled at a SITE COMMIT (R163).
-/

namespace Sys2Proof.Machine

/-- The state code of a watch's target as it stands (R160, R175). -/
def targetCode (t : Target) (s : State) : Nat :=
  match t with
  | .locker n => ((s.lmu.find n).map (·.state.code)).getD 0
  | .cabin n => ((s.cbu.find n).map (·.state.code)).getD 0
  | .lane n => ((s.xlu.find n).map (·.state.code)).getD 0
  | .station n => healthCode (s.flm.health n)

/-- The target a kind and a number name, where it exists (R160). -/
def targetOf (kind number : Nat) (s : State) : Option Target :=
  match kind with
  | 0 => if (s.lmu.find number).isSome then some (.locker number) else none
  | 1 => if (s.cbu.find number).isSome then some (.cabin number) else none
  | 2 => if (s.xlu.find number).isSome then some (.lane number) else none
  | 3 => if 1 ≤ number && number ≤ 88 then some (.station number) else none
  | _ => none

/-- The number of states of a target's kind (R160). -/
def Target.stateCount : Target → Nat
  | .locker _ => 8
  | .cabin _ => 6
  | .lane _ => 4
  | .station _ => 4

/-- The watch an order that names an existing target asks for. -/
def WatchArgs.watch (a : WatchArgs) (tag : Byte) (t : Target) (now : Nat) : Watch :=
  { tag := tag, target := t, states := a.states, untilIn := a.polarity = 0, expiry := addSeconds now a.limit }

/-- The rest of R160 (a): states, polarity and time limit. -/
def WatchArgs.outOfRange (a : WatchArgs) (t : Target) : Bool :=
  a.states = [] || a.states.any (fun c => t.stateCount ≤ c) || 1 < a.polarity || a.limit < 1 || 3600 < a.limit

/-- An open watch has a tag. -/
def LinkController.watching (l : LinkController) (tag : Byte) : Bool := l.watches.any (fun w => w.tag = tag)

/-- WATCH (R160): answered Done where it is met at once (log entry 24), else opened, its answer deferred. -/
def watch (tag : Byte) (a : WatchArgs) (s : State) : Owned :=
  match targetOf a.kind a.number s with
  | none => refused .range s
  | some t =>
    if a.outOfRange t then refused .range s
    else if s.lkc.watching tag then refused .inUse s
    else if (a.watch tag t s.now).meets (targetCode t s) then done .none s
    else if Config.maxWatches ≤ s.lkc.watches.length then refused .busy s
    else ({ s with lkc := { s.lkc with watches := s.lkc.watches ++ [a.watch tag t s.now] } }, none)

/-- A watch is closed, and answered in its own place (R161, R162). -/
def LinkController.close (l : LinkController) (w : Watch) (a : Answer) : LinkController :=
  { l with watches := l.watches.filter (fun x => x.tag ≠ w.tag) }.place a

/-- The Cancelled answer of a watch (R162, R163; log entry 24). -/
def Watch.cancelled (w : Watch) : Answer := { tag := w.tag, code := .cancelled, clamped := false, body := .none }

/-- The Expired answer of a watch (R162). -/
def Watch.expired (w : Watch) (code : Nat) : Answer :=
  { tag := w.tag, code := .expired, clamped := false, body := .watchExpired code }

/-- CANCEL WATCH (R162). -/
def cancelWatch (tag : Byte) (s : State) : Owned :=
  match s.lkc.watches.find? (fun w => w.tag = tag) with
  | none => refused .noSuch s
  | some w => done .none { s with lkc := s.lkc.close w w.cancelled }

/-- Every open watch answered Cancelled, in the order of opening (R163). -/
def LinkController.cancelAll (l : LinkController) : LinkController :=
  l.watches.foldl (fun k w => k.place w.cancelled) { l with watches := [] }

/-- A watch whose expiry is the present second, answered Expired (R162). -/
def takeWatchExpiry (tag : Byte) (s : State) : State :=
  match s.lkc.watches.find? (fun w => w.tag = tag) with
  | none => s
  | some w =>
    if w.expiry = s.now then { s with lkc := s.lkc.close w (w.expired (targetCode w.target s)) } else s

/-- WATCH. -/
def execWatch (tag : Byte) (body : List Byte) (s : State) : Host.Outcome State Fault Refusal :=
  .next (runOrder .watch tag body (watch tag (watchArgs body)) s)

/-- CANCEL WATCH. -/
def execCancelWatch (tag : Byte) (body : List Byte) (s : State) : Host.Outcome State Fault Refusal :=
  .next (runOrder .cancelWatch tag body (cancelWatch (body.getD 0 0)) s)

end Sys2Proof.Machine
end

