-- ==== Sys2Proof/Machine/Clock.lean ====
section
/-!
DEFINITION. The site clock and the operating day (spec 07): the passing of a second (R124 to R126, R133), the time-driven
commands, the clock orders (R127 to R129) and the orders of the day (R131, R132, R135).
-/

namespace Sys2Proof.Machine

/-! ## Timers reached at the present second (R125, log entry 7) -/

/-- Every timer of the part that is reached at the present second: lockers, cabins, lanes, timed entries, watches. -/
def takeDue (s : State) : State :=
  let lockers := s.lmu.numbers.foldl (fun t n => takeOpeningExpiry n t) s
  let cabins :=
    overCabins takeAbandonment (overCabins takeCleaningExpiry (overCabins takeEntryExpiry (overCabins takeOfferExpiry lockers)))
  let lanes := overLanes takePassExpiry (overLanes takeQuoteExpiry cabins)
  let entries := takeEntryTimers lanes
  entries.lkc.watches.foldl (fun t w => takeWatchExpiry w.tag t) entries

/-! ## Boundaries and midnight (R126, R133) -/

/-- The counter set (R124). -/
def setCounter (n : Nat) (s : State) : State := { s with sck := { s.sck with counter := n } }

/-- A minute boundary handed to its receivers (R126). -/
def raiseBoundary (minute : Nat) (s : State) : State := swapTariff minute (countOccupancy s)

/-- The cabins in Occupied (R132). -/
def cabinsOccupied (s : State) : Nat := (s.cbu.cabins.filter (fun c => c.state = .occupied)).length

/-- The day closed: the day state, the cabin unit's part, and DayEvent (R132, R133). -/
def closeDayWith (reason : Nat → Nat → Nat → DayReason) (s : State) : State :=
  raiseNotice (.dayEvent (reason s.bdr.bands.length (lockersHeld s) (cabinsOccupied s)))
    (closeCabins { s with sck := { s.sck with day := .closed } })

/-- The wrapped flag at the rollover (R133). -/
def wrapDay (s : State) : State :=
  if s.bdr.bands = [] || s.sck.wrapped then s
  else raiseNotice (.dayEvent (.wrapped s.bdr.bands.length)) { s with sck := { s.sck with wrapped := true } }

/-- The day logic of the rollover (R133). -/
def dayLogic (s : State) : State := wrapDay (if s.sck.day = .opened then closeDayWith .closedAtMidnight s else s)

/-- The counter moves on by one second; at a new minute its boundary is raised, and at 86,399 the rollover comes with
the boundary of minute 0 (R124, R126 (a), R133). -/
def advanceSecond (s : State) : State :=
  if Config.daySeconds ≤ s.now + 1 then raiseBoundary 0 (dayLogic (setCounter 0 s))
  else if (s.now + 1) % 60 = 0 then raiseBoundary (minuteOf (s.now + 1)) (setCounter (s.now + 1) s)
  else setCounter (s.now + 1) s

/-- One second passes: what is reached at the present second is taken, and the counter moves on (log entry 1). -/
def secondPasses (s : State) : State := advanceSecond (takeDue s)

/-- `n` seconds pass. -/
def runClock : Nat → State → State
  | 0, s => s
  | n + 1, s => runClock n (secondPasses s)

/-- A timer's command: the clock runs to the timer's second, and the act is taken there; with no such timer standing
nothing changes (log entry 2). -/
def runToTimer (timer : Option Nat) (act : State → State) (s : State) : State :=
  match timer with
  | none => s
  | some x => act (runClock (secondsUntil s.now x) s)

/-! ## The time-driven commands -/

/-- MINUTE_BOUNDARY: the clock runs to the next change of the minute (R126 (a)). -/
def execMinuteBoundary (s : State) : Host.Outcome State Fault Refusal := .next (runClock (60 - s.now % 60) s)

/-- MIDNIGHT_ROLLOVER: the clock runs to the next rollover (R133). -/
def execMidnightRollover (s : State) : Host.Outcome State Fault Refusal := .next (runClock (Config.daySeconds - s.now) s)

/-- OPENING_EXPIRY (R34). -/
def execOpeningExpiry (n : Nat) (s : State) : Host.Outcome State Fault Refusal :=
  .next (runToTimer (openingExpiryOf n s) (takeOpeningExpiry n) s)

/-- The timer of a cabin in an acting state. -/
def cabinTimer (n : Nat) (st : CabinState) (f : Cabin → Option Nat) (s : State) : Option Nat :=
  (s.cbu.find n).bind (fun c => if c.acting = st then f c else none)

/-- OFFER_EXPIRY (R65). -/
def execOfferExpiry (n : Nat) (s : State) : Host.Outcome State Fault Refusal :=
  .next (runToTimer (cabinTimer n .offered (·.offerExpiry) s) (takeOfferExpiry n) s)

/-- ENTRY_EXPIRY (R67). -/
def execEntryExpiry (n : Nat) (s : State) : Host.Outcome State Fault Refusal :=
  .next (runToTimer (cabinTimer n .occupied (·.entryExpiry) s) (takeEntryExpiry n) s)

/-- CLEANING_EXPIRY (R70). -/
def execCleaningExpiry (n : Nat) (s : State) : Host.Outcome State Fault Refusal :=
  .next (runToTimer (cabinTimer n .cleaning (·.cleaningExpiry) s) (takeCleaningExpiry n) s)

/-- The second at which a cabin is abandoned; none while Unreachable (R69). -/
def abandonTimer (n : Nat) (s : State) : Option Nat :=
  (s.cbu.find n).bind (fun c => if c.state = .occupied then abandonSecond s c else none)

/-- ABANDONMENT (R69). -/
def execAbandonment (n : Nat) (s : State) : Host.Outcome State Fault Refusal :=
  .next (runToTimer (abandonTimer n s) (takeAbandonment n) s)

/-- The timer of a lane in an acting state. -/
def laneTimer (l : Nat) (st : LaneState) (f : Lane → Option Nat) (s : State) : Option Nat :=
  (s.xlu.find l).bind (fun e => if e.acting = st then f e else none)

/-- QUOTE_EXPIRY (R114). -/
def execQuoteExpiry (l : Nat) (s : State) : Host.Outcome State Fault Refusal :=
  .next (runToTimer (laneTimer l .holding (·.quoteExpiry) s) (takeQuoteExpiry l) s)

/-- PASS_EXPIRY (R116). -/
def execPassExpiry (l : Nat) (s : State) : Host.Outcome State Fault Refusal :=
  .next (runToTimer (laneTimer l .passing (·.passExpiry) s) (takePassExpiry l) s)

/-- WATCH_EXPIRY (R162). -/
def execWatchExpiry (tag : Byte) (s : State) : Host.Outcome State Fault Refusal :=
  .next (runToTimer ((s.lkc.watches.find? (fun w => w.tag = tag)).map (·.expiry)) (takeWatchExpiry tag) s)

/-- The timer of a desired entry (R139). -/
def entryTimer (addr : Nat) (k : EntryKey) (s : State) : Option Nat :=
  ((s.flm.find addr).bind (fun st => st.value k)).bind EntryValue.expiry

/-- DESIRED_ENTRY_EXPIRY (R139). -/
def execDesiredEntryExpiry (addr : Nat) (entry : TimedEntry) (s : State) : Host.Outcome State Fault Refusal :=
  .next (runToTimer (entryTimer addr (timedKey entry) s) (takeTimedEntry addr (timedKey entry)) s)

/-! ## SET CLOCK (R127) -/

/-- An expiry second carried over: the time remaining to it is unchanged (R127). -/
def carryTimer (former set x : Nat) : Nat := addSeconds set (secondsUntil former x)

/-- The timer of an entry carried over. -/
def EntryValue.carry (v : EntryValue) (f : Nat → Nat) : EntryValue :=
  match v with
  | .bolt (.unlockedUntil x) => .bolt (.unlockedUntil (f x))
  | .gate (.openUntil x) => .gate (.openUntil (f x))
  | other => other

/-- A band record's quote carried over. -/
def BandRecord.carry (r : BandRecord) (f : Nat → Nat) : BandRecord :=
  { r with quote := r.quote.map (fun q => { q with expiry := f q.expiry }) }

/-- A bank's timers carried over. -/
def Bank.carry (b : Bank) (f : Nat → Nat) : Bank :=
  { b with lockers := b.lockers.map (fun l => { l with openingExpiry := l.openingExpiry.map f }) }

/-- A cabin's timers carried over; door-open since, from which the abandon time runs, among them (log entry 20). -/
def Cabin.carry (c : Cabin) (f : Nat → Nat) : Cabin :=
  { c with
    offerExpiry := c.offerExpiry.map f
    entryExpiry := c.entryExpiry.map f
    cleaningExpiry := c.cleaningExpiry.map f
    doorOpenSince := c.doorOpenSince.map f }

/-- A lane's timers carried over. -/
def Lane.carry (e : Lane) (f : Nat → Nat) : Lane :=
  { e with quoteExpiry := e.quoteExpiry.map f, passExpiry := e.passExpiry.map f }

/-- A station's timed entries carried over, their marks as they stand. -/
def Station.carry (st : Station) (f : Nat → Nat) : Station :=
  { st with image := st.image.map (fun e => { e with value := e.value.carry f }) }

/-- Every standing timer carried over (R127). -/
def carryTimers (f : Nat → Nat) (s : State) : State :=
  { s with
    bdr := { s.bdr with bands := s.bdr.bands.map (fun r => r.carry f) }
    lmu := { s.lmu with banks := s.lmu.banks.map (fun b => b.carry f) }
    cbu := { s.cbu with cabins := s.cbu.cabins.map (fun c => c.carry f) }
    xlu := { s.xlu with lanes := s.xlu.lanes.map (fun e => e.carry f) }
    flm := { s.flm with stations := s.flm.stations.map (fun st => st.carry f) }
    lkc := { s.lkc with watches := s.lkc.watches.map (fun w => { w with expiry := f w.expiry }) } }

/-- The clock set, its timers carried over and its boundary raised (R126 (c), R127). -/
def clockSetTo (second : Nat) (s : State) : State :=
  let t := carryTimers (carryTimer s.now second) s
  let u := { t with sck := { t.sck with counter := second, clockValid := true } }
  if minuteOf second ≠ minuteOf s.now then raiseBoundary (minuteOf second) u else u

/-- The day is Open, or band records exist: the terms of NotClosed (R127, R167 (a)). -/
def tenanted (s : State) : Bool := s.configured && (s.sck.day = .opened || s.bdr.bands ≠ [])

/-- SET CLOCK (R127). -/
def setClock (second : Nat) (s : State) : Owned :=
  if 86399 < second then refused .range s
  else if tenanted s then refused .notClosed s
  else done (.clockSet second s.now) (clockSetTo second s)

/-! ## ADJUST CLOCK (R128) -/

/-- A forward change: each second in turn, with its boundary and the timers reached at it (R125, R126 (b), R128). -/
def adjustForward : Nat → State → State
  | 0, s => s
  | n + 1, s => adjustForward n (takeDue (advanceSecond s))

/-- A backward change: the boundaries of the minutes a−1 down to b, each at the first second of its minute, and no timer
(R126 (b), R128; log entry 25). -/
def adjustBack (second : Nat) (s : State) : State :=
  let a := minuteOf s.now
  let minutes := (List.range (a - minuteOf second)).map (fun i => a - 1 - i)
  setCounter second (minutes.foldl (fun t m => raiseBoundary m (setCounter (m * 60) t)) s)

/-- The clock adjusted (R128); on a forward change what is reached at the present second is taken first (log entry 34). -/
def adjustTo (second : Nat) (s : State) : State :=
  if s.now < second then adjustForward (second - s.now) (takeDue s)
  else if second < s.now then adjustBack second s
  else s

/-- ADJUST CLOCK (R128). -/
def adjustClock (k : Int) (s : State) : Owned :=
  let target : Int := s.now + k
  if k < -300 || 300 < k || target < 0 || 86399 < target then refused .range s
  else if !s.sck.clockValid then refused .invalid s
  else done (.clockAdjusted target.toNat) (adjustTo target.toNat s)

/-- READ CLOCK (R129). -/
def readClock (s : State) : Owned :=
  done (.clock s.now (minuteOf s.now) s.sck.clockValid s.sck.day s.sck.openMinute s.sck.wrapped s.bdr.bands.length) s

/-! ## The day (R131, R132, R135) -/

/-- The day opened (R131). -/
def openedDay (live : List Byte) (s : State) : State :=
  raiseNotice (.dayEvent (.opened (minuteOf s.now) (tariffGeneration live)))
    { s with
      sck := { s.sck with day := .opened, openMinute := some (minuteOf s.now), wrapped := false }
      cbu := { s.cbu with groups := s.cbu.groups.map (fun g => { g with nextTicket := 1 }) } }

/-- OPEN DAY (R131). -/
def openDay (s : State) : Owned :=
  if s.sck.day = .opened then refused .notClosed s
  else if !s.sck.clockValid then (s, some { code := .notReady, clamped := false, body := .notReady .clock })
  else
    match s.tfs.live with
    | none => (s, some { code := .notReady, clamped := false, body := .notReady .tariff })
    | some live =>
      if s.bdr.bands ≠ [] then (s, some { code := .bandsRemain, clamped := false, body := .bandsRemain s.bdr.bands.length })
      else done (.dayOpened (minuteOf s.now)) (openedDay live s)

/-- CLOSE DAY (R132). -/
def closeDay (s : State) : Owned :=
  if s.sck.day = .closed then refused .notOpen s
  else
    done (.dayClosed s.bdr.bands.length (lockersHeld s) (cabinsOccupied s)) (closeDayWith .closedByOrder s)

/-- The five numbers PURGE answers with (R135): all 0 where no band record exists (log entry 23). -/
structure PurgeCounts where
  bands : Nat
  quotes : Nat
  vacated : Nat
  forced : Nat
  cabins : Nat
  deriving DecidableEq, Repr

/-- The numbers of PURGE, counted as it begins (R135). -/
def purgeCounts (s : State) : PurgeCounts :=
  if s.bdr.bands = [] then { bands := 0, quotes := 0, vacated := 0, forced := 0, cabins := 0 }
  else
    { bands := s.bdr.bands.length
      quotes := quotesStanding s
      vacated := s.lmu.count purgeVacates
      forced := s.lmu.count purgeLeavesForced
      cabins := (s.cbu.cabins.filter Cabin.purgeFrees).length }

/-- Every record freed and every party removed (R23, R135 (b)). -/
def emptyBands (s : State) : State := { s with bdr := { s.bdr with bands := [], parties := [] } }

/-- The locker map's part of PURGE (R51, R135 (c)). DESIGN CHOICE (log entry 41): the lockers of its one act are taken in
rising logical number, an order the spec does not give. -/
def purgeLockers (s : State) : State := purgeReads (s.lmu.numbers.foldl purgeLocker s)

/-- The acts (a) to (e) of PURGE in order (R135). -/
def purgeActs (s : State) : State :=
  let t := overCabins purgeCabin (purgeLockers (emptyBands (purgeLanes s)))
  { t with sck := { t.sck with wrapped := false } }

/-- PURGE (R135). -/
def purge (s : State) : Owned :=
  if s.sck.day = .opened then refused .notClosed s
  else
    let k := purgeCounts s
    done (.purged k.bands k.quotes k.vacated k.forced k.cabins)
      (raiseNotice (.dayEvent (.purged k.bands k.quotes k.vacated k.forced k.cabins)) (purgeActs s))

/-! ## The order commands -/

/-- SET CLOCK. -/
def execSetClock (tag : Byte) (body : List Byte) (s : State) : Host.Outcome State Fault Refusal :=
  .next (runOrder .setClock tag body (setClock (u32At body 0)) s)

/-- ADJUST CLOCK. -/
def execAdjustClock (tag : Byte) (body : List Byte) (s : State) : Host.Outcome State Fault Refusal :=
  .next (runOrder .adjustClock tag body (adjustClock (s16At body 0)) s)

/-- READ CLOCK. -/
def execReadClock (tag : Byte) (body : List Byte) (s : State) : Host.Outcome State Fault Refusal :=
  .next (runOrder .readClock tag body readClock s)

/-- OPEN DAY. -/
def execOpenDay (tag : Byte) (body : List Byte) (s : State) : Host.Outcome State Fault Refusal :=
  .next (runOrder .openDay tag body openDay s)

/-- CLOSE DAY. -/
def execCloseDay (tag : Byte) (body : List Byte) (s : State) : Host.Outcome State Fault Refusal :=
  .next (runOrder .closeDay tag body closeDay s)

/-- PURGE. -/
def execPurge (tag : Byte) (body : List Byte) (s : State) : Host.Outcome State Fault Refusal :=
  .next (runOrder .purge tag body purge s)

end Sys2Proof.Machine
end

