-- ==== Sys2Proof/Machine/Link.lean ====
section
/-!
DEFINITION. The link controller and the condition and notice unit (spec 09): the receive framer (R151), the link reset and
the warm reset (R152, R172), arrival (R153), the transmitter (R155), READ CONDITIONS, SET NOTICE MASK, IDENTIFY and RESET.
-/

namespace Sys2Proof.Machine

/-- Write the framer. -/
def setFramer (f : Framer) (s : State) : State := { s with lkc := { s.lkc with framer := f } }

/-! ## Arrival (R151, R153) -/

/-- A well-framed frame handed to the order buffer: appended, answered Overrun, or discarded for want of a place (R153). -/
def arrive (o : OrderFrame) (s : State) : State :=
  if s.lkc.orders.length < Config.maxOrders then appendOrder o s
  else if s.lkc.placesUsed < Config.answerPlaces then placeAnswer ((Reply.refuse .overrun).answer o.tag) s
  else reportDiscard .noPlace s

/-- A complete frame, checked (R151). -/
def takeFrame (bytes : List Byte) (s : State) : State :=
  if frameCheckMatches bytes then arrive (frameOrder bytes) (setFramer .hunting s)
  else reportDiscard .check (setFramer .hunting s)

/-- A frame ended before it is complete: only a framer that is In frame has one (R151). -/
def endFrame (cause : DiscardCause) (s : State) : State :=
  if s.lkc.framer = .inFrame then reportDiscard cause (setFramer .hunting s) else s

/-- FRAME_RECEIVED: the bytes of a complete frame, while the framer does not wait for mark (log entry 5). -/
def execFrameReceived (bytes : List Byte) (s : State) : Host.Outcome State Fault Refusal :=
  .next (if s.lkc.framer = .awaitingMark || !isFrame bytes then s else takeFrame bytes s)

/-- FRAME_LENGTH_OUT_OF_RANGE: a length of 3 to 250 is no such event. -/
def execFrameLengthOutOfRange (length : Byte) (s : State) : Host.Outcome State Fault Refusal :=
  .next (if 3 ≤ length.toNat && length.toNat ≤ 250 then s else endFrame .length s)

/-- BYTE_WITHOUT_STOP_BIT. -/
def execByteWithoutStopBit (s : State) : Host.Outcome State Fault Refusal := .next (endFrame .check s)

/-- INTER_BYTE_GAP. -/
def execInterByteGap (s : State) : Host.Outcome State Fault Refusal := .next (endFrame .gap s)

/-- START_BYTE_RECEIVED (R151). -/
def execStartByteReceived (s : State) : Host.Outcome State Fault Refusal :=
  .next (if s.lkc.framer = .hunting then setFramer .inFrame s else s)

/-! ## Link reset and warm reset (R152) -/

/-- The link controller emptied by the acts (b) to (d): an answer being sent is cut off, and the transmitter, Idle,
chooses anew (R152, R155). -/
def LinkController.cutOff (l : LinkController) : LinkController :=
  { l with orders := [], answers := [], watches := [], tx := if l.tx = Transmitter.answer then .idle else l.tx }.start

/-- The link reset, acts (b) to (f) (R152). -/
def linkReset (s : State) : State := raiseNotice (.dayEvent .linkReset) { s with lkc := s.lkc.cutOff }

/-- The owners' part of a warm reset, which finds nothing to do in the Unconfigured part state (R172). -/
def warmOwners (s : State) : State := if s.configured then warmLine (warmLanes (warmCabins s)) else s

/-- The warm reset (R152, R172). -/
def warmReset (s : State) : State :=
  let t := warmOwners (linkReset s)
  { t with lkc := { t.lkc with resetPhase := .none } }

/-- A line break taken: the framer waits for mark, the link reset is performed, and a RESET whose answer it discards has
its warm reset at once (R152, log entry 8). -/
def takeBreak (s : State) : State :=
  let t := linkReset (setFramer .awaitingMark s)
  if s.lkc.resetPhase = .answering then warmReset t else t

/-- LINE_BREAK: a break lasting on is one break (R152). -/
def execLineBreak (s : State) : Host.Outcome State Fault Refusal :=
  .next (if s.lkc.framer = .awaitingMark then s else takeBreak s)

/-- LINE_RETURN_TO_MARK (R152). -/
def execLineReturnToMark (s : State) : Host.Outcome State Fault Refusal :=
  .next (if s.lkc.framer = .awaitingMark then setFramer .hunting s else s)

/-- WARM_RESET: performed when the answer to RESET has been sent in full (R152). -/
def execWarmReset (s : State) : Host.Outcome State Fault Refusal :=
  .next (if s.lkc.resetPhase = .due then warmReset s else s)

/-! ## The transmitter (R155) -/

/-- The answer at the head of the queue is the answer to RESET, and its end brings the warm reset (R152). -/
def LinkController.phaseAfterSend (l : LinkController) : ResetPhase :=
  if l.resetPhase = .answering && (l.answers.head?.map (·.body)) = some .reset then .due else l.resetPhase

/-- The end of the frame being sent: an answer's place is freed, and the next frame is chosen (R155). -/
def LinkController.endSend (l : LinkController) : LinkController :=
  match l.tx with
  | .idle => l
  | .answer => { l with resetPhase := l.phaseAfterSend, answers := l.answers.tail }.choose
  | .notice _ _ => l.choose

/-- TRANSMISSION_END. -/
def execTransmissionEnd (s : State) : Host.Outcome State Fault Refusal := .next { s with lkc := s.lkc.endSend }

/-- NOTICE_HOLD_ASSERTED: the line acts only when the transmitter chooses. -/
def execNoticeHoldAsserted (s : State) : Host.Outcome State Fault Refusal := .next { s with lkc := { s.lkc with hold := true } }

/-- NOTICE_HOLD_NEGATED: a notice waiting is begun at once by an Idle transmitter. -/
def execNoticeHoldNegated (s : State) : Host.Outcome State Fault Refusal :=
  .next { s with lkc := { s.lkc with hold := false }.start }

/-! ## The orders of the link controller and of the condition and notice unit -/

/-- UNKNOWN_ORDER: an order whose kind names none is answered Unknown at its dispatch (R154 (a)). -/
def execUnknownOrder (kind tag : Byte) (body : List Byte) (s : State) : Host.Outcome State Fault Refusal :=
  .next
    (if namesOrder kind then s
    else
      dispatchOrder { kind := kind, tag := tag, body := body } (placeAnswer ((Reply.refuse .unknown).answer tag)) s)

/-- READ CONDITIONS (R158). -/
def readConditions (s : State) : Owned :=
  done (.conditions s.cnu.bits s.cnu.mask s.lkc.notices.length s.lkc.dropped) { s with cnu := { s.cnu with bits := 0 } }

/-- SET NOTICE MASK (R159). -/
def setNoticeMask (mask : Nat) (s : State) : Owned :=
  if 1024 ≤ mask then refused .range s
  else done (.formerMask s.cnu.mask) { s with cnu := { s.cnu with mask := BitVec.ofNat 10 mask } }

/-- IDENTIFY (R164). -/
def identify (s : State) : Owned :=
  done
    (.identity s.configured (s.sts.site.map (·.generation)) (s.tfs.live.map tariffGeneration)
      (if s.configured then s.sck.day else .closed) s.sck.clockValid s.lkc.speed) s

/-- RESET: answered Done; from now on no further order is taken (R152). -/
def reset (s : State) : Owned := done .reset { s with lkc := { s.lkc with resetPhase := .answering } }

/-- READ CONDITIONS. -/
def execReadConditions (tag : Byte) (body : List Byte) (s : State) : Host.Outcome State Fault Refusal :=
  .next (runOrder .readConditions tag body readConditions s)

/-- SET NOTICE MASK. -/
def execSetNoticeMask (tag : Byte) (body : List Byte) (s : State) : Host.Outcome State Fault Refusal :=
  .next (runOrder .setNoticeMask tag body (setNoticeMask (u16At body 0)) s)

/-- IDENTIFY. -/
def execIdentify (tag : Byte) (body : List Byte) (s : State) : Host.Outcome State Fault Refusal :=
  .next (runOrder .identify tag body identify s)

/-- RESET. -/
def execReset (tag : Byte) (body : List Byte) (s : State) : Host.Outcome State Fault Refusal :=
  .next (runOrder .reset tag body reset s)

end Sys2Proof.Machine
end

