-- ==== Sys2Proof/Machine/Site.lean ====
section
/-!
DEFINITION. The site table store and start-up (spec 10): SITE LOAD (R167), SITE COMMIT (R168 to R170) and the cold reset
(R171).
-/

namespace Sys2Proof.Machine

/-- SITE LOAD (R167). -/
def siteLoad (body : List Byte) (s : State) : Owned :=
  let offset := u16At body 0
  let segment := body.drop 2
  if tenanted s then refused .notClosed s
  else if 345 < offset || segment = [] || 346 < offset + segment.length then refused .range s
  else done .none { s with sts := { s.sts with staging := writeSegment s.sts.staging offset segment } }

/-- The owners build their state from a site table: master list, locker map, cabin unit, lanes, station table (R170 (d)). -/
def rebuild (t : SiteTable) (s : State) : State :=
  { s with
    bdr := { s.bdr with masters := t.masters.map (fun b => { number := b, lastPresentation := none }) }
    lmu := freshLockers t
    cbu := freshCabins t
    xlu := freshLanes t
    flm := freshLine t }

/-- The day record set Closed (R130, R170 (c)). -/
def SiteClock.dayCleared (c : SiteClock) : SiteClock := { c with day := .closed, openMinute := none, wrapped := false }

/-- The acts (a) to (d) of a SITE COMMIT with a clamped image (R169, R170). -/
def commitImage (image : List Byte) (s : State) : State :=
  rebuild (siteTableOf image)
    { s with
      lkc := s.lkc.cancelAll
      sck := s.sck.dayCleared
      sts := { site := some (siteTableOf image), staging := image, store := { bytes := image, writing := true } } }

/-- The body of SITE COMMIT's Done (R170). -/
def committedBody (t : SiteTable) : AnswerBody :=
  .siteCommitted t.generation t.banks.length (t.banks.map (·.doors)).sum t.cabins.length t.lanes.length

/-- SITE COMMIT (R168 to R170). -/
def siteCommit (s : State) : Owned :=
  if tenanted s then refused .notClosed s
  else if !siteImageGood s.sts.staging then refused .invalid s
  else
    let image := clampSite s.sts.staging
    (commitImage image s,
      some { code := .done, clamped := decide (image ≠ s.sts.staging), body := committedBody (siteTableOf image) })

/-- The part with everything in working memory lost: no site table; the stored copies, the straps and the hold line
are what it keeps (R21, R88, R124, R130, R165, R171). -/
def coldBase (straps : BitVec 2) (s : State) : State :=
  { pending := s.pending
    bdr := emptyRegister
    lmu := { banks := [] }
    cbu := { cabins := [], groups := [] }
    tfs := coldTariff s.tfs.store
    xlu := { lanes := [] }
    sck := resetClock
    sts := emptySite s.sts.store.afterReset
    flm := { stations := [], visit := none, inFlight := none }
    lkc := resetLink straps s.lkc.hold
    cnu := resetConditions }

/-- A cold reset (R171): with a good stored image, clamped in working memory, the part is Configured. -/
def coldReset (straps : BitVec 2) (s : State) : State :=
  let base := coldBase straps s
  let stored := s.sts.store.afterReset
  if siteImageGood stored.bytes then
    let image := clampSite stored.bytes
    rebuild (siteTableOf image) { base with sts := { site := some (siteTableOf image), staging := image, store := stored } }
  else base

/-- COLD_RESET. -/
def execColdReset (straps : BitVec 2) (s : State) : Host.Outcome State Fault Refusal := .next (coldReset straps s)

/-- SITE LOAD. -/
def execSiteLoad (tag : Byte) (body : List Byte) (s : State) : Host.Outcome State Fault Refusal :=
  .next (runOrder .siteLoad tag body (siteLoad body) s)

/-- SITE COMMIT. -/
def execSiteCommit (tag : Byte) (body : List Byte) (s : State) : Host.Outcome State Fault Refusal :=
  .next (runOrder .siteCommit tag body siteCommit s)

end Sys2Proof.Machine
end

