-- ==== Sys2Proof/Machine/Dispatch.lean ====
section
/-! DEFINITION. The dispatch: one arm for each command, one direct call of its meaning. -/

namespace Sys2Proof.Machine

/-- The effect of a command on everything but the queue of waiting commands. -/
def exec (i : Instr) (s : State) : Host.Outcome State Fault Refusal :=
  match i with
  | .coldReset straps => Sys2Proof.Machine.execColdReset straps s
  | .frameReceived bytes => Sys2Proof.Machine.execFrameReceived bytes s
  | .frameLengthOutOfRange length => Sys2Proof.Machine.execFrameLengthOutOfRange length s
  | .byteWithoutStopBit => Sys2Proof.Machine.execByteWithoutStopBit s
  | .interByteGap => Sys2Proof.Machine.execInterByteGap s
  | .lineBreak => Sys2Proof.Machine.execLineBreak s
  | .transmissionEnd => Sys2Proof.Machine.execTransmissionEnd s
  | .noticeHoldAsserted => Sys2Proof.Machine.execNoticeHoldAsserted s
  | .noticeHoldNegated => Sys2Proof.Machine.execNoticeHoldNegated s
  | .unknownOrder kind tag body => Sys2Proof.Machine.execUnknownOrder kind tag body s
  | .issueBand tag body => Sys2Proof.Machine.execIssueBand tag body s
  | .barBand tag body => Sys2Proof.Machine.execBarBand tag body s
  | .replaceBand tag body => Sys2Proof.Machine.execReplaceBand tag body s
  | .forgetBand tag body => Sys2Proof.Machine.execForgetBand tag body s
  | .readBand tag body => Sys2Proof.Machine.execReadBand tag body s
  | .listBands tag body => Sys2Proof.Machine.execListBands tag body s
  | .releaseLocker tag body => Sys2Proof.Machine.execReleaseLocker tag body s
  | .clearForced tag body => Sys2Proof.Machine.execClearForced tag body s
  | .lockerServiceOut tag body => Sys2Proof.Machine.execLockerServiceOut tag body s
  | .lockerServiceIn tag body => Sys2Proof.Machine.execLockerServiceIn tag body s
  | .resetUseCount tag body => Sys2Proof.Machine.execResetUseCount tag body s
  | .lockerWindowLoad tag body => Sys2Proof.Machine.execLockerWindowLoad tag body s
  | .readLocker tag body => Sys2Proof.Machine.execReadLocker tag body s
  | .readBank tag body => Sys2Proof.Machine.execReadBank tag body s
  | .cabinAssign tag body => Sys2Proof.Machine.execCabinAssign tag body s
  | .setCabinLimit tag body => Sys2Proof.Machine.execSetCabinLimit tag body s
  | .cleaned tag body => Sys2Proof.Machine.execCleaned tag body s
  | .cabinServiceOut tag body => Sys2Proof.Machine.execCabinServiceOut tag body s
  | .cabinServiceIn tag body => Sys2Proof.Machine.execCabinServiceIn tag body s
  | .readCabin tag body => Sys2Proof.Machine.execReadCabin tag body s
  | .readQueue tag body => Sys2Proof.Machine.execReadQueue tag body s
  | .tariffLoad tag body => Sys2Proof.Machine.execTariffLoad tag body s
  | .tariffCommit tag body => Sys2Proof.Machine.execTariffCommit tag body s
  | .readTariff tag body => Sys2Proof.Machine.execReadTariff tag body s
  | .quotePreview tag body => Sys2Proof.Machine.execQuotePreview tag body s
  | .paid tag body => Sys2Proof.Machine.execPaid tag body s
  | .cancelQuote tag body => Sys2Proof.Machine.execCancelQuote tag body s
  | .readLane tag body => Sys2Proof.Machine.execReadLane tag body s
  | .setClock tag body => Sys2Proof.Machine.execSetClock tag body s
  | .adjustClock tag body => Sys2Proof.Machine.execAdjustClock tag body s
  | .readClock tag body => Sys2Proof.Machine.execReadClock tag body s
  | .openDay tag body => Sys2Proof.Machine.execOpenDay tag body s
  | .closeDay tag body => Sys2Proof.Machine.execCloseDay tag body s
  | .purge tag body => Sys2Proof.Machine.execPurge tag body s
  | .readStation tag body => Sys2Proof.Machine.execReadStation tag body s
  | .readConditions tag body => Sys2Proof.Machine.execReadConditions tag body s
  | .setNoticeMask tag body => Sys2Proof.Machine.execSetNoticeMask tag body s
  | .identify tag body => Sys2Proof.Machine.execIdentify tag body s
  | .reset tag body => Sys2Proof.Machine.execReset tag body s
  | .warmReset => Sys2Proof.Machine.execWarmReset s
  | .watch tag body => Sys2Proof.Machine.execWatch tag body s
  | .cancelWatch tag body => Sys2Proof.Machine.execCancelWatch tag body s
  | .siteLoad tag body => Sys2Proof.Machine.execSiteLoad tag body s
  | .siteCommit tag body => Sys2Proof.Machine.execSiteCommit tag body s
  | .minuteBoundary => Sys2Proof.Machine.execMinuteBoundary s
  | .midnightRollover => Sys2Proof.Machine.execMidnightRollover s
  | .openingExpiry locker => Sys2Proof.Machine.execOpeningExpiry locker s
  | .offerExpiry cabin => Sys2Proof.Machine.execOfferExpiry cabin s
  | .entryExpiry cabin => Sys2Proof.Machine.execEntryExpiry cabin s
  | .cleaningExpiry cabin => Sys2Proof.Machine.execCleaningExpiry cabin s
  | .abandonment cabin => Sys2Proof.Machine.execAbandonment cabin s
  | .quoteExpiry lane => Sys2Proof.Machine.execQuoteExpiry lane s
  | .passExpiry lane => Sys2Proof.Machine.execPassExpiry lane s
  | .watchExpiry tag => Sys2Proof.Machine.execWatchExpiry tag s
  | .desiredEntryExpiry station entry => Sys2Proof.Machine.execDesiredEntryExpiry station entry s
  | .poll => Sys2Proof.Machine.execPoll s
  | .pollAnswer reply => Sys2Proof.Machine.execPollAnswer reply s
  | .missedAnswer cause => Sys2Proof.Machine.execMissedAnswer cause s
  | .startByteReceived => Sys2Proof.Machine.execStartByteReceived s
  | .lineReturnToMark => Sys2Proof.Machine.execLineReturnToMark s
  | .storeWriteEnd copy => Sys2Proof.Machine.execStoreWriteEnd copy s

end Sys2Proof.Machine
end

