-- ==== Sys2Proof/Machine/Step.lean ====
section
/-! DEFINITION. The step: the command at the front of the queue, and a second that passes on an empty queue. -/

namespace Sys2Proof.Machine

/-- One step: the command at the front of the queue is taken, with the queue's rest left waiting. On an empty queue one
second passes (R124, log entry 1). -/
def step (s : State) : Host.Outcome State Fault Refusal :=
  match s.pending with
  | [] => .next (secondPasses s)
  | c :: rest => exec c { s with pending := rest }

/-- The command a word spells put at the front of the queue; the state as it is where the word spells none. -/
def State.withFetchWord (s : State) (nbits w : Nat) : State :=
  match decodeTableWord nbits w with
  | none => s
  | some c => { s with pending := c :: s.pending }

end Sys2Proof.Machine
end

