-- ==== Sys2Proof/Machine/Answers.lean ====
section
/-!
DEFINITION. What is sent: answer and notice frames (R174), the central answer and notice bodies laid out in spec 11 section
4, and the texts of the displays (R147). They are read from State; no command needs them to have its effect.
-/

namespace Sys2Proof.Config

/-- FREE VALUE: the bytes of an owner's body, or of the part of it, for which the spec states the content and no layout
(spec 00 2.01 (d), log entry 32). -/
opaque unlaidAnswer : Machine.AnswerBody → List Byte

/-- FREE VALUE: the bytes of a notice's content for which the spec states no layout (spec 00 2.01 (d), log entry 32). -/
opaque unlaidNotice : Machine.NoticeContent → List Byte

end Sys2Proof.Config

namespace Sys2Proof.Machine

/-! ## Fields with their absent codes (spec 11 1.01) -/

/-- A second, absent as 0xFFFFFFFF. -/
def secondField (x : Option Nat) : List Byte := u32Bytes (x.getD 0xFFFFFFFF)

/-- A band number, absent as 0. -/
def bandField (b : Option BandNo) : List Byte := bandBytes (b.getD 0)

/-- A yes-or-no byte: 1 for yes, 0 for no. DESIGN CHOICE (log entry 46) for the fields whose code spec 11 does not state:
wrapped and cap applied (4.05), live tariff present and clock-valid (4.06). -/
def boolByte (b : Bool) : List Byte := u8Bytes b.toNat

/-- Flags from bit 0 upward; a bit beyond the flags named is 0. -/
def flagsByte (l : List Bool) : List Byte := u8Bytes (l.foldr (fun b n => b.toNat + 2 * n) 0)

/-- A signed 2-byte number, in two's complement: DEDUCED (log entry 47) from the one that spec 11 3.01 names so. -/
def s16Bytes (n : Int) : List Byte := u16Bytes (n % 65536).toNat

/-! ## Central bodies (spec 11 section 4) -/

/-- A cabin link: kind, group or cabin, ticket (spec 11 4.01). -/
def linkBytes (l : Option CabinLink) : List Byte :=
  match l with
  | none => u8Bytes 0 ++ u8Bytes (Config.unstated .linkNumber) ++ u8Bytes 0
  | some (.queued g t) => u8Bytes 1 ++ u8Bytes g ++ u8Bytes t
  | some (.offered c) => u8Bytes 2 ++ u8Bytes c ++ u8Bytes 0
  | some (.holding c) => u8Bytes 3 ++ u8Bytes c ++ u8Bytes 0

/-- The quote of a band record: lane, amount, expiry. -/
def quoteBytes (q : Option Quote) : List Byte :=
  match q with
  | none => u8Bytes 0xFF ++ u16Bytes (Config.unstated .quoteAmount) ++ secondField none
  | some q => u8Bytes q.lane ++ u16Bytes q.amount ++ secondField (some q.expiry)

/-- The last presentation: station address, door, second. -/
def presentationBytes (p : Option (Reader × Nat)) : List Byte :=
  match p with
  | none => u8Bytes 0 ++ u8Bytes 0 ++ secondField none
  | some (r, x) => u8Bytes r.station ++ u8Bytes r.door ++ secondField (some x)

/-- A locker number of a band's list, 0xFFFF unused. -/
def lockerSlot (l : List Nat) (i : Nat) : List Byte := u16Bytes (l.getD i 0xFFFF)

/-- READ BAND, 50 bytes (spec 11 4.01). -/
def bandRecordBytes (r : BandRecord) (place : Option PartyPlace) : List Byte :=
  bandBytes r.number ++ u8Bytes r.state.code ++ u8Bytes r.cls ++ u16Bytes r.entryMinute ++ u16Bytes r.paidMinutes
    ++ u16Bytes (r.party.getD 0xFFFF) ++ u8Bytes ((place.map (·.position)).getD 0)
    ++ u8Bytes ((place.map (·.members)).getD (Config.unstated .memberCount)) ++ bandField (place.bind (·.lead))
    ++ u8Bytes r.lockers.length ++ lockerSlot r.lockers 0 ++ lockerSlot r.lockers 1 ++ lockerSlot r.lockers 2
    ++ linkBytes r.link ++ u16Bytes r.overstay ++ quoteBytes r.quote ++ bandField r.replacedBy
    ++ presentationBytes r.lastPresentation

/-- READ LOCKER, 18 bytes (spec 11 4.02). -/
def lockerBytes (n : Nat) (l : Locker) : List Byte :=
  u16Bytes n ++ u8Bytes l.state.code ++ u8Bytes ((l.remembered.map LockerState.code).getD 0xFF) ++ bandField l.holder
    ++ u8Bytes (match l.claimRetention with | none => 0xFF | some .single => 0 | some .visit => 1)
    ++ u8Bytes (match l.openedBy with | none => 0xFF | some .band => 0 | some .master => 1)
    ++ secondField l.openingExpiry
    ++ flagsByte [l.inService, decide (l.retention = .visit), l.staffOnly, l.pendingOut, l.doorOpen, l.boltLocked,
        l.serviceNotified, l.orphanCheck]
    ++ u16Bytes l.useCount

/-- READ CABIN, 34 bytes (spec 11 4.03). Bits 3 to 7 of the flags byte, which 4.03 does not name, are sent as 0: DESIGN CHOICE
(log entry 46). -/
def cabinBytes (n : Nat) (c : Cabin) : List Byte :=
  u8Bytes n ++ u8Bytes c.group ++ u8Bytes c.state.code ++ u8Bytes ((c.remembered.map CabinState.code).getD 0xFF)
    ++ bandField c.band ++ u8Bytes (c.ticketShown.getD 0) ++ secondField c.offerExpiry ++ secondField c.entryExpiry
    ++ s16Bytes c.counter ++ flagsByte [c.overstayFlag, c.doorOpen, c.pendingOut] ++ secondField c.doorOpenSince
    ++ secondField c.cleaningExpiry ++ u8Bytes (c.offerMisses.getD (Config.unstated .offerMisses)) ++ secondField c.offerJoin

/-- READ LANE, 34 bytes (spec 11 4.04). -/
def laneBytes (n : Nat) (e : Lane) (health : Option Health) : List Byte :=
  u8Bytes n ++ u8Bytes e.state.code ++ u8Bytes ((e.remembered.map LaneState.code).getD 0xFF) ++ bandField e.band
    ++ u8Bytes (match e.cause with | none => 0xFF | some .master => 0 | some .collected => 1 | some .paid => 2)
    ++ u16Bytes (e.quoteAmount.getD (Config.unstated .quoteAmount)) ++ secondField e.quoteExpiry ++ secondField e.passExpiry
    ++ bandField (e.lastExpiry.map (·.1)) ++ secondField (e.lastExpiry.map (·.2)) ++ bandField e.slot
    ++ u8Bytes (healthCode health)

/-- The working of R102, 26 bytes (spec 11 4.05); the codes of wrapped and cap applied: log entry 46. -/
def workingBytes (w : Working) : List Byte :=
  u16Bytes w.minute ++ boolByte w.wrapped ++ u16Bytes w.stay ++ u16Bytes w.overstay ++ u16Bytes w.units ++ u32Bytes w.timeSum
    ++ u32Bytes w.cabinSum ++ u32Bytes w.total ++ u32Bytes w.rounded ++ boolByte w.capped

/-- The content of SettlementDue, 40 bytes (spec 11 4.05). -/
def settlementDueBytes (b : BandNo) (lane amount expiry : Nat) (w : Working) : List Byte :=
  bandBytes b ++ u8Bytes lane ++ u16Bytes amount ++ u32Bytes expiry ++ u16Bytes w.generation ++ workingBytes w

/-- What QUOTE PREVIEW's answer begins with, 30 bytes (spec 11 4.05). -/
def previewBytes (charge : Nat) (w : Working) : List Byte := u16Bytes charge ++ u16Bytes w.generation ++ workingBytes w

/-- IDENTIFY (spec 11 4.06); the codes of live tariff present and clock-valid: log entry 46. -/
def identityBytes (configured : Bool) (site live : Option Nat) (day : DayState) (valid : Bool) (speed : BitVec 2) : List Byte :=
  u16Bytes Config.vendorCode ++ u16Bytes Config.partCode ++ u8Bytes Config.revision ++ boolByte configured
    ++ u16Bytes (site.getD 0xFFFF) ++ boolByte live.isSome ++ u16Bytes (live.getD (Config.unstated .liveGeneration))
    ++ boolByte (decide (day = .opened)) ++ boolByte valid ++ u8Bytes speed.toNat

/-! ## The bodies as they are sent -/

/-- The owner's body as it is sent: the bytes that spec 11 lays out, none where it is empty, and free bytes, no more than the
frame has room for, where only the content is stated (log entry 32). -/
def AnswerBody.bytes (b : AnswerBody) : List Byte :=
  match b with
  | .none => []
  | .reset => []
  | .bandRecord r place => bandRecordBytes r place
  | .locker n l => lockerBytes n l
  | .cabin n c => cabinBytes n c
  | .lane n e health => laneBytes n e health
  | .identity configured site live day valid speed => identityBytes configured site live day valid speed
  | .preview charge w _ => previewBytes charge w ++ (Config.unlaidAnswer b).take (Config.maxBody - 32)
  | _ => (Config.unlaidAnswer b).take (Config.maxBody - 2)

/-- A notice's content as it is sent: laid out for SettlementDue, free bytes for the others (log entry 32). -/
def NoticeContent.bytes (c : NoticeContent) : List Byte :=
  match c with
  | .settlementDue b lane amount expiry w => settlementDueBytes b lane amount expiry w
  | _ => (Config.unlaidNotice c).take (Config.maxBody - 7)

/-! ## Frames of every answer and every notice (R174) -/

/-- The kind of every answer (R174). -/
def answerKind : Byte := 0x80

/-- The kind of every notice (R174). -/
def noticeKind : Byte := 0x90

/-- The tag of every notice (R174). -/
def noticeTag : Byte := 0

/-- What every answer's body begins with: result code, flags (R174). -/
def Answer.header (a : Answer) : List Byte := u8Bytes a.code.code ++ boolByte a.clamped

/-- The frame of an answer: the kind of an answer, the tag of its order, its header and the owner's body (R174). -/
def Answer.frame (a : Answer) : List Byte := frameBytes answerKind a.tag (a.header ++ a.body.bytes)

/-- What every notice's body begins with: class, number, flags, second (R174). R174 gives the lowest bit of the flags byte,
Dropped; bits 1 to 7 are sent as 0, which R174 says of an answer's flags byte alone: DESIGN CHOICE (log entry 46). -/
def Notice.header (n : Notice) (dropped : Bool) : List Byte :=
  u8Bytes n.content.cls.code ++ u8Bytes n.content.number ++ boolByte dropped ++ u32Bytes n.second

/-- The frame of a notice: the kind and tag of a notice, its header and its content (R174). -/
def Notice.frame (n : Notice) (dropped : Bool) : List Byte :=
  frameBytes noticeKind noticeTag (n.header dropped ++ n.content.bytes)

/-- The frame on the line while the transmitter sends; none while it is Idle. -/
def LinkController.sending (l : LinkController) : Option (List Byte) :=
  match l.tx with
  | .idle => none
  | .answer => l.answers.head?.map Answer.frame
  | .notice n dropped => some (n.frame dropped)

/-! ## Display texts (R147) -/

/-- A number in two digits. -/
def twoDigits (n : Nat) : String := if n < 10 then "0" ++ toString n else toString n

/-- The characters of a display code. -/
def DisplayCode.text : DisplayCode → String
  | .unknown => "–1" | .br => "BR" | .cl => "CL" | .se => "SE" | .st => "ST" | .fl => "FL" | .doorOpen => "DO" | .no => "NO"
  | .al => "AL" | .orphan => "OR" | .os => "OS" | .na => "NA" | .iq => "IQ" | .hc => "HC" | .qf => "QF" | .byCode => "BY"

/-- The characters of a standing display (R147 (a) to (e)); a ticket is written without a leading zero (log entry 37). -/
def DisplayText.text : DisplayText → String
  | .blank => ""
  | .ticket n => toString n
  | .ticketPlace n place => toString n ++ " P" ++ twoDigits place
  | .ticketCabin n cabin => toString n ++ " C" ++ twoDigits cabin
  | .amount cents => toString (cents / 100) ++ "." ++ twoDigits (cents % 100)
  | .lockerRefusal n => "LK " ++ twoDigits (lockerBank n) ++ "-" ++ twoDigits (lockerDoor n)
  | .cabinRefusal c => "CB " ++ twoDigits c
  | .code c => c.text
  | .go => "GO"

end Sys2Proof.Machine
end

