-- ==== Sys2Proof/Machine/Station.lean ====
section
/-!
DEFINITION. What the spec says of the station devices, outside State (log entry 29): the event buffer and its flags (R140),
the state after a loss of power (R145), the slot of a lane unit (R105), and the sounder and lamp patterns (R146, R147).
-/

namespace Sys2Proof.Machine

/-! ## The event buffer (R140) -/

/-- A station's event buffer: three positions and one waiting, each event with its bit, the bit of the next event, and the
overrun and restart flags. -/
structure EventBuffer where
  positions : List (StationEvent × Bool)
  waiting : Option (StationEvent × Bool)
  nextBit : Bool
  overrun : Bool
  restart : Bool
  deriving DecidableEq, Repr

/-- The buffer after a power-up: empty, bits starting at 0, restart flag set (R145). -/
def EventBuffer.powerUp : EventBuffer := { positions := [], waiting := none, nextBit := false, overrun := false, restart := true }

/-- A new event (R140): the first free position, else the waiting position, else in place of the waiting event. -/
def EventBuffer.occur (b : EventBuffer) (ev : StationEvent) : EventBuffer :=
  if b.positions.length < 3 then { b with positions := b.positions ++ [(ev, b.nextBit)], nextBit := !b.nextBit }
  else
    match b.waiting with
    | none => { b with waiting := some (ev, b.nextBit), nextBit := !b.nextBit }
    | some (_, bit) => { b with waiting := some (ev, bit), overrun := true }

/-- The head removed: the rest move forward, the waiting event takes the third position (R140). -/
def EventBuffer.removeHead (b : EventBuffer) : EventBuffer :=
  { b with positions := b.positions.tail ++ b.waiting.toList, waiting := none }

/-- The head removed where the poll's bit is the head event's (R140). -/
def EventBuffer.confirm (b : EventBuffer) (bit : Option Bool) : EventBuffer :=
  match b.positions, bit with
  | (_, x) :: _, some y => if x = y then b.removeHead else b
  | _, _ => b

/-- The effect of a status read: flags cleared; a clearing one empties the buffer and restarts the bits (R140). -/
def EventBuffer.statusRead (b : EventBuffer) (read : Option ReadKind) : EventBuffer :=
  match read with
  | none => b
  | some .plain => { b with overrun := false, restart := false }
  | some .clearing => { positions := [], waiting := none, nextBit := false, overrun := false, restart := false }

/-- A poll reaches the station: the buffer afterwards and the answer, its flags as they stood (R140). -/
def EventBuffer.polled (b : EventBuffer) (bit : Option Bool) (read : Option ReadKind) (status : Option StatusReport) :
    EventBuffer × PollReply :=
  let after := (b.confirm bit).statusRead read
  (after, { event := after.positions.head?, overrun := b.overrun, restart := b.restart, status := status })

/-! ## Loss of power (R105 (f), R145) -/

/-- The bolts, lamps and flash codes of a station after a loss of power: locked, Off, blank. -/
def powerUpBolt : BoltWish := .locked
def powerUpLamp : Lamp := .off
def powerUpDisplay : DisplayText := .blank
def powerUpShutterOpen : Bool := false
def powerUpGate : GateWish := .shut

/-! ## The slot of a lane unit (R105) -/

/-- Where a band goes from the slot. -/
inductive SlotExit where
  | throat
  | bin
  | retained
  deriving DecidableEq, Repr

/-- A slot action for a band: performed only where it names the band in the slot; Hold keeps it there. -/
def slotAction (slot : Option BandNo) (act : SlotAction) (b : BandNo) : Option BandNo × Option SlotExit :=
  if slot = some b then
    match act with
    | .hold => (slot, none)
    | .giveBack => (none, some .throat)
    | .collect => (none, some .bin)
    | .retain => (none, some .retained)
  else (slot, none)

/-- An unclaimed band is returned after 10 s in the slot. -/
def unclaimedSeconds : Nat := 10

/-! ## Patterns (R146, R147), in milliseconds -/

/-- The tones and silences of a one-shot pattern, in order: sounding or not, for how long. -/
def OneShot.pattern : OneShot → List (Bool × Nat)
  | .accept => [(true, 150)]
  | .refuse => [(true, 400), (false, 200), (true, 400)]
  | .call => [(true, 300), (false, 300), (true, 300), (false, 300), (true, 300)]

/-- The tone of a one-shot pattern: Refuse plays the refusal tone. -/
def OneShot.toneOf (p : OneShot) (pitch : Nat) : Nat :=
  match p with
  | .accept => tone pitch
  | .refuse => refusalTone pitch
  | .call => tone pitch

/-- Alarm alternates the station's tone and its refusal tone every 500 ms. -/
def alarmPeriod : Nat := 500

/-- A lamp's time lit and dark; none where it does not flash. -/
def Lamp.flashPeriod : Lamp → Option Nat
  | .off => none
  | .steady => none
  | .slowFlash => some 500
  | .fastFlash => some 125

/-- A flash code is shown for 3 s from its receipt. -/
def flashCodeTime : Nat := 3000

end Sys2Proof.Machine
end

