-- ==== Sys2Proof/Safety.lean ====
section
/-!
DEFINITION. The terms the claims use: when an order is taken, what a step may do, and what holds in every state a step
can reach from a state in which it holds.
-/

namespace Sys2Proof.Machine

/-! ## When an order is taken -/

/-- The order a kind, a tag and a body make. -/
def orderFrame (k : OrderKind) (tag : Byte) (body : List Byte) : OrderFrame := { kind := k.code, tag := tag, body := body }

/-- The order stands at the head of the buffer, or the buffer is empty and the command stands for its arrival too (log
entry 3); a place of the answer queue is free and no RESET awaits its warm reset (R154). -/
abbrev Dispatched (o : OrderFrame) (s : State) : Prop :=
  (s.lkc.orders = [] ∨ s.lkc.orders.head? = some o) ∧ s.lkc.placesUsed < 8 ∧ s.lkc.resetPhase = .none

/-- The order is dispatched and passes the checks of R154: its owner takes it. -/
abbrev Taken (k : OrderKind) (tag : Byte) (body : List Byte) (s : State) : Prop :=
  Dispatched (orderFrame k tag body) s ∧ k.bodyLengthOk body.length = true
    ∧ (s.configured = true ∨ k.takenUnconfigured = true)

/-- The order is taken, and stands at the head of the buffer: the form R153 and R154 give. -/
abbrev TakenFromBuffer (k : OrderKind) (tag : Byte) (body : List Byte) (s : State) : Prop :=
  s.lkc.orders.head? = some (orderFrame k tag body) ∧ Taken k tag body s

/-- The kind, tag and body of an order's command. -/
def orderFields (i : Instr) : Option (OrderKind × Byte × List Byte) :=
  match i with
  | .issueBand t b => some (.issueBand, t, b)
  | .barBand t b => some (.barBand, t, b)
  | .replaceBand t b => some (.replaceBand, t, b)
  | .forgetBand t b => some (.forgetBand, t, b)
  | .readBand t b => some (.readBand, t, b)
  | .listBands t b => some (.listBands, t, b)
  | .releaseLocker t b => some (.releaseLocker, t, b)
  | .clearForced t b => some (.clearForced, t, b)
  | .lockerServiceOut t b => some (.lockerService, t, b)
  | .lockerServiceIn t b => some (.lockerService, t, b)
  | .resetUseCount t b => some (.resetUseCount, t, b)
  | .lockerWindowLoad t b => some (.lockerWindowLoad, t, b)
  | .readLocker t b => some (.readLocker, t, b)
  | .readBank t b => some (.readBank, t, b)
  | .cabinAssign t b => some (.cabinAssign, t, b)
  | .setCabinLimit t b => some (.setCabinLimit, t, b)
  | .cleaned t b => some (.cleaned, t, b)
  | .cabinServiceOut t b => some (.cabinService, t, b)
  | .cabinServiceIn t b => some (.cabinService, t, b)
  | .readCabin t b => some (.readCabin, t, b)
  | .readQueue t b => some (.readQueue, t, b)
  | .tariffLoad t b => some (.tariffLoad, t, b)
  | .tariffCommit t b => some (.tariffCommit, t, b)
  | .readTariff t b => some (.readTariff, t, b)
  | .quotePreview t b => some (.quotePreview, t, b)
  | .paid t b => some (.paid, t, b)
  | .cancelQuote t b => some (.cancelQuote, t, b)
  | .readLane t b => some (.readLane, t, b)
  | .setClock t b => some (.setClock, t, b)
  | .adjustClock t b => some (.adjustClock, t, b)
  | .readClock t b => some (.readClock, t, b)
  | .openDay t b => some (.openDay, t, b)
  | .closeDay t b => some (.closeDay, t, b)
  | .purge t b => some (.purge, t, b)
  | .readStation t b => some (.readStation, t, b)
  | .readConditions t b => some (.readConditions, t, b)
  | .setNoticeMask t b => some (.setNoticeMask, t, b)
  | .identify t b => some (.identify, t, b)
  | .reset t b => some (.reset, t, b)
  | .watch t b => some (.watch, t, b)
  | .cancelWatch t b => some (.cancelWatch, t, b)
  | .siteLoad t b => some (.siteLoad, t, b)
  | .siteCommit t b => some (.siteCommit, t, b)
  | _ => none

/-- The answer of a result code with nothing to report. -/
def plainAnswer (tag : Byte) (code : ResultCode) : Answer := { tag := tag, code := code, clamped := false, body := .none }

/-- The answer Done with a body. -/
def doneAnswer (tag : Byte) (body : AnswerBody) : Answer := { tag := tag, code := .done, clamped := false, body := body }

/-- The answer placed last is this one. -/
abbrev Answered (t : State) (a : Answer) : Prop := t.lkc.answers.getLast? = some a

/-! ## Presentations and status reads, as the spec's tables say them -/

/-- The reader a presentation at a station comes from: the door of a lock bank by its logical number (R25, R141), else the
station's one reader; none beyond a bank's doors. -/
def readerOf (t : SiteTable) (addr p : Nat) : Option Reader :=
  match kindOf addr with
  | .lockBank =>
    if p < bankDoors t addr then
      some { station := addr, door := if bankMirrored t addr then bankDoors t addr - 1 - p else p }
    else none
  | _ => some { station := addr, door := 0 }

/-- A presentation at a reader, at the present second, repeats the last one within the repeat window (R7). -/
def Suppressed (last : Option (Reader × Nat)) (reader : Reader) (s : State) : Prop :=
  ∃ x, last = some (reader, x)
    ∧ (if s.sck.counter < x then s.sck.counter + 86400 - x else s.sck.counter - x) < s.table.repeatWindow

/-- A refusal shown at a reader with a flash code: the code at the reader, and Refuse unless the sounder plays Alarm
(R6, R8, R28, R56, R138). -/
def RefusalShown (reader : Reader) (code : DisplayCode) (s t : State) : Prop :=
  ∀ st, s.flm.find reader.station = some st → st.value (.flash reader.door) ≠ none →
    ∃ st', t.flm.find reader.station = some st' ∧ st'.value (.flash reader.door) = some (.flash (some code))
      ∧ (st.alarm = false → st.value .sounder ≠ none → st'.value .sounder = some (.sounder false (some .refuse)))

/-- A one-shot pattern written for the sounder of a station that plays no Alarm (R28, R56, R107, R138). -/
def PatternPlayed (addr : Nat) (p : OneShot) (s t : State) : Prop :=
  ∀ st, s.flm.find addr = some st → st.alarm = false → st.value .sounder ≠ none →
    ∃ st', t.flm.find addr = some st' ∧ st'.value .sounder = some (.sounder false (some p))

/-- A refusal shown at a collector: the slot action for the band, Refuse, and the text on the display (R107 to R109). -/
def LaneRefusalShown (l : Nat) (act : SlotAction) (b : BandNo) (text : DisplayText) (s t : State) : Prop :=
  PatternPlayed (l + 85) .refuse s t
    ∧ ∀ st, s.flm.find (l + 85) = some st → ∃ st', t.flm.find (l + 85) = some st'
      ∧ (st.value .slotAction ≠ none → st'.value .slotAction = some (.slotAction (some (act, b))))
      ∧ (st.value .standing ≠ none → st'.value .standing = some (.standing text))

/-- A ticket is held in a group: an entry of its queue carries it, or a cabin of the group shows it, or remembers it while
Unreachable (R54). -/
def CabinUnit.TicketHeld (u : CabinUnit) (g x : Nat) : Prop :=
  (∃ e ∈ u.queue g, e.ticket = x) ∨ ∃ c ∈ u.cabins, c.group = g ∧ c.ticketShown = some x

/-- A group after a join (R54, R57): its queue as given, its next ticket one on from the ticket given, or 1 after 99, and its
limit as before; no other group changes. -/
def JoinedGroup (g : Nat) (queue : List QueueEntry) (s t : State) : Prop :=
  (∀ k, s.cbu.group g = some k →
      t.cbu.group g = some
        { k with nextTicket := if 99 ≤ s.cbu.ticketFor g then 1 else s.cbu.ticketFor g + 1, queue := queue })
    ∧ ∀ h, h ≠ g → t.cbu.group h = s.cbu.group h

/-- A locker whose binding has ended: Vacant, or OutOfService where that is pending (R26, R35, R40); its claim retention
stays (log entry 19). -/
def Locker.givenUp (l : Locker) : Locker :=
  { l with state := if l.pendingOut then .outOfService else .vacant, holder := none, openedBy := none, openingExpiry := none,
           pendingOut := false }

/-- An Opening locker whose door has opened, by the table of R33. -/
def Locker.openedAt (l : Locker) : Locker :=
  if l.holder = none ∨ (l.openedBy ≠ some .master ∧ l.claimRetention = some .single) then l.givenUp
  else { l with state := .opened, openedBy := none, openingExpiry := none }

/-- A locker of the window of LOCKER WINDOW LOAD (R43): each value of 0 or 1 written and any other kept; an in-service value
has the effect of LOCKER SERVICE out or in (R40), on the remembered state of an Unreachable locker (R46). -/
def Locker.loadedBy (l : Locker) (a : WindowArgs) : Locker :=
  let k := { l with
    retention := if a.retention = 0 then .single else if a.retention = 1 then .visit else l.retention
    staffOnly := if a.staffOnly = 0 then false else if a.staffOnly = 1 then true else l.staffOnly }
  if a.inService = 0 then
    if l.acting = .vacant then { k with inService := false }.act .outOfService
    else if l.acting = .outOfService then { k with inService := false }
    else { k with inService := false, pendingOut := true }
  else if a.inService = 1 then
    if l.acting = .outOfService then { k with inService := true, pendingOut := false }.act .vacant
    else { k with inService := true, pendingOut := false }
  else k

/-- A locker treated at a reconcile by the table of R47: its positions sensed, its state by the table, its orphan check no. -/
def Locker.readAt (l : Locker) (d : DoorReading) : Locker :=
  let k := { l with doorOpen := d.isOpen, boltLocked := d.locked, orphanCheck := false }
  match l.state, d.isOpen with
  | .vacant, false => if d.locked ∧ l.orphanCheck = true then { k with state := .orphaned } else k
  | .held, true => { k with state := .forced }
  | .opening, true => k.openedAt
  | .opened, false => { k with state := .held, openedBy := none, openingExpiry := none }
  | .forced, false => if l.holder = none ∧ l.orphanCheck = true then { k with state := .orphaned } else k
  | .orphaned, true => { k with state := .forced }
  | _, _ => k

/-- A cabin offered until a second to the band of a queue entry, with its ticket, join second and miss count (R63). -/
def Cabin.offeredTo (c : Cabin) (e : QueueEntry) (second : Nat) : Cabin :=
  { c with
    state := .offered, band := some e.band, ticketShown := some e.ticket, offerExpiry := some second,
    offerMisses := some e.misses, offerJoin := some e.join }

/-- The head entry of its group's queue is offered a cabin from the present second on (R62, R63): the queue keeps the rest, the
band's link names the cabin, and no other band and no other cabin changes. -/
def OfferedToHead (n : Nat) (c : Cabin) (e : QueueEntry) (rest : List QueueEntry) (r : BandRecord) (s t : State) : Prop :=
  t.cbu.find n = some (c.offeredTo e ((s.sck.counter + (groupSetting s c.group).offerWindow) % 86400))
    ∧ (∀ m, m ≠ n → t.cbu.find m = s.cbu.find m) ∧ t.cbu.queue c.group = rest
    ∧ t.bdr.find e.band = some { r with link := some (.offered n) } ∧ (∀ x, x ≠ e.band → t.bdr.find x = s.bdr.find x)

/-- A cabin whose offer has ended: it names no band, shows no ticket and has no offer expiry (R65, R66). -/
def Cabin.unoffered (c : Cabin) : Cabin :=
  { c with band := none, ticketShown := none, offerExpiry := none, offerMisses := none, offerJoin := none }

/-- The parties once a freed band has left its party: removed from the member list, whose next becomes the lead; a party
left empty is removed (R11, R19). -/
def partiesWithout (b : BandNo) (party : Option Nat) (l : List Party) : List Party :=
  l.filterMap (fun p =>
    if party = some p.number then
      if p.members.filter (fun x => x ≠ b) = [] then none else some { p with members := p.members.filter (fun x => x ≠ b) }
    else some p)

/-- The place of an entry in the image order: sounder, slot action, shutter, gate, standing display, then door by door bolt,
lamp, flash code (R139). -/
def EntryKey.rank (k : EntryKey) : Nat :=
  match k with
  | .sounder => 0
  | .slotAction => 1
  | .shutter => 2
  | .gate => 3
  | .standing => 4
  | .bolt d => 5 + 3 * d
  | .lamp d => 6 + 3 * d
  | .flash d => 7 + 3 * d

/-! ## What a command leaves alone -/

/-- The blocks of the state (spec 00 3.01), and the queue of waiting commands. -/
inductive Block where
  | pending | bdr | lmu | cbu | tfs | xlu | sck | sts | flm | lkc | cnu
  deriving DecidableEq, Repr

/-- A block stands as it stood. -/
def Block.Same (b : Block) (s t : State) : Prop :=
  match b with
  | .pending => t.pending = s.pending
  | .bdr => t.bdr = s.bdr
  | .lmu => t.lmu = s.lmu
  | .cbu => t.cbu = s.cbu
  | .tfs => t.tfs = s.tfs
  | .xlu => t.xlu = s.xlu
  | .sck => t.sck = s.sck
  | .sts => t.sts = s.sts
  | .flm => t.flm = s.flm
  | .lkc => t.lkc = s.lkc
  | .cnu => t.cnu = s.cnu

/-- Every block but those named stands as it stood. -/
def KeepsAllBut (touched : List Block) (s t : State) : Prop := ∀ b, b ∉ touched → b.Same s t

/-! ## Steps -/

/-- A property that every step keeps, from whatever state has it. -/
def KeptByStep (p : State → Prop) : Prop := ∀ s t, p s → step s = .next t → p t

/-! ## Invariants -/

/-- R124: the counter is a second of day. -/
def ClockInRange (s : State) : Prop := s.sck.counter < 86400

/-- R27: the free count of a bank is the number of its Vacant lockers. -/
def Bank.CountsVacant (b : Bank) : Prop := b.freeCount = (b.lockers.filter (fun l => l.state = .vacant)).length

/-- R27, in every bank. -/
def FreeCountsHold (s : State) : Prop := ∀ b ∈ s.lmu.banks, b.CountsVacant

/-- R153, R156, R160: four orders, eight places, 32 notices, four watches. -/
def LinkWithinCapacity (s : State) : Prop :=
  s.lkc.orders.length ≤ 4 ∧ s.lkc.placesUsed ≤ 8 ∧ s.lkc.notices.length ≤ 32 ∧ s.lkc.watches.length ≤ 4

/-- R57: a call queue holds at most 32 entries. -/
def QueuesWithinCapacity (s : State) : Prop := ∀ g ∈ s.cbu.groups, g.queue.length ≤ 32

/-- R1: at most 2,048 records, of distinct numbers, in rising order of slot. -/
def BandTableGood (s : State) : Prop :=
  s.bdr.bands.length ≤ 2048 ∧ (s.bdr.bands.map (·.number)).Nodup ∧ (s.bdr.bands.map (·.slot)).Pairwise (· < ·)

/-- R82, R167: the standby bank is 142 bytes, the staging area 346. -/
def ImagesGood (s : State) : Prop := s.tfs.standby.length = 142 ∧ s.sts.staging.length = 346

/-- R67: every occupancy counter lies between −1,440 and 120; R53, R169: so that an acceptance loads no more than 120, no
current limit lies above 120. -/
def CountersInRange (s : State) : Prop :=
  (∀ c ∈ s.cbu.cabins, -1440 ≤ c.counter ∧ c.counter ≤ 120) ∧ ∀ g ∈ s.cbu.groups, g.currentLimit ≤ 120

/-- R137: no visit has more than four polls, and none goes on after its fourth. -/
def VisitWithinFour (s : State) : Prop :=
  ∀ v, s.flm.visit = some v → v.polls ≤ 4 ∧ (v.again = true → v.polls < 4)

/-- R24, R52, R104, R136: the tables hold an entry for each thing the committed site table configures, and none in the
Unconfigured part state, which has no site table; every station's image holds the entries of its kind (R138). -/
def TablesMatchSite (s : State) : Prop :=
  s.lmu.banks.map (fun b => b.lockers.length) = s.table.banks.map (·.doors)
    ∧ s.cbu.cabins.length = s.table.cabins.length ∧ s.cbu.groups.length = s.table.groups.length
    ∧ s.xlu.lanes.length = s.table.lanes.length
    ∧ s.flm.stations.map (fun st => (st.addr, st.image.map (·.key)))
        = (freshStations s.table).map (fun st => (st.addr, st.image.map (·.key)))

end Sys2Proof.Machine
end

