-- ==== Sys2Proof/WellFormed.lean ====
section
/-!
DEFINITION. Well-formed commands: those whose operands the spec's event or frame can carry. A command that is not
well-formed stands for no event of the part.
-/

namespace Sys2Proof

/-- The body of an order: 1 to 248 bytes (spec 11 2.01). -/
def Instr.bodyWf (body : List Byte) : Bool := 1 ≤ body.length && body.length ≤ 248

/-- A body whose byte at an offset is not a value, or whose length is not the order's: the direction of a row (R40, R71). -/
def Instr.directionWf (body : List Byte) (length offset other : Nat) : Bool :=
  !(body.length = length && Machine.byteAt body offset = other)

/-- A desired entry of a station that can hold a timer (R138): a bank's or a cabin's bolt, a lane's gate. -/
def Instr.timedWf (station : Nat) (entry : TimedEntry) : Bool :=
  match entry with
  | .bolt d => 1 ≤ station && ((station ≤ 32 && d < 24) || (33 ≤ station && station ≤ 80 && d = 0))
  | .gate => 85 ≤ station && station ≤ 88

/-- The report of a status read has no more doors than a lock bank can have (spec 08 1.03). -/
def Instr.replyWf (reply : PollReply) : Bool :=
  match reply.status with
  | some (.lockBank doors) => doors.length ≤ 24
  | _ => true

/-- A command is well-formed. -/
def Instr.wf (i : Instr) : Bool :=
  match i with
  | .coldReset _ => true
  | .frameReceived bytes => Machine.isFrame bytes
  | .frameLengthOutOfRange length => length.toNat < 3 || 250 < length.toNat
  | .byteWithoutStopBit => true
  | .interByteGap => true
  | .lineBreak => true
  | .transmissionEnd => true
  | .noticeHoldAsserted => true
  | .noticeHoldNegated => true
  | .unknownOrder kind _ body => !Machine.namesOrder kind && bodyWf body
  | .issueBand _ body => bodyWf body
  | .barBand _ body => bodyWf body
  | .replaceBand _ body => bodyWf body
  | .forgetBand _ body => bodyWf body
  | .readBand _ body => bodyWf body
  | .listBands _ body => bodyWf body
  | .releaseLocker _ body => bodyWf body
  | .clearForced _ body => bodyWf body
  | .lockerServiceOut _ body => bodyWf body && directionWf body 3 2 1
  | .lockerServiceIn _ body => bodyWf body && directionWf body 3 2 0
  | .resetUseCount _ body => bodyWf body
  | .lockerWindowLoad _ body => bodyWf body
  | .readLocker _ body => bodyWf body
  | .readBank _ body => bodyWf body
  | .cabinAssign _ body => bodyWf body
  | .setCabinLimit _ body => bodyWf body
  | .cleaned _ body => bodyWf body
  | .cabinServiceOut _ body => bodyWf body && directionWf body 2 1 1
  | .cabinServiceIn _ body => bodyWf body && directionWf body 2 1 0
  | .readCabin _ body => bodyWf body
  | .readQueue _ body => bodyWf body
  | .tariffLoad _ body => bodyWf body
  | .tariffCommit _ body => bodyWf body
  | .readTariff _ body => bodyWf body
  | .quotePreview _ body => bodyWf body
  | .paid _ body => bodyWf body
  | .cancelQuote _ body => bodyWf body
  | .readLane _ body => bodyWf body
  | .setClock _ body => bodyWf body
  | .adjustClock _ body => bodyWf body
  | .readClock _ body => bodyWf body
  | .openDay _ body => bodyWf body
  | .closeDay _ body => bodyWf body
  | .purge _ body => bodyWf body
  | .readStation _ body => bodyWf body
  | .readConditions _ body => bodyWf body
  | .setNoticeMask _ body => bodyWf body
  | .identify _ body => bodyWf body
  | .reset _ body => bodyWf body
  | .warmReset => true
  | .watch _ body => bodyWf body
  | .cancelWatch _ body => bodyWf body
  | .siteLoad _ body => bodyWf body
  | .siteCommit _ body => bodyWf body
  | .minuteBoundary => true
  | .midnightRollover => true
  | .openingExpiry locker => locker < 768
  | .offerExpiry cabin => cabin < 48
  | .entryExpiry cabin => cabin < 48
  | .cleaningExpiry cabin => cabin < 48
  | .abandonment cabin => cabin < 48
  | .quoteExpiry lane => lane < 4
  | .passExpiry lane => lane < 4
  | .watchExpiry _ => true
  | .desiredEntryExpiry station entry => timedWf station entry
  | .poll => true
  | .pollAnswer reply => replyWf reply
  | .missedAnswer _ => true
  | .startByteReceived => true
  | .lineReturnToMark => true
  | .storeWriteEnd _ => true

end Sys2Proof
end

