-- ==== Sys2Proof/Certificates/Slice0/Obligations.lean ====
section
/-!
DEFINITION. The statements for the provers. A statement about an order's command takes the order from the head of the
buffer, or from an empty buffer, where the command stands for the order's arrival too: that second form is the model's choice
(log entry 3). Its next state is built on `popOrder s`, the state that the order has left.
-/

open Sys2Proof Sys2Proof.Machine

/-! ## Steps -/

/-- The step takes the command at the front of the queue and runs it with the queue's rest. The queue and its step are the
model's choice (log entry 1): the spec gives the acts, each whole, and no queue. -/
def Obligations.StepRunsFrontCommand : Prop :=
  ∀ (c : Instr) (rest : List Instr) (s : State), step { s with pending := c :: rest } = exec c { s with pending := rest }

/-- Every command, with whatever operands and in whatever state, answers a next state, and leaves the queue alone: no
command stops the part. That a command which cannot occur in the state changes nothing (log entries 3, 6 and 27), and the
queue itself (log entry 1), are the model's choices; of a command's own effect this says nothing. -/
def Obligations.EveryCommandCompletes : Prop :=
  ∀ (c : Instr) (s : State), ∃ t, exec c s = .next t ∧ t.pending = s.pending

/-- On an empty queue one second passes: the counter advances by one and runs from 86,399 to 0 (R124). MINUTE_BOUNDARY
brings the clock to the first second of the next minute, MIDNIGHT_ROLLOVER to second 0 of a Closed day whose wrapped flag is
yes where band records exist (R126, R133). That a step on an empty queue is a second, and that the two commands run the
clock there, are the model's choices (log entries 1 and 2). At the last second of a minute the second that passes takes what
is due and then hands the boundary to the cabin unit and the tariff store (R126 (a)). The order of the acts of one second,
the timers due, then the day logic, the occupancy count and the swap, is the model's choice (log entry 7): R126 and R133 say
that these acts need no order. The cabin unit counts every cabin Occupied, or remembering it: its counter falls by one and
stops at −1,440; where it reaches 0 the overstay flag becomes yes, the CabinOverstay condition is set, and an Occupied
cabin's bolt, lamp and display are written (R56, R67; the bolt's value: DEDUCED, log entry 43); every other cabin, and
everything where no counter reaches 0 but the counters, stands. -/
def Obligations.SecondsAndBoundariesPass : Prop :=
  (∀ s : State, s.pending = [] → ClockInRange s →
    ∃ t, step s = .next t ∧ t.sck.counter = (s.sck.counter + 1) % 86400 ∧ t.sck.clockValid = s.sck.clockValid
      ∧ t.sts = s.sts ∧ t.pending = [])
  ∧ (∀ s : State, ClockInRange s →
    (∃ t, exec .minuteBoundary s = .next t ∧ t.sck.counter = (s.sck.counter / 60 + 1) * 60 % 86400
      ∧ t.sck.clockValid = s.sck.clockValid ∧ t.sts = s.sts)
    ∧ (∃ t, exec .midnightRollover s = .next t ∧ t.sck.counter = 0 ∧ t.sck.day = .closed
      ∧ t.sck.clockValid = s.sck.clockValid ∧ t.sck.openMinute = s.sck.openMinute
      ∧ (s.bdr.bands ≠ [] → t.sck.wrapped = true) ∧ t.sts = s.sts))
  ∧ (∀ s u : State, ClockInRange s → u = takeDue s →
    (s.sck.counter % 60 ≠ 59 →
      exec .minuteBoundary s = exec .minuteBoundary { u with sck := { u.sck with counter := s.sck.counter + 1 } }
      ∧ (s.pending = [] → step s = .next { u with sck := { u.sck with counter := s.sck.counter + 1 } }))
    ∧ (s.sck.counter % 60 = 59 → s.sck.counter ≠ 86399 →
      exec .minuteBoundary s
        = .next (swapTariff ((s.sck.counter + 1) / 60)
            (countOccupancy { u with sck := { u.sck with counter := s.sck.counter + 1 } })))
    ∧ (s.sck.counter = 86399 →
      exec .minuteBoundary s = .next (swapTariff 0 (countOccupancy (dayLogic { u with sck := { u.sck with counter := 0 } })))
      ∧ exec .midnightRollover s = exec .minuteBoundary s)
    ∧ (s.sck.counter % 60 = 59 → s.pending = [] → step s = exec .minuteBoundary s))
  ∧ (∀ s t : State, t = countOccupancy s →
    (∀ n c, s.cbu.find n = some c →
      t.cbu.find n = some
        (if c.acting = .occupied then
          { c with counter := if c.counter ≤ -1440 then c.counter else c.counter - 1
                   overstayFlag := decide (c.counter = 1) || c.overstayFlag }
        else c))
    ∧ t.cbu.groups = s.cbu.groups ∧ KeepsAllBut [.cbu, .flm, .lkc, .cnu] s t
    ∧ ((∀ c ∈ s.cbu.cabins, c.acting = .occupied → c.counter ≠ 1) → KeepsAllBut [.cbu] s t)
    ∧ (∀ n c, s.cbu.find n = some c → c.acting = .occupied → c.counter = 1 → t.cnu.bits.getLsbD 1 = true
      ∧ (∀ st, c.state = .occupied → s.flm.find (n + 33) = some st →
          ∃ st', t.flm.find (n + 33) = some st' ∧ st'.image.map (·.key) = st.image.map (·.key)
            ∧ ∀ e ∈ st'.image,
                (e.key = .lamp 0 → e.value = .lamp .fastFlash ∧ e.dirty = true)
                ∧ (e.key = .standing → e.value = .standing .blank ∧ e.dirty = true)
                ∧ (e.key = .bolt 0 → e.dirty = true
                    ∧ e.value = (match c.entryExpiry with | some x => .bolt (.unlockedUntil x) | none => .bolt .locked)))))

/-- The state right after reset (R124, R130, R165, R171): clock, day record, tables, tariff banks, link, conditions. -/
def Obligations.ResetLeavesANewPart : Prop :=
  State.reset.sck = { counter := 0, clockValid := false, day := .closed, openMinute := none, wrapped := false }
    ∧ State.reset.sts.site = none ∧ State.reset.sts.staging = List.replicate 346 0
    ∧ State.reset.tfs.live = none ∧ State.reset.tfs.standby = List.replicate 142 0 ∧ State.reset.tfs.load = .empty
    ∧ State.reset.bdr.bands = [] ∧ State.reset.bdr.parties = [] ∧ State.reset.bdr.masters = []
    ∧ State.reset.lmu.banks = [] ∧ State.reset.cbu.cabins = [] ∧ State.reset.xlu.lanes = [] ∧ State.reset.flm.stations = []
    ∧ State.reset.lkc.framer = .hunting ∧ State.reset.lkc.tx = .idle ∧ State.reset.lkc.orders = []
    ∧ State.reset.lkc.answers = [] ∧ State.reset.lkc.notices = [] ∧ State.reset.lkc.watches = []
    ∧ State.reset.lkc.dropped = false ∧ State.reset.cnu.bits = 0#10 ∧ State.reset.cnu.mask = 0x3FF#10

/-! ## Invariants that every step keeps -/

/-- R124: the counter is a second of day; R67: every occupancy counter lies between −1,440 and 120, where no current limit
lies above 120 (R53, R169), which every step keeps as well. -/
def Obligations.StepKeepsCounters : Prop := KeptByStep ClockInRange ∧ KeptByStep CountersInRange

/-- R27: the free count of every bank is the number of its Vacant lockers. -/
def Obligations.StepKeepsFreeCounts : Prop := KeptByStep FreeCountsHold

/-- R153, R156, R160: orders, answer places, notices and watches stay within what the link controller holds; R57, R58: a
call queue never holds more than 32 entries; R137: a visit has at most four polls. -/
def Obligations.StepKeepsCapacities : Prop :=
  KeptByStep LinkWithinCapacity ∧ KeptByStep QueuesWithinCapacity ∧ KeptByStep VisitWithinFour

/-- R1, R10, R13: at most 2,048 records, no band number twice, the records in rising order of slot. -/
def Obligations.StepKeepsBandTable : Prop := KeptByStep BandTableGood

/-- R83, R85, R167, R169: the standby bank stays 142 bytes long and the staging area 346. -/
def Obligations.StepKeepsImageLengths : Prop := KeptByStep ImagesGood

/-- R24, R52, R104, R136: the locker map, cabin table, groups, lanes and station table hold exactly what the committed
site table configures, and nothing in the Unconfigured part state; R138: every station's image holds the entries of its
kind, in the order of R139. -/
def Obligations.StepKeepsTablesOfSite : Prop := KeptByStep TablesMatchSite

/-- The state right after reset meets every one of these invariants. -/
def Obligations.ResetMeetsTheInvariants : Prop :=
  ClockInRange State.reset ∧ FreeCountsHold State.reset ∧ LinkWithinCapacity State.reset ∧ QueuesWithinCapacity State.reset
    ∧ BandTableGood State.reset ∧ ImagesGood State.reset ∧ CountersInRange State.reset ∧ TablesMatchSite State.reset
    ∧ VisitWithinFour State.reset

/-! ## Bytes (spec 11) -/

/-- A frame written from a kind, a tag and a body of 1 to 248 bytes by the layout of spec 11 2.01 is a frame, its check
matches, and it reads back as that kind, tag and body (R151, R173). Every answer and every notice is sent as such a frame:
kind 0x80 and the tag of its order, with result code and flags before the owner's body; kind 0x90 and tag 0, with class,
number, flags and second before the content (R174). That the bits of a notice's flags byte above Dropped are 0 is the
model's choice (log entry 46). The bytes of a body for which the spec gives no layout are free values (log entry 32). -/
def Obligations.FramesReadBack : Prop :=
  (∀ (kind tag : Byte) (body : List Byte), 1 ≤ body.length → body.length ≤ 248 →
    isFrame (frameBytes kind tag body) = true ∧ frameCheckMatches (frameBytes kind tag body) = true
      ∧ frameOrder (frameBytes kind tag body) = { kind := kind, tag := tag, body := body })
  ∧ (∀ a : Answer,
    isFrame a.frame = true ∧ frameCheckMatches a.frame = true
      ∧ frameOrder a.frame
          = { kind := 0x80, tag := a.tag
              body := BitVec.ofNat 8 a.code.code :: (if a.clamped then 1#8 else 0#8) :: a.body.bytes })
  ∧ (∀ (n : Notice) (dropped : Bool),
    isFrame (n.frame dropped) = true ∧ frameCheckMatches (n.frame dropped) = true
      ∧ frameOrder (n.frame dropped)
          = { kind := 0x90, tag := 0
              body := BitVec.ofNat 8 n.content.cls.code :: BitVec.ofNat 8 n.content.number
                :: (if dropped then 1#8 else 0#8) :: (u32Bytes n.second ++ n.content.bytes) })

/-- The body of every order reads back as the operands it was written from, for every value its fields admit, and is of a
length that the table of spec 11 3.01 gives for each order of its shape (R175); the one byte of an order without content
is not examined and may be any. -/
def Obligations.OrderBodiesReadBack : Prop :=
  (∀ a : IssueArgs, a.cls < 256 → a.paidMinutes < 65536 → a.choice < 65536 →
    issueArgs (issueBody a) = a ∧ OrderKind.issueBand.bodyLengthOk (issueBody a).length = true)
  ∧ (∀ b : BandNo, bandAt (bandBody b) 0 = b
    ∧ (∀ k ∈ [OrderKind.barBand, .forgetBand, .readBand, .quotePreview], k.bodyLengthOk (bandBody b).length = true))
  ∧ (∀ old new : BandNo, bandAt (replaceBody old new) 0 = old ∧ bandAt (replaceBody old new) 5 = new
    ∧ OrderKind.replaceBand.bodyLengthOk (replaceBody old new).length = true)
  ∧ (∀ f n : Nat, f < 256 → n < 65536 → byteAt (listBody f n) 0 = f ∧ u16At (listBody f n) 1 = n
    ∧ OrderKind.listBands.bodyLengthOk (listBody f n).length = true)
  ∧ (∀ n : Nat, n < 65536 → u16At (lockerBody n) 0 = n
    ∧ (∀ k ∈ [OrderKind.releaseLocker, .clearForced, .resetUseCount, .readLocker], k.bodyLengthOk (lockerBody n).length = true))
  ∧ (∀ n d : Nat, n < 65536 → d < 256 → u16At (lockerServiceBody n d) 0 = n ∧ byteAt (lockerServiceBody n d) 2 = d
    ∧ OrderKind.lockerService.bodyLengthOk (lockerServiceBody n d).length = true)
  ∧ (∀ a : WindowArgs, a.firstBank < 256 → a.lastBank < 256 → a.firstDoor < 256 → a.lastDoor < 256 → a.inService < 256 →
    a.retention < 256 → a.staffOnly < 256 →
    windowArgs (windowBody a) = a ∧ OrderKind.lockerWindowLoad.bodyLengthOk (windowBody a).length = true)
  ∧ (∀ a b : Nat, a < 256 → b < 256 → byteAt (pairBody a b) 0 = a ∧ byteAt (pairBody a b) 1 = b
    ∧ (∀ k ∈ [OrderKind.setCabinLimit, .readQueue, .cabinService], k.bodyLengthOk (pairBody a b).length = true))
  ∧ (∀ (b : BandNo) (g : Nat), g < 256 → bandAt (assignBody b g) 0 = b ∧ byteAt (assignBody b g) 5 = g
    ∧ OrderKind.cabinAssign.bodyLengthOk (assignBody b g).length = true)
  ∧ (∀ a : PaidArgs, a.lane < 256 → a.amount < 65536 →
    paidArgs (paidBody a) = a ∧ OrderKind.paid.bodyLengthOk (paidBody a).length = true)
  ∧ (∀ n : Nat, n < 4294967296 → u32At (setClockBody n) 0 = n ∧ OrderKind.setClock.bodyLengthOk (setClockBody n).length = true)
  ∧ (∀ k : Int, -32768 ≤ k → k < 32768 → s16At (adjustBody k) 0 = k
    ∧ OrderKind.adjustClock.bodyLengthOk (adjustBody k).length = true)
  ∧ (∀ n : Nat, n < 65536 → u16At (maskBody n) 0 = n ∧ OrderKind.setNoticeMask.bodyLengthOk (maskBody n).length = true)
  ∧ (∀ a : WatchArgs, a.kind < 256 → a.number < 65536 → a.polarity < 256 → a.limit < 65536 → (∀ c ∈ a.states, c < 256) →
    a.states.length ≤ 8 → watchArgs (watchBody a) = a ∧ OrderKind.watch.bodyLengthOk (watchBody a).length = true)
  ∧ (∀ (n : Nat) (seg : List Byte), n < 256 → seg.length ≤ 247 →
    byteAt (tariffLoadBody n seg) 0 = n ∧ (tariffLoadBody n seg).drop 1 = seg
      ∧ OrderKind.tariffLoad.bodyLengthOk (tariffLoadBody n seg).length = true)
  ∧ (∀ (n : Nat) (seg : List Byte), n < 65536 → seg.length ≤ 246 →
    u16At (siteLoadBody n seg) 0 = n ∧ (siteLoadBody n seg).drop 2 = seg
      ∧ OrderKind.siteLoad.bodyLengthOk (siteLoadBody n seg).length = true)
  ∧ (∀ n : Nat, n < 256 → byteAt (byteBody n) 0 = n
    ∧ (∀ k ∈ [OrderKind.readBank, .cleaned, .readCabin, .readTariff, .cancelQuote, .readLane, .readStation, .cancelWatch],
        k.bodyLengthOk (byteBody n).length = true))
  ∧ (∀ tag : Byte, (byteBody tag.toNat).getD 0 0 = tag)
  ∧ (∀ x : Byte, ∀ k ∈ [OrderKind.identify, .reset, .readConditions, .readClock, .openDay, .closeDay, .purge, .tariffCommit,
      .siteCommit], k.bodyLengthOk ([x] : List Byte).length = true)

/-! ## The site link (R151 to R157) -/

/-- A complete frame whose check matches goes to the order buffer, is answered Overrun while the buffer holds four, or is
discarded for want of an answer place (R153); one whose check differs is discarded (R151). A frame is taken in Hunting too,
since the command carries its start byte: DEDUCED (log entry 5). The frame waits in the buffer until its own command
dispatches it, where R154 has the head dispatched while a place is free: the model's choice (log entry 4). -/
def Obligations.FrameReceivedTaken : Prop :=
  ∀ (bytes : List Byte) (s : State), s.lkc.framer ≠ .awaitingMark → isFrame bytes = true →
    (frameCheckMatches bytes = true → s.lkc.orders.length < 4 →
      exec (.frameReceived bytes) s
        = .next { s with lkc := { s.lkc with framer := .hunting, orders := s.lkc.orders ++ [frameOrder bytes] } })
    ∧ (frameCheckMatches bytes = true → 4 ≤ s.lkc.orders.length → s.lkc.placesUsed < 8 →
      exec (.frameReceived bytes) s
        = .next (placeAnswer (plainAnswer (frameOrder bytes).tag .overrun) (setFramer .hunting s)))
    ∧ (frameCheckMatches bytes = true → 4 ≤ s.lkc.orders.length → 8 ≤ s.lkc.placesUsed →
      exec (.frameReceived bytes) s = .next (reportDiscard .noPlace (setFramer .hunting s)))
    ∧ (frameCheckMatches bytes = false →
      exec (.frameReceived bytes) s = .next (reportDiscard .check (setFramer .hunting s)))

/-- A frame discarded by the receive framer, or for want of an answer place, is reported under the Link class (R157). The
Link condition is set at every discard. While a Link notice waits, its count rises by one, stopping at 255, its cause is
kept and no notice is offered; else, where the class is enabled, a Link notice with the cause, the second and a count of 1
is offered, and dropped with the Dropped flag set where the queue is full. At most one Link notice waits. A notice whose
transmission begins leaves the queue. In Hunting no frame stands to be discarded, so that there a length, a stop bit or a
gap changes nothing (log entry 6), while a whole frame is taken in Hunting too (log entry 5); the causes are those of R151
and R153. A break is not reported under the class. -/
def Obligations.DiscardReportedUnderLink : Prop :=
  (∀ (cause : DiscardCause) (s : State),
    (reportDiscard cause s).cnu.bits = s.cnu.bits ||| 0x80#10
    ∧ KeepsAllBut [.lkc, .cnu] s (reportDiscard cause s)
    ∧ ((∃ n ∈ s.lkc.notices, n.isLink = true) →
      (reportDiscard cause s).lkc = { s.lkc with notices := s.lkc.notices.map Notice.countDiscard })
    ∧ ((∀ n ∈ s.lkc.notices, n.isLink = false) → s.cnu.mask.getLsbD 7 = true →
      (reportDiscard cause s).lkc = s.lkc.offer { content := .link cause s.now 1, second := s.now }
      ∧ (32 ≤ s.lkc.notices.length → (reportDiscard cause s).lkc = { s.lkc with dropped := true })
      ∧ (s.lkc.notices.length < 32 → s.lkc.tx ≠ .idle →
        (reportDiscard cause s).lkc.notices = s.lkc.notices ++ [{ content := .link cause s.now 1, second := s.now }]))
    ∧ ((∀ n ∈ s.lkc.notices, n.isLink = false) → s.cnu.mask.getLsbD 7 = false → (reportDiscard cause s).lkc = s.lkc)
    ∧ ((s.lkc.notices.filter Notice.isLink).length ≤ 1 →
      ((reportDiscard cause s).lkc.notices.filter Notice.isLink).length ≤ 1))
  ∧ (∀ (c : DiscardCause) (x k second : Nat),
    ({ content := .link c x k, second := second } : Notice).countDiscard
      = { content := .link c x (min (k + 1) 255), second := second })
  ∧ (∀ (l : LinkController) (n : Notice) (rest : List Notice), l.answers = [] → l.hold = false → l.notices = n :: rest →
    l.choose.tx = .notice n l.dropped ∧ l.choose.notices = rest)
  ∧ (∀ (bytes : List Byte) (s : State), s.lkc.framer ≠ .awaitingMark → isFrame bytes = true →
    (frameCheckMatches bytes = false →
      exec (.frameReceived bytes) s = .next (reportDiscard .check (setFramer .hunting s)))
    ∧ (frameCheckMatches bytes = true → 4 ≤ s.lkc.orders.length → 8 ≤ s.lkc.placesUsed →
      exec (.frameReceived bytes) s = .next (reportDiscard .noPlace (setFramer .hunting s))))
  ∧ (∀ s : State,
    (s.lkc.framer = .inFrame →
      (∀ n : Byte, n.toNat < 3 ∨ 250 < n.toNat →
        exec (.frameLengthOutOfRange n) s = .next (reportDiscard .length (setFramer .hunting s)))
      ∧ exec .byteWithoutStopBit s = .next (reportDiscard .check (setFramer .hunting s))
      ∧ exec .interByteGap s = .next (reportDiscard .gap (setFramer .hunting s)))
    ∧ (s.lkc.framer = .hunting →
      (∀ n : Byte, exec (.frameLengthOutOfRange n) s = .next s) ∧ exec .byteWithoutStopBit s = .next s
      ∧ exec .interByteGap s = .next s))
  ∧ (∀ s : State, ∃ t, exec .lineBreak s = .next t ∧ t.cnu.bits.getLsbD 7 = s.cnu.bits.getLsbD 7
    ∧ (t.lkc.notices.filter Notice.isLink).length ≤ (s.lkc.notices.filter Notice.isLink).length)

/-- The start byte takes the framer from Hunting In frame, and the return to mark after a break takes it to Hunting (R151,
R152). A line break empties the order buffer, the answer queue and the watches, sets the DayEvent condition and keeps the
other blocks; a break lasting on is one break; a break that discards the answer to RESET brings the warm reset (R152). -/
def Obligations.LineFollowedAndBreakResets : Prop :=
  (∀ s : State,
    (s.lkc.framer = .hunting → exec .startByteReceived s = .next { s with lkc := { s.lkc with framer := .inFrame } })
    ∧ (s.lkc.framer = .awaitingMark → exec .lineReturnToMark s = .next { s with lkc := { s.lkc with framer := .hunting } }))
  ∧ (∀ s : State,
    (s.lkc.framer ≠ .awaitingMark →
      ∃ t, exec .lineBreak s = .next t ∧ t.lkc.framer = .awaitingMark ∧ t.lkc.orders = [] ∧ t.lkc.answers = []
        ∧ t.lkc.watches = [] ∧ t.lkc.tx ≠ .answer ∧ t.cnu.bits.getLsbD 6 = true ∧ t.cnu.mask = s.cnu.mask
        ∧ (s.lkc.resetPhase ≠ .answering → KeepsAllBut [.lkc, .cnu] s t ∧ t.lkc.resetPhase = s.lkc.resetPhase)
        ∧ (s.lkc.resetPhase = .answering → t.lkc.resetPhase = .none ∧ KeepsAllBut [.bdr, .cbu, .xlu, .flm, .lkc, .cnu] s t))
    ∧ (s.lkc.framer = .awaitingMark → exec .lineBreak s = .next s))

/-- RESET is answered Done, and from then on no order is dispatched (R152). The warm reset (R152, R172): the link controller
is emptied, the condition DayEvent set, the locker map, tariff store, clock, day record and site table store kept, no poll
is in flight, and every station not Lost has its misses at 0 and a status read due. No lane holds a quote any more, and
nothing but the link controller's state and the conditions changes in an Unconfigured part. The owners' part: every standing
offer is withdrawn, each without CallMissed, its band restored at the head of its queue with its ticket and miss count, and
then no cabin is Offered (R22 (a), R78); the groups allocate in the same act, after which no cabin of a group is Free while
its queue holds an entry, and a band whose offer alone stood is offered its cabin again with a new expiry (R62, R78, R172;
that R22's end stands before the allocation is DEDUCED, log entry 39). A restore at the head of a full queue removes the
band at its tail, whose link becomes absent (R58 (c)); at a warm reset without CallMissed, which is DEDUCED (log entry 9).
Lane by lane, a quote's band goes back to In (R22 (b)). -/
def Obligations.ResetAndWarmReset : Prop :=
  (∀ (tag : Byte) (body : List Byte) (s : State), Taken .reset tag body s →
    ∃ t, exec (.reset tag body) s = .next t ∧ Answered t (doneAnswer tag .reset) ∧ t.lkc.resetPhase = .answering
      ∧ KeepsAllBut [.lkc] s t ∧ (∀ o, ¬Dispatched o t))
  ∧ (∀ s : State, s.lkc.resetPhase = .due → s.configured = true →
    ∃ t, exec .warmReset s = .next t ∧ t.lkc.orders = [] ∧ t.lkc.answers = [] ∧ t.lkc.watches = []
      ∧ t.lkc.resetPhase = .none ∧ t.cnu.bits.getLsbD 6 = true ∧ t.cnu.mask = s.cnu.mask
      ∧ KeepsAllBut [.bdr, .cbu, .xlu, .flm, .lkc, .cnu] s t
      ∧ t.bdr.parties = s.bdr.parties ∧ t.bdr.masters = s.bdr.masters
      ∧ t.bdr.bands.map (·.number) = s.bdr.bands.map (·.number)
      ∧ t.flm.inFlight = none ∧ t.flm.visit = none
      ∧ (∀ st ∈ t.flm.stations, st.health ≠ .lost → st.missCount = 0 ∧ st.statusDue.isSome = true)
      ∧ (∀ e ∈ t.xlu.lanes, e.acting ≠ .holding)
      ∧ (∀ g, t.cbu.queue g = [] ∨ t.cbu.lowestFree g = none)
      ∧ t.cbu = (overGroups allocate (restoreOffers (linkReset s))).cbu
      ∧ t.bdr = (overLanes unwindQuote (overGroups allocate (restoreOffers (linkReset s)))).bdr
      ∧ t.xlu = (overLanes unwindQuote (overGroups allocate (restoreOffers (linkReset s)))).xlu)
  ∧ (∀ s : State, s.lkc.resetPhase = .due → s.configured = false →
    ∃ t, exec .warmReset s = .next t ∧ t.lkc.orders = [] ∧ t.lkc.answers = [] ∧ t.lkc.watches = []
      ∧ t.lkc.resetPhase = .none ∧ t.cnu.bits.getLsbD 6 = true ∧ t.cnu.mask = s.cnu.mask ∧ KeepsAllBut [.lkc, .cnu] s t)
  ∧ (∀ s : State, (∀ c ∈ s.cbu.cabins, c.acting = .offered → c.band ≠ none ∧ c.group < s.cbu.groups.length) →
    ∀ c ∈ (restoreOffers s).cbu.cabins, c.acting ≠ .offered)
  ∧ (∀ (g : Nat) (s : State), standingOffers g s = [] → unwindGroup g s = s)
  ∧ (∀ (g x n : Nat) (s : State), standingOffers g s = [(x, n)] → unwindGroup g s = unwindOffer n s)
  ∧ (∀ (n : Nat) (c : Cabin) (b : BandNo) (r : BandRecord) (ticket join misses : Nat) (s : State),
    s.lkc.resetPhase = .due → s.configured = true → s.cbu.find n = some c → c.state = .offered → c.band = some b →
    c.ticketShown = some ticket → c.offerJoin = some join → c.offerMisses = some misses → s.bdr.find b = some r →
    c.group < s.cbu.groups.length → (s.cbu.queue c.group).length < 32 →
    (∀ m k, s.cbu.find m = some k → k.acting = .offered → m = n) →
    (∀ g, s.cbu.queue g = [] ∨ s.cbu.lowestFree g = none) → s.cbu.lowestFree c.group = none →
    ∃ t r', exec .warmReset s = .next t
      ∧ t.cbu.find n = some
          { c with offerExpiry := some ((s.sck.counter + (groupSetting s c.group).offerWindow) % 86400) }
      ∧ t.cbu.queue c.group = s.cbu.queue c.group ∧ t.bdr.find b = some r' ∧ r'.link = some (.offered n))
  ∧ (∀ (n : Nat) (c : Cabin) (b : BandNo) (r : BandRecord) (ticket join misses : Nat) (s : State), s.cbu.find n = some c →
    c.acting = .offered → c.band = some b → c.ticketShown = some ticket → c.offerJoin = some join →
    c.offerMisses = some misses → s.bdr.find b = some r → c.group < s.cbu.groups.length →
    (s.cbu.queue c.group).length < 32 →
    (unwindOffer n s).cbu.find n = some
        ({ c with band := none, ticketShown := none, offerExpiry := none, offerMisses := none, offerJoin := none }.act .free)
      ∧ (unwindOffer n s).cbu.queue c.group
          = { band := b, ticket := ticket, join := join, misses := misses } :: s.cbu.queue c.group
      ∧ (unwindOffer n s).bdr.find b = some { r with link := some (.queued c.group ticket) }
      ∧ KeepsAllBut [.bdr, .cbu, .flm, .lkc] s (unwindOffer n s))
  ∧ (∀ (l : Nat) (e : Lane) (b : BandNo) (r : BandRecord) (s : State), s.xlu.find l = some e → e.acting = .holding →
    e.band = some b → s.bdr.find b = some r →
    (unwindQuote l s).xlu.find l = some ({ e with band := none, quoteAmount := none, quoteExpiry := none }.act .idle)
      ∧ (unwindQuote l s).bdr.find b = some { r with state := .inside, quote := none }
      ∧ KeepsAllBut [.bdr, .xlu, .flm, .lkc] s (unwindQuote l s))
  ∧ (∀ (n : Nat) (c : Cabin) (b : BandNo) (r rl : BandRecord) (last : QueueEntry) (ticket join misses : Nat) (s : State),
    s.cbu.find n = some c → c.acting = .offered → c.band = some b → c.ticketShown = some ticket → c.offerJoin = some join →
    c.offerMisses = some misses → s.bdr.find b = some r → 32 ≤ (s.cbu.queue c.group).length →
    (s.cbu.queue c.group).getLast? = some last → last.band ≠ b → s.bdr.find last.band = some rl →
    (unwindOffer n s).cbu.find n = some (c.unoffered.act .free)
      ∧ (unwindOffer n s).cbu.queue c.group
          = { band := b, ticket := ticket, join := join, misses := misses } :: (s.cbu.queue c.group).dropLast
      ∧ (unwindOffer n s).bdr.find b = some { r with link := some (.queued c.group ticket) }
      ∧ (unwindOffer n s).bdr.find last.band = some { rl with link := none }
      ∧ (∀ x, x ≠ b → x ≠ last.band → (unwindOffer n s).bdr.find x = s.bdr.find x)
      ∧ (unwindOffer n s).lkc.notices = s.lkc.notices ∧ KeepsAllBut [.bdr, .cbu, .flm, .lkc] s (unwindOffer n s))

/-- At the end of a frame the transmitter chooses: the oldest answer, else, with the hold line negated, the oldest notice,
which leaves its queue and carries the Dropped flag, else nothing; an answer's place is freed when it has been sent; an
answer placed while a notice is being sent is sent at its end, before any other notice (R155, R156). The end of RESET's
answer makes its warm reset due (R152). -/
def Obligations.TransmitterChooses : Prop :=
  ∀ s : State,
    (∀ a rest, s.lkc.tx = .answer → s.lkc.answers = a :: rest →
      ∃ t, exec .transmissionEnd s = .next t ∧ KeepsAllBut [.lkc] s t ∧ t.lkc.answers = rest
        ∧ t.lkc.resetPhase = (if s.lkc.resetPhase = .answering ∧ a.body = .reset then .due else s.lkc.resetPhase)
        ∧ (rest ≠ [] → t.lkc.tx = .answer ∧ t.lkc.notices = s.lkc.notices))
    ∧ (s.lkc.tx ≠ .idle → (s.lkc.tx = .answer → s.lkc.answers.length = 1) → (s.lkc.tx ≠ .answer → s.lkc.answers = []) →
      ∃ t, exec .transmissionEnd s = .next t ∧ KeepsAllBut [.lkc] s t ∧ t.lkc.answers = []
        ∧ (s.lkc.hold = true ∨ s.lkc.notices = [] → t.lkc.tx = .idle ∧ t.lkc.notices = s.lkc.notices)
        ∧ (∀ n rest, s.lkc.hold = false → s.lkc.notices = n :: rest →
          t.lkc.tx = .notice n s.lkc.dropped ∧ t.lkc.notices = rest ∧ t.lkc.dropped = false))
    ∧ (∀ n d, s.lkc.tx = .notice n d → s.lkc.answers ≠ [] →
      exec .transmissionEnd s = .next { s with lkc := { s.lkc with tx := .answer } })
    ∧ exec .noticeHoldAsserted s = .next { s with lkc := { s.lkc with hold := true } }
    ∧ (∀ n rest, s.lkc.tx = .idle → s.lkc.answers = [] → s.lkc.notices = n :: rest →
      exec .noticeHoldNegated s
        = .next { s with lkc := { s.lkc with hold := false, tx := .notice n s.lkc.dropped, notices := rest, dropped := false } })
    ∧ (s.lkc.tx ≠ .idle → exec .noticeHoldNegated s = .next { s with lkc := { s.lkc with hold := false } })

/-- A notice raised (R156): its condition is set whatever the mask; nothing more where its class is disabled; appended at
the tail while fewer than 32 are held; dropped with the Dropped flag set while 32 are held. -/
def Obligations.NoticeRaised : Prop :=
  ∀ (c : NoticeContent) (s : State),
    (raiseNotice c s).cnu = { s.cnu with bits := s.cnu.bits ||| (1#10 <<< c.cls.code) }
    ∧ KeepsAllBut [.lkc, .cnu] s (raiseNotice c s)
    ∧ (s.cnu.mask.getLsbD c.cls.code = false → (raiseNotice c s).lkc = s.lkc)
    ∧ (s.cnu.mask.getLsbD c.cls.code = true → 32 ≤ s.lkc.notices.length →
      (raiseNotice c s).lkc = { s.lkc with dropped := true })
    ∧ (s.cnu.mask.getLsbD c.cls.code = true → s.lkc.notices.length < 32 → s.lkc.tx ≠ .idle →
      (raiseNotice c s).lkc = { s.lkc with notices := s.lkc.notices ++ [{ content := c, second := s.now }] })

/-! ## Dispatch (R154) -/

/-- Orders refused at dispatch change nothing but the link controller's queues (R154 (a) to (c)): an unknown kind is
answered Unknown, a body of another length Malformed, and in the Unconfigured part state every order not taken there
NotReady. An order at the head of the buffer waits while no place of the answer queue is free, or while a RESET awaits its
warm reset (R154). -/
def Obligations.OrdersRefusedOrHeldAtDispatch : Prop :=
  ((∀ (kind tag : Byte) (body : List Byte) (s : State), namesOrder kind = false →
    Dispatched { kind := kind, tag := tag, body := body } s →
    exec (.unknownOrder kind tag body) s = .next (placeAnswer (plainAnswer tag .unknown) (popOrder s)))
  ∧ (∀ (i : Instr) (k : OrderKind) (tag : Byte) (body : List Byte) (s : State), orderFields i = some (k, tag, body) →
    Dispatched (orderFrame k tag body) s → k.bodyLengthOk body.length = false →
    exec i s = .next (placeAnswer (plainAnswer tag .malformed) (popOrder s)))
  ∧ (∀ (i : Instr) (k : OrderKind) (tag : Byte) (body : List Byte) (s : State), orderFields i = some (k, tag, body) →
    i.wf = true → Dispatched (orderFrame k tag body) s → k.bodyLengthOk body.length = true → s.configured = false →
    k.takenUnconfigured = false → exec i s = .next (placeAnswer (plainAnswer tag .notReady) (popOrder s))))
  ∧ (∀ (i : Instr) (k : OrderKind) (tag : Byte) (body : List Byte) (s : State), orderFields i = some (k, tag, body) →
    s.lkc.orders.head? = some (orderFrame k tag body) → 8 ≤ s.lkc.placesUsed ∨ s.lkc.resetPhase ≠ .none → exec i s = .next s)

/-! ## Band orders (R4, R10 to R18) -/

/-- ISSUE BAND that passes the checks of R10 creates one record, in the lowest free slot, In, with the minute as entry
minute and the paid minutes limited to 1,440; it joins the party its choice names; every other record stands (R1, R10,
R11). -/
def Obligations.IssueBandCreatesARecord : Prop :=
  ∀ (tag : Byte) (body : List Byte) (s : State) (party : Option Nat), Taken .issueBand tag body s → s.sck.day = .opened →
    invalidBand (issueArgs body).band = false → (issueArgs body).cls ≤ 7 →
    s.bdr.find (issueArgs body).band = none → s.bdr.master (issueArgs body).band = none → s.bdr.bands.length < 2048 →
    ((partyChoiceOf (issueArgs body).choice = .alone ∧ party = none)
      ∨ (partyChoiceOf (issueArgs body).choice = .new ∧ s.bdr.parties.length < 256 ∧ party = some s.bdr.freeParty)
      ∨ (∃ n p, partyChoiceOf (issueArgs body).choice = .join n ∧ s.bdr.party n = some p ∧ p.members.length < 6
          ∧ party = some n)) →
    ∃ t, exec (.issueBand tag body) s = .next t
      ∧ t.bdr.find (issueArgs body).band = some
          { slot := s.bdr.freeSlot, number := (issueArgs body).band, state := .inside, cls := (issueArgs body).cls,
            entryMinute := s.sck.counter / 60, paidMinutes := min (issueArgs body).paidMinutes 1440, party := party,
            lockers := [], link := none, overstay := 0, quote := none, replacedBy := none, lastPresentation := none }
      ∧ (∀ b, b ≠ (issueArgs body).band → t.bdr.find b = s.bdr.find b)
      ∧ t.bdr.bands.length = s.bdr.bands.length + 1 ∧ t.bdr.masters = s.bdr.masters
      ∧ (party = none → t.bdr.parties = s.bdr.parties)
      ∧ (∀ n q, partyChoiceOf (issueArgs body).choice = .join n → q ∈ s.bdr.parties → q.number = n →
          { q with members := q.members ++ [(issueArgs body).band] } ∈ t.bdr.parties)
      ∧ (partyChoiceOf (issueArgs body).choice = .new →
          { number := s.bdr.freeParty, members := [(issueArgs body).band] } ∈ t.bdr.parties)
      ∧ Answered t { tag := tag, code := .done, clamped := decide (1440 < (issueArgs body).paidMinutes), body := .issued party }
      ∧ KeepsAllBut [.bdr, .lkc] s t

/-- BAR BAND (R12): a band In becomes Barred with everything else of its record kept but an offered or queued link; a
Barred band is answered Done and kept; a Quoted band is refused Settling. A band Offered a cabin loses it: the offer is
withdrawn without CallMissed, and the cabin is offered to the head of the queue where a band waits (R12 (b), R66, R74).
FORGET BAND frees a Barred record that holds
nothing (R15, R16), the band leaving its party first (R19); a record not Barred is refused Invalid, and one that still
holds lockers or a link Bound. -/
def Obligations.BarAndForgetBand : Prop :=
  (∀ (tag : Byte) (body : List Byte) (s : State) (r : BandRecord), Taken .barBand tag body s →
    s.bdr.find (bandAt body 0) = some r →
    (r.state = .inside →
      ∃ t, exec (.barBand tag body) s = .next t ∧ Answered t (doneAnswer tag .none)
        ∧ (t.bdr.find (bandAt body 0)).map (fun x => { x with link := none })
            = some { r with state := .barred, link := none }
        ∧ KeepsAllBut [.bdr, .cbu, .flm, .lkc] s t
        ∧ ((r.link = none ∨ ∃ c, r.link = some (.holding c)) →
            t.bdr.find (bandAt body 0) = some { r with state := .barred } ∧ KeepsAllBut [.bdr, .lkc] s t)
        ∧ (∀ g n, r.link = some (.queued g n) →
            t.bdr.find (bandAt body 0) = some { r with state := .barred, link := none }
            ∧ t.cbu.queue g = (s.cbu.queue g).filter (fun e => e.band ≠ bandAt body 0))
        ∧ (∀ n c, r.link = some (.offered n) → s.cbu.find n = some c → s.cbu.queue c.group = [] →
            t.bdr.find (bandAt body 0) = some { r with state := .barred, link := none }
            ∧ t.cbu.find n = some (c.unoffered.act .free) ∧ (∀ m, m ≠ n → t.cbu.find m = s.cbu.find m)
            ∧ t.cbu.groups = s.cbu.groups)
        ∧ (∀ n c e rest re, r.link = some (.offered n) → s.cbu.find n = some c → c.state = .offered →
            s.cbu.queue c.group = e :: rest → s.cbu.lowestFree c.group = none → e.band ≠ bandAt body 0 →
            s.bdr.find e.band = some re →
            t.bdr.find (bandAt body 0) = some { r with state := .barred, link := none }
            ∧ t.cbu.find n = some (c.offeredTo e ((s.sck.counter + (groupSetting s c.group).offerWindow) % 86400))
            ∧ (∀ m, m ≠ n → t.cbu.find m = s.cbu.find m) ∧ t.cbu.queue c.group = rest
            ∧ t.bdr.find e.band = some { re with link := some (.offered n) }))
    ∧ (r.state = .barred → exec (.barBand tag body) s = .next (placeAnswer (doneAnswer tag .none) (popOrder s)))
    ∧ (r.state = .quoted → exec (.barBand tag body) s = .next (placeAnswer (plainAnswer tag .settling) (popOrder s))))
  ∧ (∀ (tag : Byte) (body : List Byte) (s : State) (r : BandRecord), Taken .forgetBand tag body s →
    s.bdr.find (bandAt body 0) = some r →
    (r.state = .barred → r.lockers = [] → r.link = none →
      ∃ t, exec (.forgetBand tag body) s = .next t ∧ Answered t (doneAnswer tag .none)
        ∧ t.bdr.find (bandAt body 0) = none ∧ (∀ b, b ≠ bandAt body 0 → t.bdr.find b = s.bdr.find b)
        ∧ t.bdr.masters = s.bdr.masters ∧ (r.party = none → t.bdr.parties = s.bdr.parties)
        ∧ t.bdr.parties = partiesWithout (bandAt body 0) r.party s.bdr.parties
        ∧ KeepsAllBut [.bdr, .lkc] s t)
    ∧ (r.state ≠ .barred → exec (.forgetBand tag body) s = .next (placeAnswer (plainAnswer tag .invalid) (popOrder s)))
    ∧ (r.state = .barred → (r.lockers ≠ [] ∨ r.link ≠ none) →
      exec (.forgetBand tag body) s = .next (placeAnswer (plainAnswer tag .bound) (popOrder s))))

/-- REPLACE BAND that passes the checks of R13 gives the new band the old one's class, minutes, party place, lockers, link
and overstay, and leaves the old record Barred and naming the new band (R14). Every locker of the list names the new band;
the new band stands in the old one's place in the member list; the queue entry, or the Offered or Occupied cabin, of the
old band's link names the new band and is otherwise as it was. -/
def Obligations.ReplaceBandMovesTheTenancy : Prop :=
  ∀ (tag : Byte) (body : List Byte) (s : State) (r : BandRecord), Taken .replaceBand tag body s →
    s.bdr.find (bandAt body 0) = some r → r.state ≠ .quoted → ¬(r.state = .barred ∧ r.replacedBy.isSome = true) →
    invalidBand (bandAt body 5) = false → s.bdr.find (bandAt body 5) = none → s.bdr.master (bandAt body 5) = none →
    s.bdr.bands.length < 2048 →
    ∃ t, exec (.replaceBand tag body) s = .next t ∧ Answered t (doneAnswer tag .none)
      ∧ t.bdr.find (bandAt body 5) = some
          { r with slot := s.bdr.freeSlot, number := bandAt body 5, state := .inside, quote := none, replacedBy := none,
                   lastPresentation := none }
      ∧ t.bdr.find (bandAt body 0) = some
          { r with state := .barred, replacedBy := some (bandAt body 5), party := none, lockers := [], link := none,
                   overstay := 0 }
      ∧ (∀ b, b ≠ bandAt body 0 → b ≠ bandAt body 5 → t.bdr.find b = s.bdr.find b)
      ∧ t.bdr.masters = s.bdr.masters
      ∧ t.bdr.parties = s.bdr.parties.map (fun p =>
          if r.party = some p.number then
            { p with members := p.members.map (fun m => if m = bandAt body 0 then bandAt body 5 else m) }
          else p)
      ∧ (∀ n l, n ∈ r.lockers → s.lmu.find n = some l → t.lmu.find n = some { l with holder := some (bandAt body 5) })
      ∧ (∀ n, n ∉ r.lockers → t.lmu.find n = s.lmu.find n)
      ∧ (r.link = none → t.cbu = s.cbu)
      ∧ (∀ g n, r.link = some (.queued g n) →
          t.cbu.cabins = s.cbu.cabins ∧ (∀ k, k ≠ g → t.cbu.group k = s.cbu.group k)
          ∧ t.cbu.queue g
              = (s.cbu.queue g).map (fun e => if e.band = bandAt body 0 then { e with band := bandAt body 5 } else e))
      ∧ (∀ n c, r.link = some (.offered n) ∨ r.link = some (.holding n) → s.cbu.find n = some c →
          t.cbu.find n = some { c with band := some (bandAt body 5) } ∧ t.cbu.groups = s.cbu.groups
          ∧ (∀ m, m ≠ n → t.cbu.find m = s.cbu.find m))
      ∧ KeepsAllBut [.bdr, .lmu, .cbu, .lkc] s t

/-- R4: a presentation of band number 0 or 2^40−1 has no effect, at any station; the same numbers are refused Range as the
band of ISSUE BAND and as the new band of REPLACE BAND, where the checks that R10 and R13 set before it are passed. -/
def Obligations.InvalidBandNumbersRefused : Prop :=
  ∀ (b : BandNo), b = 0#40 ∨ b = 0xFFFFFFFFFF#40 →
    (∀ (addr p : Nat) (s : State), routeEvent addr (.bandPresented p b) s = s)
    ∧ (∀ (tag : Byte) (body : List Byte) (s : State), TakenFromBuffer .issueBand tag body s → bandAt body 0 = b →
      s.sck.day = .opened → exec (.issueBand tag body) s = .next (placeAnswer (plainAnswer tag .range) (popOrder s)))
    ∧ (∀ (tag : Byte) (body : List Byte) (s : State) (r : BandRecord), TakenFromBuffer .replaceBand tag body s →
      bandAt body 5 = b → s.bdr.find (bandAt body 0) = some r → r.state ≠ .quoted →
      ¬(r.state = .barred ∧ r.replacedBy.isSome = true) →
      exec (.replaceBand tag body) s = .next (placeAnswer (plainAnswer tag .range) (popOrder s)))

/-- The read orders of the band table, the locker map and the cabin unit report and change nothing. READ BAND; LIST BANDS
names up to 16 records from the start slot on that match the filter, the index to go on from, and the records in use (R17,
R18); READ LOCKER and READ BANK (R27, R44); READ CABIN and READ QUEUE, with up to 16 entries from its start position
(R73). That READ BAND, READ LOCKER and READ CABIN hold State's whole record is the model's choice (log entry 45). -/
def Obligations.TableReadsReport : Prop :=
  ((∀ (tag : Byte) (body : List Byte) (s : State) (r : BandRecord), Taken .readBand tag body s →
    s.bdr.find (bandAt body 0) = some r →
    exec (.readBand tag body) s = .next (placeAnswer (doneAnswer tag (.bandRecord r (partyPlace s.bdr r))) (popOrder s)))
  ∧ (∀ (tag : Byte) (body : List Byte) (s : State) (reported : List BandRecord), Taken .listBands tag body s →
    byteAt body 0 ≤ 3 → u16At body 1 ≤ 2047 →
    reported = (s.bdr.bands.filter
      (fun r => u16At body 1 ≤ r.slot && (byteAt body 0 = 0 || r.state.code + 1 = byteAt body 0))).take 16 →
    exec (.listBands tag body) s
      = .next (placeAnswer
          (doneAnswer tag
            (.bandList (reported.map (·.number))
              (if reported.length < 16 then 2048 else ((reported.getLast?.map (·.slot)).getD 2047) + 1) s.bdr.bands.length))
          (popOrder s))))
  ∧ ((∀ (tag : Byte) (body : List Byte) (s : State) (l : Locker), Taken .readLocker tag body s →
    s.lmu.find (u16At body 0) = some l →
    exec (.readLocker tag body) s = .next (placeAnswer (doneAnswer tag (.locker (u16At body 0) l)) (popOrder s)))
  ∧ (∀ (tag : Byte) (body : List Byte) (s : State) (k : Bank) (b : BankSetting), Taken .readBank tag body s →
    s.lmu.banks[byteAt body 0]? = some k → s.table.banks[byteAt body 0]? = some b →
    exec (.readBank tag body) s
      = .next (placeAnswer
          (doneAnswer tag
            (.bank b.doors b.mirrored b.retention k.freeCount
              ([.vacant, .held, .opening, .opened, .forced, .unreachable, .orphaned, .outOfService].map
                (fun st => (k.lockers.filter (fun l => l.state = st)).length))
              (s.flm.health (byteAt body 0 + 1))))
          (popOrder s))))
  ∧ ((∀ (tag : Byte) (body : List Byte) (s : State) (c : Cabin), Taken .readCabin tag body s →
    s.cbu.find (byteAt body 0) = some c →
    exec (.readCabin tag body) s = .next (placeAnswer (doneAnswer tag (.cabin (byteAt body 0) c)) (popOrder s)))
  ∧ (∀ (tag : Byte) (body : List Byte) (s : State) (k : Group), Taken .readQueue tag body s →
    s.cbu.group (byteAt body 0) = some k → byteAt body 0 ≤ 3 → 1 ≤ byteAt body 1 → byteAt body 1 ≤ 32 →
    exec (.readQueue tag body) s
      = .next (placeAnswer
          (doneAnswer tag
            (.queue
              { offerWindow := (groupSetting s (byteAt body 0)).offerWindow
                cleaningTime := (groupSetting s (byteAt body 0)).cleaningTime
                occupancyLimit := (groupSetting s (byteAt body 0)).occupancyLimit
                abandonTime := (groupSetting s (byteAt body 0)).abandonTime
                callPad := (groupSetting s (byteAt body 0)).callPad
                currentLimit := k.currentLimit
                nextTicket := k.nextTicket }
              ([.free, .offered, .occupied, .cleaning, .outOfService, .unreachable].map
                (fun st => (s.cbu.cabins.filter (fun c => c.group = byteAt body 0 && c.state = st)).length))
              k.queue.length ((k.queue.drop (byteAt body 1 - 1)).take 16)))
          (popOrder s))))

/-! ## Lockers (spec 02) -/

/-- A claim (R31): a band that passes the tests of R30 at a Vacant locker of an Open day becomes its holder; the locker is
appended to its list, the use count rises by one, stopping at 65,535, and no other locker changes. A door that opens on a
Held or an Orphaned locker is forced entry (R36): the locker is Forced with its holder kept, its door sensed open, and the
LockerAlarm condition set. An entitled band, the holder or one of its party (R20), at a Held locker starts an opening for
the open window, at an Opening one renews it, and at an Open one taps it out, which ends the binding; a master band opens a
Held or an Orphaned locker (R32, R35, R38). The door opening in the window follows the table of R33, the door closing on an
Open locker makes it Held (R35). What R29 and R30 refuse, and what a locker's state refuses, changes nothing but the bank's
desired entries, and shows its code with Refuse; at an Unreachable locker the presentation is discarded (R29, R30). That
this discard comes before the refusal SE, so that a Quoted band at an Unreachable locker is shown nothing, is the model's
reading: DEDUCED (log entry 28), where R29 and R20 have a Quoted band refused SE. A master band renews an Opening locker,
clears a Forced one as CLEAR FORCED does, its bank's sounder going from Alarm to Accept with the last Forced locker, and
changes nothing but desired entries at any other (R29, R37, R38). A locker no longer bound keeps its claim retention:
DEDUCED (log entry 19). -/
def Obligations.LockerTapsAndDoors : Prop :=
  (∀ (n : Nat) (l : Locker) (r : BandRecord) (s : State), s.lmu.find n = some l → l.state = .vacant → s.sck.day = .opened →
    r.state = .inside → l.doorOpen = false → r.lockers.length < tariffAllowance s.liveBank r.cls →
    (l.staffOnly = true → tariffStaffRight s.liveBank r.cls = true) →
    (∃ l', (presentAtLocker n r s).lmu.find n = some l' ∧ l'.state = .held ∧ l'.holder = some r.number
      ∧ l'.claimRetention = some l.retention ∧ l'.useCount = min (l.useCount + 1) 65535
      ∧ l'.serviceNotified = (l.serviceNotified
          || decide (s.table.serviceInterval ≠ 0 ∧ s.table.serviceInterval ≤ min (l.useCount + 1) 65535)))
    ∧ (∀ m, m ≠ n → (presentAtLocker n r s).lmu.find m = s.lmu.find m)
    ∧ (presentAtLocker n r s).bdr = s.bdr.update r.number (fun x => { x with lockers := x.lockers ++ [n] })
    ∧ KeepsAllBut [.bdr, .lmu, .flm, .lkc, .cnu] s (presentAtLocker n r s))
  ∧ (∀ (n : Nat) (l : Locker) (s : State), s.lmu.find n = some l → l.state = .held ∨ l.state = .orphaned →
    (lockerDoorEvent n true s).lmu.find n = some { l with state := .forced, doorOpen := true }
    ∧ (∀ m, m ≠ n → (lockerDoorEvent n true s).lmu.find m = s.lmu.find m)
    ∧ (lockerDoorEvent n true s).cnu.bits.getLsbD 0 = true
    ∧ KeepsAllBut [.lmu, .flm, .lkc, .cnu] s (lockerDoorEvent n true s))
  ∧ (∀ (n : Nat) (l : Locker) (r : BandRecord) (b : BandNo) (s : State), s.lmu.find n = some l → l.holder = some b →
    b = r.number ∨ s.bdr.sameParty b r.number = true → r.state ≠ .quoted →
    (l.state = .held →
      (presentAtLocker n r s).lmu.find n = some
          { l with state := .opening, openedBy := some .band
                   openingExpiry := some ((s.sck.counter + s.table.openWindow) % 86400) }
      ∧ (∀ m, m ≠ n → (presentAtLocker n r s).lmu.find m = s.lmu.find m)
      ∧ KeepsAllBut [.lmu, .flm, .lkc] s (presentAtLocker n r s))
    ∧ (l.state = .opening →
      (presentAtLocker n r s).lmu.find n
          = some { l with openingExpiry := some ((s.sck.counter + s.table.openWindow) % 86400) }
      ∧ KeepsAllBut [.lmu, .flm, .lkc] s (presentAtLocker n r s))
    ∧ (l.state = .opened →
      (presentAtLocker n r s).lmu.find n = some l.givenUp
      ∧ (∀ m, m ≠ n → (presentAtLocker n r s).lmu.find m = s.lmu.find m)
      ∧ (presentAtLocker n r s).bdr = s.bdr.update b (fun x => { x with lockers := x.lockers.filter (fun y => y ≠ n) })
      ∧ KeepsAllBut [.bdr, .lmu, .flm, .lkc] s (presentAtLocker n r s)))
  ∧ (∀ (n : Nat) (l : Locker) (s : State), s.lmu.find n = some l →
    (l.state = .held ∨ l.state = .orphaned →
      (masterAtLocker n s).lmu.find n = some
          { l with state := .opening, openedBy := some .master
                   openingExpiry := some ((s.sck.counter + s.table.openWindow) % 86400) }
      ∧ KeepsAllBut [.lmu, .flm, .lkc] s (masterAtLocker n s))
    ∧ (l.state = .opening →
      (lockerDoorEvent n true s).lmu.find n = some { l with doorOpen := true }.openedAt
      ∧ (∀ m, m ≠ n → (lockerDoorEvent n true s).lmu.find m = s.lmu.find m)
      ∧ KeepsAllBut [.bdr, .lmu, .flm, .lkc] s (lockerDoorEvent n true s))
    ∧ (l.state = .opened →
      (lockerDoorEvent n false s).lmu.find n
          = some { l with state := .held, openedBy := none, openingExpiry := none, doorOpen := false }
      ∧ KeepsAllBut [.lmu, .flm, .lkc] s (lockerDoorEvent n false s)))
  ∧ (∀ (n : Nat) (l : Locker) (r : BandRecord) (s : State), s.lmu.find n = some l →
    (l.state = .unreachable → presentAtLocker n r s = s)
    ∧ (∀ code,
      (l.state = .vacant ∧ s.sck.day = .closed ∧ code = .cl)
        ∨ (l.state ≠ .unreachable ∧ ¬(l.state = .vacant ∧ s.sck.day = .closed) ∧ r.state = .quoted ∧ code = .se)
        ∨ (r.state ≠ .quoted ∧ l.state = .vacant ∧ s.sck.day = .opened ∧
            ((l.staffOnly = true ∧ tariffStaffRight s.liveBank r.cls = false ∧ code = .st)
            ∨ ((l.staffOnly = true → tariffStaffRight s.liveBank r.cls = true) ∧
                ((tariffAllowance s.liveBank r.cls ≤ r.lockers.length ∧ code = .fl)
                ∨ (r.lockers.length < tariffAllowance s.liveBank r.cls ∧ l.doorOpen = true ∧ code = .doorOpen)))))
        ∨ (r.state ≠ .quoted ∧ (l.state = .held ∨ l.state = .opening ∨ l.state = .opened) ∧
            (∀ b, l.holder = some b → b ≠ r.number ∧ s.bdr.sameParty b r.number = false) ∧ code = .no)
        ∨ (r.state ≠ .quoted ∧ l.state = .forced ∧ code = .al)
        ∨ (r.state ≠ .quoted ∧ l.state = .orphaned ∧ code = .orphan)
        ∨ (r.state ≠ .quoted ∧ l.state = .outOfService ∧ code = .os) →
      KeepsAllBut [.flm] s (presentAtLocker n r s)
      ∧ RefusalShown { station := lockerBank n + 1, door := lockerDoor n } code s (presentAtLocker n r s)))
  ∧ (∀ (n : Nat) (l : Locker) (s t : State), s.lmu.find n = some l → t = masterAtLocker n s →
    (l.state = .unreachable → t = s)
    ∧ (l.state = .vacant ∨ l.state = .opened ∨ l.state = .outOfService →
      KeepsAllBut [.flm] s t ∧ PatternPlayed (lockerBank n + 1) .accept s t)
    ∧ (l.state = .opening →
      t.lmu.find n = some
          { l with openedBy := some .master, openingExpiry := some ((s.sck.counter + s.table.openWindow) % 86400) }
      ∧ (∀ m, m ≠ n → t.lmu.find m = s.lmu.find m) ∧ KeepsAllBut [.lmu, .flm] s t)
    ∧ (l.state = .forced →
      t.lmu.find n = some
          (if l.holder.isSome then { l with state := if l.doorOpen then .opened else .held, openedBy := none, openingExpiry := none }
          else { l with state := if l.pendingOut then .outOfService else .vacant, openedBy := none, openingExpiry := none,
                        pendingOut := false })
      ∧ (∀ m, m ≠ n → t.lmu.find m = s.lmu.find m) ∧ KeepsAllBut [.lmu, .flm, .lkc] s t
      ∧ (∀ st, s.flm.find (lockerBank n + 1) = some st → ∀ v, st.value .sounder = some v →
          ∃ st', t.flm.find (lockerBank n + 1) = some st'
            ∧ (s.lmu.countIn (lockerBank n) .forced = 1 → st'.value .sounder = some (.sounder false (some .accept)))
            ∧ (1 < s.lmu.countIn (lockerBank n) .forced → st.alarm = true → st'.value .sounder = some v))))

/-- RELEASE LOCKER (R39): a locker in use goes to Vacant, or to OutOfService where that is pending, and leaves its
holder's list; an Unreachable one changes what it remembers; one Vacant or OutOfService, or remembering it, is refused
Invalid. CLEAR FORCED (R37): a Forced locker with a holder goes to Held or Open by its door, one without goes to Vacant,
or to OutOfService where that is pending; a locker not Forced is refused Invalid. That a locker no longer bound keeps its
claim retention is DEDUCED (log entry 19). -/
def Obligations.ReleaseLockerAndClearForced : Prop :=
  (∀ (tag : Byte) (body : List Byte) (s : State) (l : Locker), Taken .releaseLocker tag body s →
    s.lmu.find (u16At body 0) = some l →
    (l.acting = .vacant ∨ l.acting = .outOfService →
      exec (.releaseLocker tag body) s = .next (placeAnswer (plainAnswer tag .invalid) (popOrder s)))
    ∧ (l.acting ≠ .vacant → l.acting ≠ .outOfService →
      ∃ t, exec (.releaseLocker tag body) s = .next t
        ∧ t.lmu.find (u16At body 0) = some
            { l with
              state := if l.state = .unreachable then .unreachable else if l.pendingOut then .outOfService else .vacant
              remembered :=
                if l.state = .unreachable then some (if l.pendingOut then .outOfService else .vacant) else l.remembered
              holder := none, openedBy := none, openingExpiry := none, pendingOut := false }
        ∧ (∀ m, m ≠ u16At body 0 → t.lmu.find m = s.lmu.find m)
        ∧ t.bdr = (match l.holder with
            | none => s.bdr
            | some b => s.bdr.update b (fun r => { r with lockers := r.lockers.filter (fun x => x ≠ u16At body 0) }))
        ∧ Answered t (doneAnswer tag (.released l.holder (if l.pendingOut then .outOfService else .vacant)))
        ∧ KeepsAllBut [.bdr, .lmu, .flm, .lkc] s t))
  ∧ (∀ (tag : Byte) (body : List Byte) (s : State) (l : Locker), Taken .clearForced tag body s →
    s.lmu.find (u16At body 0) = some l →
    (l.state = .forced →
      ∃ t, exec (.clearForced tag body) s = .next t
        ∧ (l.holder.isSome = true →
            t.lmu.find (u16At body 0) = some
              { l with state := if l.doorOpen then .opened else .held, openedBy := none, openingExpiry := none }
            ∧ Answered t (doneAnswer tag (.lockerState (if l.doorOpen then .opened else .held))))
        ∧ (l.holder = none →
            t.lmu.find (u16At body 0) = some
              { l with state := if l.pendingOut then .outOfService else .vacant, openedBy := none, openingExpiry := none,
                       pendingOut := false }
            ∧ Answered t (doneAnswer tag (.lockerState (if l.pendingOut then .outOfService else .vacant))))
        ∧ (∀ m, m ≠ u16At body 0 → t.lmu.find m = s.lmu.find m) ∧ t.bdr = s.bdr
        ∧ KeepsAllBut [.bdr, .lmu, .flm, .lkc] s t)
    ∧ (l.state ≠ .forced → exec (.clearForced tag body) s = .next (placeAnswer (plainAnswer tag .invalid) (popOrder s))))

/-- LOCKER SERVICE out and in (R40): out takes a Vacant locker out of service and marks one in use pending; in puts an
OutOfService locker back and clears the mark. The same acts change what an Unreachable locker remembers. -/
def Obligations.LockerServiceSetsTheMark : Prop :=
  ∀ (tag : Byte) (body : List Byte) (s : State) (l : Locker), Taken .lockerService tag body s →
    s.lmu.find (u16At body 0) = some l → (l.state = .unreachable → l.remembered ≠ some .unreachable ∧ l.remembered ≠ none) →
    (byteAt body 2 = 0 →
      ∃ t, exec (.lockerServiceOut tag body) s = .next t
        ∧ t.lmu.find (u16At body 0) = some
            (if l.acting = .vacant then { l with inService := false }.act .outOfService
            else if l.acting = .outOfService then { l with inService := false }
            else { l with inService := false, pendingOut := true })
        ∧ (∀ m, m ≠ u16At body 0 → t.lmu.find m = s.lmu.find m) ∧ KeepsAllBut [.lmu, .flm, .lkc] s t)
    ∧ (byteAt body 2 = 1 →
      ∃ t, exec (.lockerServiceIn tag body) s = .next t
        ∧ t.lmu.find (u16At body 0) = some
            (if l.acting = .outOfService then { l with inService := true, pendingOut := false }.act .vacant
            else { l with inService := true, pendingOut := false })
        ∧ (∀ m, m ≠ u16At body 0 → t.lmu.find m = s.lmu.find m) ∧ KeepsAllBut [.lmu, .flm, .lkc] s t)

/-- RESET USE COUNT sets the use count to 0 and service notified to no, whatever the state (R41); LOCKER WINDOW LOAD writes
the attributes of the existing lockers in its window and of no other (R42, R43): an in-service value has the effect of
LOCKER SERVICE out or in on each, its state and its pending mark too (R40), and the answer gives the number of lockers whose
attributes or pending mark differ after it. -/
def Obligations.LockerAttributesLoaded : Prop :=
  (∀ (tag : Byte) (body : List Byte) (s : State) (l : Locker), Taken .resetUseCount tag body s →
    s.lmu.find (u16At body 0) = some l →
    ∃ t, exec (.resetUseCount tag body) s = .next t ∧ Answered t (doneAnswer tag .none)
      ∧ t.lmu.find (u16At body 0) = some { l with useCount := 0, serviceNotified := false }
      ∧ (∀ m, m ≠ u16At body 0 → t.lmu.find m = s.lmu.find m) ∧ KeepsAllBut [.lmu, .lkc] s t)
  ∧ (∀ (tag : Byte) (body : List Byte) (s : State), Taken .lockerWindowLoad tag body s →
    windowOutOfRange (windowArgs body) s.lmu.banks.length = false →
    ∃ t, exec (.lockerWindowLoad tag body) s = .next t
      ∧ (∀ n, inWindow (windowArgs body) n = false → t.lmu.find n = s.lmu.find n)
      ∧ (∀ n l l', inWindow (windowArgs body) n = true → s.lmu.find n = some l → t.lmu.find n = some l' →
          l'.retention = (if (windowArgs body).retention = 0 then .single
            else if (windowArgs body).retention = 1 then .visit else l.retention)
          ∧ l'.staffOnly = (if (windowArgs body).staffOnly = 0 then false
            else if (windowArgs body).staffOnly = 1 then true else l.staffOnly)
          ∧ l'.inService = (if (windowArgs body).inService = 0 then false
            else if (windowArgs body).inService = 1 then true else l.inService)
          ∧ l'.holder = l.holder ∧ l'.claimRetention = l.claimRetention)
      ∧ KeepsAllBut [.lmu, .flm, .lkc] s t)
  ∧ (∀ (tag : Byte) (body : List Byte) (s : State), Taken .lockerWindowLoad tag body s →
    windowOutOfRange (windowArgs body) s.lmu.banks.length = true →
    exec (.lockerWindowLoad tag body) s = .next (placeAnswer (plainAnswer tag .range) (popOrder s)))
  ∧ (∀ (tag : Byte) (body : List Byte) (s : State), Taken .lockerWindowLoad tag body s →
    windowOutOfRange (windowArgs body) s.lmu.banks.length = false →
    ∃ t, exec (.lockerWindowLoad tag body) s = .next t
      ∧ (∀ n l, inWindow (windowArgs body) n = true → s.lmu.find n = some l →
          (l.state = .unreachable → l.remembered ≠ some .unreachable ∧ l.remembered ≠ none) →
          t.lmu.find n = some (l.loadedBy (windowArgs body)))
      ∧ Answered t (doneAnswer tag (.windowCount (s.lmu.numbers.filter (fun n =>
          (s.lmu.find n).map (fun l => (l.inService, l.retention, l.staffOnly, l.pendingOut))
            ≠ (t.lmu.find n).map (fun l => (l.inService, l.retention, l.staffOnly, l.pendingOut)))).length)))

/-! ## Cabins (spec 03) -/

/-- CABIN ASSIGN that passes R60, and a band presented at a call pad that passes R59, queue the band with its ticket where
no cabin is Free, and have it offered the lowest Free cabin where the queue was empty (R57, R59, R60, R62, R63). The ticket
is the first from the group's next ticket on that is not held, counting on from 99 to 1, and the next ticket moves on to the
one after it (R54). What R60 refuses is answered with its code and changes nothing. A presentation at a pad that R59 refuses
changes nothing but the pad's desired entries, and shows its code with Refuse; a master band there plays Accept and changes
nothing (R59). -/
def Obligations.JoinsPlaceTheBand : Prop :=
  (∀ (tag : Byte) (body : List Byte) (s : State) (r : BandRecord), Taken .cabinAssign tag body s → s.sck.day = .opened →
    byteAt body 5 ≤ 3 → byteAt body 5 < s.cbu.groups.length → s.cbu.emptyGroup (byteAt body 5) = false →
    s.bdr.find (bandAt body 0) = some r → r.state = .inside → r.link = none → (s.cbu.queue (byteAt body 5)).length < 32 →
    (s.cbu.lowestFree (byteAt body 5) = none →
      ∃ t, exec (.cabinAssign tag body) s = .next t
        ∧ t.cbu.queue (byteAt body 5) = s.cbu.queue (byteAt body 5)
            ++ [{ band := bandAt body 0, ticket := s.cbu.ticketFor (byteAt body 5), join := s.sck.counter, misses := 0 }]
        ∧ t.bdr.find (bandAt body 0)
            = some { r with link := some (.queued (byteAt body 5) (s.cbu.ticketFor (byteAt body 5))) }
        ∧ t.cbu.cabins = s.cbu.cabins
        ∧ JoinedGroup (byteAt body 5)
            (s.cbu.queue (byteAt body 5)
              ++ [{ band := bandAt body 0, ticket := s.cbu.ticketFor (byteAt body 5), join := s.sck.counter, misses := 0 }]) s t
        ∧ KeepsAllBut [.bdr, .cbu, .flm, .lkc] s t)
    ∧ (∀ n c, s.cbu.lowestFree (byteAt body 5) = some n → s.cbu.find n = some c → s.cbu.queue (byteAt body 5) = [] →
      ∃ t, exec (.cabinAssign tag body) s = .next t
        ∧ t.cbu.find n = some
            { c with
              state := .offered, band := some (bandAt body 0), ticketShown := some (s.cbu.ticketFor (byteAt body 5)),
              offerExpiry := some ((s.sck.counter + (groupSetting s (byteAt body 5)).offerWindow) % 86400),
              offerMisses := some 0, offerJoin := some s.sck.counter }
        ∧ t.bdr.find (bandAt body 0) = some { r with link := some (.offered n) }
        ∧ t.cbu.queue (byteAt body 5) = []
        ∧ JoinedGroup (byteAt body 5) [] s t
        ∧ Answered t (doneAnswer tag (.assigned (s.cbu.ticketFor (byteAt body 5)) (.cabin n)))
        ∧ KeepsAllBut [.bdr, .cbu, .flm, .lkc] s t))
  ∧ (∀ (g : Nat) (r : BandRecord) (s : State), s.bdr.find r.number = some r →
    (s.sck.day = .opened → r.state = .inside → g < s.cbu.groups.length → s.cbu.emptyGroup g = false →
      tariffGroupAccess s.liveBank r.cls g = true → r.link = none → (s.cbu.queue g).length < 32 →
      (s.cbu.lowestFree g = none →
        (presentAtPad g r s).cbu.queue g
            = s.cbu.queue g ++ [{ band := r.number, ticket := s.cbu.ticketFor g, join := s.sck.counter, misses := 0 }]
        ∧ (presentAtPad g r s).bdr.find r.number = some { r with link := some (.queued g (s.cbu.ticketFor g)) }
        ∧ (presentAtPad g r s).cbu.cabins = s.cbu.cabins
        ∧ JoinedGroup g
            (s.cbu.queue g ++ [{ band := r.number, ticket := s.cbu.ticketFor g, join := s.sck.counter, misses := 0 }]) s
            (presentAtPad g r s))
      ∧ (∀ n c, s.cbu.lowestFree g = some n → s.cbu.find n = some c → s.cbu.queue g = [] →
        (presentAtPad g r s).cbu.find n = some
            { c with
              state := .offered, band := some r.number, ticketShown := some (s.cbu.ticketFor g),
              offerExpiry := some ((s.sck.counter + (groupSetting s g).offerWindow) % 86400),
              offerMisses := some 0, offerJoin := some s.sck.counter }
        ∧ (presentAtPad g r s).bdr.find r.number = some { r with link := some (.offered n) }
        ∧ (presentAtPad g r s).cbu.queue g = [] ∧ JoinedGroup g [] s (presentAtPad g r s))
      ∧ KeepsAllBut [.bdr, .cbu, .flm, .lkc] s (presentAtPad g r s))
    ∧ (s.sck.day = .closed ∨ r.state = .quoted ∨ s.cbu.emptyGroup g = true ∨ tariffGroupAccess s.liveBank r.cls g = false
        ∨ r.link ≠ none ∨ 32 ≤ (s.cbu.queue g).length →
      KeepsAllBut [.flm] s (presentAtPad g r s)))
  ∧ (∀ (u : CabinUnit) (g : Nat) (k : Group), u.group g = some k → 1 ≤ k.nextTicket → k.nextTicket ≤ 99 →
    (∀ i, i < 99 → (∀ j, j < i → u.TicketHeld g ((k.nextTicket - 1 + j) % 99 + 1)) →
      ¬u.TicketHeld g ((k.nextTicket - 1 + i) % 99 + 1) → u.ticketFor g = (k.nextTicket - 1 + i) % 99 + 1)
    ∧ (k.queue.length ≤ 32 → u.cabins.length ≤ 48 →
      1 ≤ u.ticketFor g ∧ u.ticketFor g ≤ 99 ∧ ¬u.TicketHeld g (u.ticketFor g)))
  ∧ (∀ (tag : Byte) (body : List Byte) (s : State) (code : ResultCode), Taken .cabinAssign tag body s →
    (s.sck.day = .closed ∧ code = .notOpen)
      ∨ (s.sck.day = .opened ∧
          (((3 < byteAt body 5 ∨ s.cbu.emptyGroup (byteAt body 5) = true) ∧ code = .range)
          ∨ (byteAt body 5 ≤ 3 ∧ s.cbu.emptyGroup (byteAt body 5) = false ∧
              ((s.bdr.find (bandAt body 0) = none ∧ code = .noSuch)
              ∨ ∃ r, s.bdr.find (bandAt body 0) = some r ∧
                  ((r.state = .quoted ∧ code = .settling) ∨ (r.state = .barred ∧ code = .invalid)
                  ∨ (r.state = .inside ∧ r.link ≠ none ∧ code = .bound)
                  ∨ (r.state = .inside ∧ r.link = none ∧ 32 ≤ (s.cbu.queue (byteAt body 5)).length ∧ code = .tableFull)))))) →
    exec (.cabinAssign tag body) s = .next (placeAnswer (plainAnswer tag code) (popOrder s)))
  ∧ (∀ (g : Nat) (r : BandRecord) (s : State) (code : DisplayCode),
    (s.sck.day = .closed ∧ code = .cl)
      ∨ (s.sck.day = .opened ∧ r.state = .quoted ∧ code = .se)
      ∨ (s.sck.day = .opened ∧ r.state ≠ .quoted ∧
          (((s.cbu.emptyGroup g = true ∨ tariffGroupAccess s.liveBank r.cls g = false) ∧ code = .na)
          ∨ (s.cbu.emptyGroup g = false ∧ tariffGroupAccess s.liveBank r.cls g = true ∧
              (((∃ h x, r.link = some (.queued h x)) ∧ code = .iq) ∨ ((∃ n, r.link = some (.offered n)) ∧ code = .iq)
              ∨ ((∃ n, r.link = some (.holding n)) ∧ code = .hc)
              ∨ (r.link = none ∧ 32 ≤ (s.cbu.queue g).length ∧ code = .qf))))) →
    KeepsAllBut [.flm] s (presentAtPad g r s) ∧ RefusalShown { station := g + 81, door := 0 } code s (presentAtPad g r s))
  ∧ (∀ (g : Nat) (s : State),
    KeepsAllBut [.flm] s (masterAtPad g s) ∧ PatternPlayed (g + 81) .accept s (masterAtPad g s))

/-- SET CABIN LIMIT writes the current limit and nothing of any cabin (R53); CLEANED ends the cleaning of a cabin, or what
an Unreachable one remembers of it, and is refused Invalid for any other (R70, R71). A cabin that becomes Free while a band
waits is offered to the head of the queue in the same act (R62). -/
def Obligations.CabinLimitAndCleaned : Prop :=
  (∀ (tag : Byte) (body : List Byte) (s : State), Taken .setCabinLimit tag body s → byteAt body 0 ≤ 3 → 5 ≤ byteAt body 1 →
    byteAt body 1 ≤ 120 →
    exec (.setCabinLimit tag body) s
      = .next (placeAnswer (doneAnswer tag .none)
          { popOrder s with
            cbu := s.cbu.updateGroup (byteAt body 0) (fun k => { k with currentLimit := byteAt body 1 }) }))
  ∧ (∀ (tag : Byte) (body : List Byte) (s : State), Taken .setCabinLimit tag body s →
    3 < byteAt body 0 ∨ byteAt body 1 < 5 ∨ 120 < byteAt body 1 →
    exec (.setCabinLimit tag body) s = .next (placeAnswer (plainAnswer tag .range) (popOrder s)))
  ∧ (∀ (tag : Byte) (body : List Byte) (s : State) (c : Cabin), Taken .cleaned tag body s →
    s.cbu.find (byteAt body 0) = some c →
    (c.acting = .cleaning → s.cbu.queue c.group = [] ∨ c.state = .unreachable ∨ c.pendingOut = true →
      ∃ t, exec (.cleaned tag body) s = .next t ∧ Answered t (doneAnswer tag .none)
        ∧ t.cbu.find (byteAt body 0) = some
            { { c with cleaningExpiry := none }.act (if c.pendingOut then .outOfService else .free) with pendingOut := false }
        ∧ (∀ m, m ≠ byteAt body 0 → t.cbu.find m = s.cbu.find m) ∧ t.cbu.groups = s.cbu.groups
        ∧ KeepsAllBut [.cbu, .flm, .lkc] s t)
    ∧ (∀ e rest r, c.state = .cleaning → c.pendingOut = false → s.cbu.queue c.group = e :: rest →
      s.cbu.lowestFree c.group = none → s.bdr.find e.band = some r →
      ∃ t, exec (.cleaned tag body) s = .next t ∧ Answered t (doneAnswer tag .none)
        ∧ OfferedToHead (byteAt body 0) { c with cleaningExpiry := none } e rest r s t ∧ KeepsAllBut [.bdr, .cbu, .flm, .lkc] s t)
    ∧ (c.acting ≠ .cleaning → exec (.cleaned tag body) s = .next (placeAnswer (plainAnswer tag .invalid) (popOrder s))))

/-- CABIN SERVICE (R71, R72): out takes a Free cabin out of service and marks one Occupied or Cleaning pending; in puts an
OutOfService cabin back to Free, or clears the mark. Out at a standing offer (R66, R71 (b)): the cabin, or what an
Unreachable one remembers, goes to OutOfService naming no band, and its band stands at the head of its queue with its
ticket, join second and miss count. Where that queue is full the band at its tail is removed, its link becomes absent, and
CallMissed is raised with the outcome Displaced (R58 (c)). In while a band waits: the cabin is offered to the head of the
queue in the same act (R62), and the answer says Offered: DEDUCED (log entry 44). -/
def Obligations.CabinServiceTakesOutAndPutsIn : Prop :=
  (∀ (tag : Byte) (body : List Byte) (s : State) (c : Cabin), Taken .cabinService tag body s →
    s.cbu.find (byteAt body 0) = some c →
    (byteAt body 1 = 0 → c.acting ≠ .offered →
      ∃ t, exec (.cabinServiceOut tag body) s = .next t
        ∧ t.cbu.find (byteAt body 0) = some
            (if c.acting = .free then c.act .outOfService
            else if c.acting = .occupied ∨ c.acting = .cleaning then { c with pendingOut := true } else c)
        ∧ (∀ m, m ≠ byteAt body 0 → t.cbu.find m = s.cbu.find m) ∧ t.cbu.groups = s.cbu.groups
        ∧ KeepsAllBut [.cbu, .flm, .lkc] s t)
    ∧ (byteAt body 1 = 1 → s.cbu.queue c.group = [] ∨ c.state ≠ .outOfService →
      ∃ t, exec (.cabinServiceIn tag body) s = .next t
        ∧ t.cbu.find (byteAt body 0) = some
            (if c.acting = .outOfService then { c with pendingOut := false }.act .free else { c with pendingOut := false })
        ∧ (∀ m, m ≠ byteAt body 0 → t.cbu.find m = s.cbu.find m) ∧ t.cbu.groups = s.cbu.groups
        ∧ KeepsAllBut [.cbu, .flm, .lkc] s t)
    ∧ (∀ e rest r, byteAt body 1 = 1 → c.state = .outOfService → s.cbu.queue c.group = e :: rest →
      s.cbu.lowestFree c.group = none → s.bdr.find e.band = some r →
      ∃ t, exec (.cabinServiceIn tag body) s = .next t
        ∧ OfferedToHead (byteAt body 0) { c with pendingOut := false } e rest r s t
        ∧ Answered t (doneAnswer tag (.cabinService .offered false)) ∧ KeepsAllBut [.bdr, .cbu, .flm, .lkc] s t))
  ∧ (∀ (tag : Byte) (body : List Byte) (s : State) (c : Cabin) (b : BandNo) (r : BandRecord) (ticket join misses : Nat),
    Taken .cabinService tag body s → byteAt body 1 = 0 → s.cbu.find (byteAt body 0) = some c → c.acting = .offered →
    c.band = some b → c.ticketShown = some ticket → c.offerJoin = some join → c.offerMisses = some misses →
    s.bdr.find b = some r → c.group < s.cbu.groups.length → (s.cbu.queue c.group).length < 32 →
    s.cbu.lowestFree c.group = none →
    ∃ t, exec (.cabinServiceOut tag body) s = .next t
      ∧ t.cbu.find (byteAt body 0) = some
          ({ c with band := none, ticketShown := none, offerExpiry := none, offerMisses := none, offerJoin := none }.act
            .outOfService)
      ∧ t.cbu.queue c.group = { band := b, ticket := ticket, join := join, misses := misses } :: s.cbu.queue c.group
      ∧ t.bdr.find b = some { r with link := some (.queued c.group ticket) }
      ∧ Answered t (doneAnswer tag (.cabinService .outOfService c.pendingOut))
      ∧ KeepsAllBut [.bdr, .cbu, .flm, .lkc] s t)
  ∧ (∀ (tag : Byte) (body : List Byte) (s : State) (c : Cabin) (b : BandNo) (r rl : BandRecord) (last : QueueEntry)
    (ticket join misses : Nat), Taken .cabinService tag body s → byteAt body 1 = 0 → s.cbu.find (byteAt body 0) = some c →
    c.acting = .offered → c.band = some b → c.ticketShown = some ticket → c.offerJoin = some join →
    c.offerMisses = some misses → s.bdr.find b = some r → 32 ≤ (s.cbu.queue c.group).length →
    (s.cbu.queue c.group).getLast? = some last → last.band ≠ b → s.bdr.find last.band = some rl →
    s.cbu.lowestFree c.group = none →
    ∃ t, exec (.cabinServiceOut tag body) s = .next t
      ∧ t.cbu.find (byteAt body 0) = some (c.unoffered.act .outOfService)
      ∧ t.cbu.queue c.group
          = { band := b, ticket := ticket, join := join, misses := misses } :: (s.cbu.queue c.group).dropLast
      ∧ t.bdr.find b = some { r with link := some (.queued c.group ticket) }
      ∧ t.bdr.find last.band = some { rl with link := none }
      ∧ (∀ x, x ≠ b → x ≠ last.band → t.bdr.find x = s.bdr.find x)
      ∧ t.cnu = { s.cnu with bits := s.cnu.bits ||| 0x4#10 }
      ∧ (s.cnu.mask.getLsbD 2 = false → t.lkc.notices = s.lkc.notices)
      ∧ (s.cnu.mask.getLsbD 2 = true → s.lkc.notices.length < 32 → s.lkc.tx ≠ .idle →
          t.lkc.notices = s.lkc.notices
            ++ [{ content := .callMissed last.band c.group none last.ticket .displaced, second := s.sck.counter }])
      ∧ Answered t (doneAnswer tag (.cabinService .outOfService c.pendingOut))
      ∧ KeepsAllBut [.bdr, .cbu, .flm, .lkc, .cnu] s t)

/-- An entitled band, the one offered the cabin or one of its party (R20), at an Offered cabin accepts it (R64): the cabin
is Occupied for the band offered, its counter at the group's current limit, its entry expiry at the end of the open window,
and that band's link Holding. While the entry expiry stands an entitled band renews it (R67); after it, its presentation is
a release. A release (R68): the overstayed minutes go to the band the cabin names, stopping at 1,440, its link becomes
absent, and the cabin goes to Cleaning, to Free where the cleaning time is 0, or to OutOfService where that is pending. That
the cabin keeps the limit loaded is the model's choice (log entry 18). What R61 refuses changes nothing but the cabin's
desired entries, and shows its code with Refuse; at an Unreachable cabin the presentation is discarded. That this discard
comes before the refusal SE, so that a Quoted band at an Unreachable cabin is shown nothing, is the model's reading: DEDUCED
(log entry 28), where R61 and R20 have a Quoted band refused SE. A master band opens a Free or an Offered cabin's bolt for
the open window, releases an Occupied one, ends the cleaning of one in Cleaning, and changes nothing at any other (R61, R68,
R70); a cabin it frees is offered to the head of the queue in the same act (R62). A door event of a cabin door unit (R70,
R141) writes door sensed in every state but Unreachable; in Occupied an opening sets door-open since where it is absent and
a closing makes it absent. -/
def Obligations.CabinUseAndRelease : Prop :=
  (∀ (n : Nat) (c : Cabin) (b : BandNo) (r : BandRecord) (s : State), s.cbu.find n = some c → c.state = .occupied →
    c.band = some b → s.bdr.find b = some r →
    (releaseCabin n c s).bdr.find b = some { r with overstay := min (r.overstay + (-c.counter).toNat) 1440, link := none }
    ∧ (∃ c', (releaseCabin n c s).cbu.find n = some c' ∧ c'.band = none ∧ c'.overstayFlag = false ∧ c'.doorOpenSince = none
      ∧ c'.entryExpiry = none ∧ c'.pendingOut = false
      ∧ c'.state = (if c.pendingOut then .outOfService
          else if (groupSetting s c.group).cleaningTime = 0 then .free else .cleaning)
      ∧ (c'.state = .cleaning →
          c'.cleaningExpiry = some ((s.sck.counter + (groupSetting s c.group).cleaningTime) % 86400)))
    ∧ KeepsAllBut [.bdr, .cbu, .flm, .lkc] s (releaseCabin n c s))
  ∧ (∀ (n : Nat) (c : Cabin) (b : BandNo) (r rb : BandRecord) (k : Group) (s : State), s.cbu.find n = some c →
    c.band = some b → r.state = .inside → b = r.number ∨ s.bdr.sameParty b r.number = true → s.bdr.find b = some rb →
    s.cbu.group c.group = some k →
    (c.state = .offered →
      (presentAtCabin n r s).cbu.find n = some
          { c with
            state := .occupied, ticketShown := none, offerExpiry := none, offerMisses := none, offerJoin := none,
            entryExpiry := some ((s.sck.counter + s.table.openWindow) % 86400), counter := k.currentLimit,
            loadedLimit := k.currentLimit, overstayFlag := false,
            doorOpenSince := if c.doorOpen then some s.sck.counter else none }
      ∧ (∀ m, m ≠ n → (presentAtCabin n r s).cbu.find m = s.cbu.find m) ∧ (presentAtCabin n r s).cbu.groups = s.cbu.groups
      ∧ (presentAtCabin n r s).bdr.find b = some { rb with link := some (.holding n) }
      ∧ (∀ x, x ≠ b → (presentAtCabin n r s).bdr.find x = s.bdr.find x)
      ∧ KeepsAllBut [.bdr, .cbu, .flm, .lkc] s (presentAtCabin n r s))
    ∧ (c.state = .occupied → c.entryExpiry ≠ none →
      (presentAtCabin n r s).cbu.find n
          = some { c with entryExpiry := some ((s.sck.counter + s.table.openWindow) % 86400) }
      ∧ (∀ m, m ≠ n → (presentAtCabin n r s).cbu.find m = s.cbu.find m) ∧ (presentAtCabin n r s).cbu.groups = s.cbu.groups
      ∧ KeepsAllBut [.cbu, .flm, .lkc] s (presentAtCabin n r s))
    ∧ (c.state = .occupied → c.entryExpiry = none → s.cbu.queue c.group = [] →
      (presentAtCabin n r s).bdr.find b
          = some { rb with overstay := min (rb.overstay + (-c.counter).toNat) 1440, link := none }
      ∧ (∃ c', (presentAtCabin n r s).cbu.find n = some c' ∧ c'.band = none
        ∧ c'.state = (if c.pendingOut then .outOfService
            else if (groupSetting s c.group).cleaningTime = 0 then .free else .cleaning))
      ∧ KeepsAllBut [.bdr, .cbu, .flm, .lkc] s (presentAtCabin n r s)))
  ∧ (∀ (n p : Nat) (isOpen : Bool) (c : Cabin) (s t : State), n < 48 → s.cbu.find n = some c →
    t = routeEvent (n + 33) (.doorChanged p isOpen) s →
    (c.state = .unreachable → t = s)
    ∧ (c.state ≠ .unreachable →
      t.cbu.find n = some
          { c with
            doorOpen := isOpen
            doorOpenSince :=
              if c.state = .occupied then (if isOpen then some (c.doorOpenSince.getD s.sck.counter) else none)
              else c.doorOpenSince }
      ∧ (∀ m, m ≠ n → t.cbu.find m = s.cbu.find m) ∧ t.cbu.groups = s.cbu.groups ∧ KeepsAllBut [.cbu] s t))
  ∧ (∀ (n : Nat) (c : Cabin) (r : BandRecord) (s : State), s.cbu.find n = some c →
    (c.state = .unreachable → presentAtCabin n r s = s)
    ∧ (∀ code,
      (c.state ≠ .unreachable ∧ r.state = .quoted ∧ code = .se)
        ∨ (r.state ≠ .quoted ∧ c.state = .outOfService ∧ code = .os)
        ∨ (r.state ≠ .quoted ∧ (c.state = .free ∨ c.state = .cleaning) ∧ code = .no)
        ∨ (r.state ≠ .quoted ∧ (c.state = .offered ∨ c.state = .occupied) ∧
            (∀ b, c.band = some b → b ≠ r.number ∧ s.bdr.sameParty b r.number = false) ∧ code = .no) →
      KeepsAllBut [.flm] s (presentAtCabin n r s)
      ∧ RefusalShown { station := n + 33, door := 0 } code s (presentAtCabin n r s)))
  ∧ (∀ (n : Nat) (c : Cabin) (s t : State), s.cbu.find n = some c → t = masterAtCabin n s →
    (c.state = .unreachable → t = s)
    ∧ (c.state = .free ∨ c.state = .offered →
      KeepsAllBut [.flm] s t ∧ PatternPlayed (n + 33) .accept s t
      ∧ (∀ st v, s.flm.find (n + 33) = some st → st.value (.bolt 0) = some v →
          ∃ st', t.flm.find (n + 33) = some st'
            ∧ st'.value (.bolt 0) = some (.bolt (.unlockedUntil ((s.sck.counter + s.table.openWindow) % 86400)))))
    ∧ (c.state = .outOfService → KeepsAllBut [.flm] s t ∧ PatternPlayed (n + 33) .accept s t)
    ∧ (∀ b r left, c.state = .occupied → c.band = some b → s.bdr.find b = some r →
      left = { c with band := none, overstayFlag := false, doorOpenSince := none, entryExpiry := none } →
      ((c.pendingOut = true ∨ (groupSetting s c.group).cleaningTime ≠ 0 ∨ s.cbu.queue c.group = []) →
        t.cbu.find n = some
          (if c.pendingOut then { left with state := .outOfService, pendingOut := false }
          else if (groupSetting s c.group).cleaningTime = 0 then { left with state := .free }
          else { left with state := .cleaning
                           cleaningExpiry := some ((s.sck.counter + (groupSetting s c.group).cleaningTime) % 86400) })
        ∧ t.bdr.find b = some { r with overstay := min (r.overstay + (-c.counter).toNat) 1440, link := none }
        ∧ (∀ x, x ≠ b → t.bdr.find x = s.bdr.find x) ∧ (∀ m, m ≠ n → t.cbu.find m = s.cbu.find m)
        ∧ t.cbu.groups = s.cbu.groups ∧ PatternPlayed (n + 33) .accept s t)
      ∧ (∀ e rest re, c.pendingOut = false → (groupSetting s c.group).cleaningTime = 0 → s.cbu.queue c.group = e :: rest →
        s.cbu.lowestFree c.group = none → s.bdr.find e.band = some re → e.band ≠ b →
        t.cbu.find n = some (left.offeredTo e ((s.sck.counter + (groupSetting s c.group).offerWindow) % 86400))
        ∧ (∀ m, m ≠ n → t.cbu.find m = s.cbu.find m) ∧ t.cbu.queue c.group = rest
        ∧ t.bdr.find e.band = some { re with link := some (.offered n) }
        ∧ t.bdr.find b = some { r with overstay := min (r.overstay + (-c.counter).toNat) 1440, link := none }
        ∧ (∀ x, x ≠ b → x ≠ e.band → t.bdr.find x = s.bdr.find x))
      ∧ KeepsAllBut [.bdr, .cbu, .flm, .lkc] s t)
    ∧ (c.state = .cleaning →
      (c.pendingOut = true ∨ s.cbu.queue c.group = [] →
        t.cbu.find n = some
          { c with state := if c.pendingOut then .outOfService else .free, cleaningExpiry := none, pendingOut := false }
        ∧ (∀ m, m ≠ n → t.cbu.find m = s.cbu.find m) ∧ t.cbu.groups = s.cbu.groups ∧ t.bdr = s.bdr
        ∧ PatternPlayed (n + 33) .accept s t)
      ∧ (∀ e rest r, c.pendingOut = false → s.cbu.queue c.group = e :: rest → s.cbu.lowestFree c.group = none →
        s.bdr.find e.band = some r → OfferedToHead n { c with cleaningExpiry := none } e rest r s t)
      ∧ KeepsAllBut [.bdr, .cbu, .flm, .lkc] s t))
  ∧ (∀ (n : Nat) (c : Cabin) (r : BandRecord) (b : BandNo) (s : State), s.cbu.find n = some c → c.state = .occupied →
    c.entryExpiry = none → c.band = some b → r.state = .inside → b = r.number ∨ s.bdr.sameParty b r.number = true →
    presentAtCabin n r s = masterAtCabin n s)

/-! ## Tariff and settlement (spec 04, spec 05) -/

/-- TARIFF LOAD writes its segment and sets Loading, and is refused Range outside the image (R83); TARIFF COMMIT of an
image that passes R84 leaves the clamped image Complete and refuses any other Invalid (R84, R85). The clamped tariff keeps
every figure in its range (R85 (a) to (d)): allowance 0 to 3, mask bits 0 to 4, grace 0 to 30, unit 1 to 60, for each
class. -/
def Obligations.TariffLoadedAndCommitted : Prop :=
  ((∀ (tag : Byte) (body : List Byte) (s : State), Taken .tariffLoad tag body s →
    (byteAt body 0 ≤ 141 → body.drop 1 ≠ [] → byteAt body 0 + (body.drop 1).length ≤ 142 →
      exec (.tariffLoad tag body) s
        = .next (placeAnswer (doneAnswer tag (.loadState .loading))
            { popOrder s with
              tfs := { s.tfs with standby := writeSegment s.tfs.standby (byteAt body 0) (body.drop 1), load := .loading } }))
    ∧ (141 < byteAt body 0 ∨ body.drop 1 = [] ∨ 142 < byteAt body 0 + (body.drop 1).length →
      exec (.tariffLoad tag body) s = .next (placeAnswer (plainAnswer tag .range) (popOrder s))))
  ∧ (∀ (tag : Byte) (body : List Byte) (s : State), Taken .tariffCommit tag body s →
    (s.tfs.load ≠ .empty → tariffImageGood s.tfs.standby = true →
      exec (.tariffCommit tag body) s
        = .next (placeAnswer
            { tag := tag, code := .done, clamped := decide (clampTariff s.tfs.standby ≠ s.tfs.standby),
              body := .generation (tariffGeneration (clampTariff s.tfs.standby)) }
            { popOrder s with tfs := { s.tfs with standby := clampTariff s.tfs.standby, load := .complete } }))
    ∧ (s.tfs.load = .empty ∨ tariffImageGood s.tfs.standby = false →
      exec (.tariffCommit tag body) s = .next (placeAnswer (plainAnswer tag .invalid) (popOrder s)))))
  ∧ (∀ (t : List Byte) (c : Nat), t.length = 142 → c < 8 →
    tariffAllowance (clampTariff t) c ≤ 3 ∧ tariffMask (clampTariff t) c < 32 ∧ tariffGrace (clampTariff t) c ≤ 30
      ∧ 1 ≤ tariffUnit (clampTariff t) c ∧ tariffUnit (clampTariff t) c ≤ 60)

/-- The swap at a minute boundary (R86): a Complete standby bank becomes live and is written to the store, the standby bank
is emptied and TariffSwitched is raised; otherwise nothing of the tariff store changes. MINUTE_BOUNDARY, from whatever
second of a minute, brings the swap (R126): that the command runs the clock to its boundary is the model's choice (log entry
2). STORE_WRITE_END ends the write of the copy it names and changes nothing else (R88, R169): the mark of a running write,
which the swap sets and the command clears, is DEDUCED (log entry 16). -/
def Obligations.TariffSwapsAndStoreWritesEnd : Prop :=
  (∀ (minute : Nat) (s : State),
    (s.tfs.load = .complete →
      (swapTariff minute s).tfs.live = some s.tfs.standby ∧ (swapTariff minute s).tfs.standby = List.replicate 142 0
      ∧ (swapTariff minute s).tfs.load = .empty ∧ (swapTariff minute s).tfs.store.bytes = s.tfs.standby
      ∧ (swapTariff minute s).cnu.bits.getLsbD 5 = true ∧ KeepsAllBut [.tfs, .lkc, .cnu] s (swapTariff minute s))
    ∧ (s.tfs.load ≠ .complete → swapTariff minute s = s))
  ∧ (∀ s : State, ClockInRange s →
    ∃ t, exec .minuteBoundary s = .next t
      ∧ (s.tfs.load = .complete →
          t.tfs.live = some s.tfs.standby ∧ t.tfs.standby = List.replicate 142 0 ∧ t.tfs.load = .empty
          ∧ t.tfs.store.bytes = s.tfs.standby ∧ t.tfs.store.writing = true ∧ t.cnu.bits.getLsbD 5 = true)
      ∧ (s.tfs.load ≠ .complete → t.tfs = s.tfs))
  ∧ (∀ s : State,
    exec (.storeWriteEnd .site) s = .next { s with sts := { s.sts with store := { s.sts.store with writing := false } } }
    ∧ exec (.storeWriteEnd .tariff) s = .next { s with tfs := { s.tfs with store := { s.tfs.store with writing := false } } })

/-- READ TARIFF reports a bank, QUOTE PREVIEW the charge by the clock's minute and the wrapped flag, READ CLOCK the clock
and the day, IDENTIFY the part; none changes anything (R89, R103, R129, R164). That the answer of QUOTE PREVIEW holds the
whole cabin link, where R103 (b) names only its kind, is the model's choice (log entry 42). -/
def Obligations.TariffAndClockReadsReport : Prop :=
  ((∀ (tag : Byte) (body : List Byte) (s : State), Taken .readTariff tag body s →
    (byteAt body 0 = 0 →
      exec (.readTariff tag body) s
        = .next (placeAnswer (doneAnswer tag (.tariffLive (s.tfs.live.map (fun t => (tariffGeneration t, t))))) (popOrder s)))
    ∧ (byteAt body 0 = 1 →
      exec (.readTariff tag body) s
        = .next (placeAnswer
            (doneAnswer tag (.tariffStandby s.tfs.load (tariffGeneration s.tfs.standby) s.tfs.standby)) (popOrder s)))
    ∧ (1 < byteAt body 0 →
      exec (.readTariff tag body) s = .next (placeAnswer (plainAnswer tag .range) (popOrder s))))
  ∧ (∀ (tag : Byte) (body : List Byte) (s : State) (r : BandRecord) (live : List Byte), Taken .quotePreview tag body s →
    invalidBand (bandAt body 0) = false → s.bdr.find (bandAt body 0) = some r → s.tfs.live = some live →
    exec (.quotePreview tag body) s
      = .next (placeAnswer
          (doneAnswer tag
            (.preview
              (settlementCharge live (settlementWorking live s.sck.wrapped (s.sck.counter / 60) r) r)
              (settlementWorking live s.sck.wrapped (s.sck.counter / 60) r)
              { lockers := r.lockers.length, link := r.link, standing := r.quote.map (fun q => (q.lane, q.amount)) }))
          (popOrder s))))
  ∧ ((∀ (tag : Byte) (body : List Byte) (s : State), Taken .readClock tag body s →
    exec (.readClock tag body) s
      = .next (placeAnswer
          (doneAnswer tag
            (.clock s.sck.counter (s.sck.counter / 60) s.sck.clockValid s.sck.day s.sck.openMinute s.sck.wrapped
              s.bdr.bands.length))
          (popOrder s)))
  ∧ (∀ (tag : Byte) (body : List Byte) (s : State), Taken .identify tag body s →
    exec (.identify tag body) s
      = .next (placeAnswer
          (doneAnswer tag
            (.identity s.configured (s.sts.site.map (·.generation)) (s.tfs.live.map tariffGeneration)
              (if s.configured then s.sck.day else .closed) s.sck.clockValid s.lkc.speed))
          (popOrder s))))

/-- The settlement computation stage by stage (R93 to R100). X is 1,439 in a wrapped day; S is X less E, and 0 where X
lies before E; O is S less P less G, and 0 where that is not above 0; N is the least number of whole units that covers O,
and 0 where O is 0. The time sum is the sum, over units 0 to N−1, of the rate that the tariff gives the unit: that of the
last time band whose start is at or before E plus P plus G plus u units. The cabin sum is the cabin rate times the
overstay minutes; the total of both is rounded to cents half up, and the charge never exceeds the daily cap. -/
def Obligations.SettlementChargesByTheRules : Prop :=
  ∀ (t : List Byte) (wrapped : Bool) (minute : Nat) (r : BandRecord),
    (settlementWorking t wrapped minute r).minute = (if wrapped then 1439 else minute)
    ∧ (r.entryMinute ≤ (settlementWorking t wrapped minute r).minute →
        (settlementWorking t wrapped minute r).stay = (settlementWorking t wrapped minute r).minute - r.entryMinute)
    ∧ ((settlementWorking t wrapped minute r).minute < r.entryMinute → (settlementWorking t wrapped minute r).stay = 0)
    ∧ (∀ free, free = r.paidMinutes + tariffGrace t r.cls →
        (free < (settlementWorking t wrapped minute r).stay →
          (settlementWorking t wrapped minute r).overstay + free = (settlementWorking t wrapped minute r).stay)
        ∧ ((settlementWorking t wrapped minute r).stay ≤ free → (settlementWorking t wrapped minute r).overstay = 0))
    ∧ (∀ (start rate : Nat → Nat), (∀ u, start u = r.entryMinute + r.paidMinutes + tariffGrace t r.cls + u * tariffUnit t r.cls) →
        (∀ u, u < (settlementWorking t wrapped minute r).units →
          ∃ j, j < tariffBandCount t ∧ tariffStart t j ≤ start u
            ∧ (∀ k, j < k → k < tariffBandCount t → start u < tariffStart t k) ∧ rate u = tariffRate t j r.cls) →
        (settlementWorking t wrapped minute r).timeSum
          = ((List.range (settlementWorking t wrapped minute r).units).map rate).sum)
    ∧ ((settlementWorking t wrapped minute r).stay ≤ r.paidMinutes + tariffGrace t r.cls → 1 ≤ tariffUnit t r.cls →
        (settlementWorking t wrapped minute r).units = 0 ∧ (settlementWorking t wrapped minute r).timeSum = 0)
    ∧ (∀ o u, o = (settlementWorking t wrapped minute r).overstay → u = tariffUnit t r.cls → 1 ≤ u →
        o ≤ (settlementWorking t wrapped minute r).units * u ∧ (settlementWorking t wrapped minute r).units * u < o + u)
    ∧ (settlementWorking t wrapped minute r).cabinSum = tariffCabinRate t r.cls * r.overstay
    ∧ (settlementWorking t wrapped minute r).rounded
        = ((settlementWorking t wrapped minute r).timeSum + (settlementWorking t wrapped minute r).cabinSum + 8) / 16
    ∧ settlementCharge t (settlementWorking t wrapped minute r) r
        = min (settlementWorking t wrapped minute r).rounded (tariffCap t r.cls)

/-- R99: the total is shifted right four places and the eights bit, the bit last shifted out, is added: F divided by 16,
plus 1 where the remainder is 8 or above and 0 where it is 7 or below. A total of 1 to 7 gives 0; a charge lies from 0 to
11,796,300; the rounding is made once, on the total. -/
def Obligations.TotalsRoundedHalfUp : Prop :=
  (∀ F : Nat, roundCents F = (F >>> 4) + (F.testBit 3).toNat)
  ∧ (∀ F : Nat, (8 ≤ F % 16 → roundCents F = F / 16 + 1) ∧ (F % 16 ≤ 7 → roundCents F = F / 16))
  ∧ (∀ F : Nat, 1 ≤ F → F ≤ 7 → roundCents F = 0)
  ∧ (∀ F : Nat, F ≤ 188740800 → roundCents F ≤ 11796300)
  ∧ (∀ (t : List Byte) (wrapped : Bool) (minute : Nat) (r : BandRecord),
    (settlementWorking t wrapped minute r).total
        = (settlementWorking t wrapped minute r).timeSum + (settlementWorking t wrapped minute r).cabinSum
      ∧ (settlementWorking t wrapped minute r).rounded = roundCents (settlementWorking t wrapped minute r).total)
  ∧ roundCents 1927 = 120 ∧ roundCents 1928 = 121 ∧ roundCents 1943 = 121 ∧ roundCents 1944 = 122

/-! ## Exit lanes (spec 06) -/

/-- A band In that holds no locker and no cabin, inserted at an Idle lane (R110 to R112): its queue entry is removed, or its
offer withdrawn and the cabin offered to the head of the queue where a band waits (R62, R66, R74). With a charge of 0 its
record is freed, the band leaving its party first (R19), and the lane is Passing; with a charge the lane holds it for the
charge until the quote expiry, and its record is Quoted. An insertion at a Passing lane is refused with BY, and one at a
Holding or Unreachable lane changes nothing (R108). At an Idle lane a band unknown, barred, Quoted, with a locker or with a
cabin is refused, each with its slot action and its text (that a refusal's code is written as the standing text of the
display is DEDUCED, log entry 36), and a master band opens the gate and is given back (R109). A PassSensed event makes a
Passing lane Idle with no notice, and changes nothing at any other (R116). A CollectorFault event raises StationHealth with
the lane's address and state, and changes nothing of the lane (R117). -/
def Obligations.LaneInsertionsAndEvents : Prop :=
  (∀ (l : Nat) (e : Lane) (r : BandRecord) (live : List Byte) (s t : State), s.xlu.find l = some e → e.state = .idle →
    s.bdr.find r.number = some r → r.state = .inside → r.lockers = [] → (∀ n, r.link ≠ some (.holding n)) →
    (∀ n c, r.link = some (.offered n) → s.cbu.find n = some c → ∀ x ∈ s.cbu.queue c.group, x.band ≠ r.number) →
    s.tfs.live = some live → t = insertBand l r.number (.band r) s →
    (∀ w, w = settlementWorking live s.sck.wrapped (s.sck.counter / 60) r →
      (settlementCharge live w r = 0 →
        t.xlu.find l = some
          { e with state := .passing, band := some r.number, cause := some .collected, quoteAmount := none,
                   quoteExpiry := none, passExpiry := some ((s.sck.counter + (laneSetting s l).passWindow) % 86400),
                   lastExpiry := none, slot := some r.number }
        ∧ t.bdr.find r.number = none ∧ t.bdr.parties = partiesWithout r.number r.party s.bdr.parties
        ∧ KeepsAllBut [.bdr, .cbu, .xlu, .flm, .lkc] s t)
      ∧ (settlementCharge live w r ≠ 0 →
        t.xlu.find l = some
          { e with state := .holding, band := some r.number, cause := none, quoteAmount := some (settlementCharge live w r),
                   quoteExpiry := some ((s.sck.counter + (laneSetting s l).quoteWindow) % 86400), passExpiry := none,
                   lastExpiry := none, slot := some r.number }
        ∧ t.bdr.find r.number = some
            { r with state := .quoted
                     quote := some { lane := l, amount := settlementCharge live w r,
                                     expiry := (s.sck.counter + (laneSetting s l).quoteWindow) % 86400 }
                     link := none }
        ∧ t.bdr.parties = s.bdr.parties ∧ t.cnu.bits.getLsbD 3 = true
        ∧ KeepsAllBut [.bdr, .cbu, .xlu, .flm, .lkc, .cnu] s t))
    ∧ (∀ m, m ≠ l → t.xlu.find m = s.xlu.find m)
    ∧ (r.link = none → t.cbu = s.cbu ∧ ∀ x, x ≠ r.number → t.bdr.find x = s.bdr.find x)
    ∧ (∀ g ticket, r.link = some (.queued g ticket) →
      t.cbu.queue g = (s.cbu.queue g).filter (fun x => x.band ≠ r.number) ∧ (∀ k, k ≠ g → t.cbu.queue k = s.cbu.queue k)
      ∧ t.cbu.cabins = s.cbu.cabins ∧ ∀ x, x ≠ r.number → t.bdr.find x = s.bdr.find x)
    ∧ (∀ n c, r.link = some (.offered n) → s.cbu.find n = some c →
      (s.cbu.queue c.group = [] ∨ (c.state = .unreachable ∧ s.cbu.lowestFree c.group = none) →
        t.cbu.find n = some (c.unoffered.act .free) ∧ (∀ m, m ≠ n → t.cbu.find m = s.cbu.find m)
        ∧ t.cbu.groups = s.cbu.groups ∧ ∀ x, x ≠ r.number → t.bdr.find x = s.bdr.find x)
      ∧ (∀ next rest re, c.state ≠ .unreachable → s.cbu.queue c.group = next :: rest → s.cbu.lowestFree c.group = none →
        s.bdr.find next.band = some re →
        t.cbu.find n = some (c.offeredTo next ((s.sck.counter + (groupSetting s c.group).offerWindow) % 86400))
        ∧ (∀ m, m ≠ n → t.cbu.find m = s.cbu.find m) ∧ t.cbu.queue c.group = rest
        ∧ t.bdr.find next.band = some { re with link := some (.offered n) }
        ∧ ∀ x, x ≠ r.number → x ≠ next.band → t.bdr.find x = s.bdr.find x)))
  ∧ (∀ (l : Nat) (e : Lane) (b : BandNo) (seen : Recognised) (s t : State), s.xlu.find l = some e → t = insertBand l b seen s →
    (e.state = .holding ∨ e.state = .unreachable → t = s)
    ∧ (∀ act text,
      (e.state = .passing ∧ act = .giveBack ∧ text = .code .byCode)
        ∨ (e.state = .idle ∧ seen = .unknown ∧ act = .giveBack ∧ text = .code .unknown)
        ∨ (e.state = .idle ∧ seen = .barred ∧ act = .retain ∧ text = .code .br)
        ∨ (∃ r, e.state = .idle ∧ seen = .band r ∧ act = .giveBack ∧
            ((r.state = .quoted ∧ text = .code .se)
              ∨ (r.state ≠ .quoted ∧ ∃ n more, r.lockers = n :: more ∧ text = .lockerRefusal n)
              ∨ (r.state ≠ .quoted ∧ r.lockers = [] ∧ ∃ n, r.link = some (.holding n) ∧ text = .cabinRefusal n))) →
      t.xlu.find l = some { e with slot := some b } ∧ (∀ m, m ≠ l → t.xlu.find m = s.xlu.find m)
      ∧ KeepsAllBut [.xlu, .flm] s t ∧ LaneRefusalShown l act b text s t)
    ∧ (e.state = .idle → seen = .master →
      t.xlu.find l = some
          { e with state := .passing, band := some b, cause := some .master, quoteAmount := none, quoteExpiry := none,
                   passExpiry := some ((s.sck.counter + (laneSetting s l).passWindow) % 86400), slot := some b }
      ∧ (∀ m, m ≠ l → t.xlu.find m = s.xlu.find m) ∧ KeepsAllBut [.xlu, .flm, .lkc] s t
      ∧ PatternPlayed (l + 85) .accept s t
      ∧ (∀ st, s.flm.find (l + 85) = some st → ∃ st', t.flm.find (l + 85) = some st'
        ∧ (st.value .slotAction ≠ none → st'.value .slotAction = some (.slotAction (some (.giveBack, b))))
        ∧ (st.value .gate ≠ none →
            st'.value .gate = some (.gate (.openUntil ((s.sck.counter + (laneSetting s l).passWindow) % 86400)))))))
  ∧ (∀ (l : Nat) (e : Lane) (s t : State), l < 4 → s.xlu.find l = some e → t = routeEvent (l + 85) .passSensed s →
    (e.state = .passing →
      t.xlu.find l = some { e with state := .idle, band := none, cause := none, passExpiry := none }
      ∧ (∀ m, m ≠ l → t.xlu.find m = s.xlu.find m) ∧ t.lkc.notices = s.lkc.notices ∧ KeepsAllBut [.xlu, .flm, .lkc] s t)
    ∧ (e.state ≠ .passing → t = s))
  ∧ (∀ (l : Nat) (e : Lane) (s t : State), l < 4 → s.xlu.find l = some e → t = routeEvent (l + 85) .collectorFault s →
    t.cnu = { s.cnu with bits := s.cnu.bits ||| 0x10#10 } ∧ KeepsAllBut [.lkc, .cnu] s t
    ∧ (s.cnu.mask.getLsbD 4 = false → t.lkc = s.lkc)
    ∧ (s.cnu.mask.getLsbD 4 = true → s.lkc.notices.length < 32 → s.lkc.tx ≠ .idle →
      t.lkc.notices = s.lkc.notices ++ [{ content := .collectorFault (l + 85) e.state, second := s.sck.counter }]))

/-- PAID (R113): a sufficient amount collects the held band, which leaves its party (R19) as its record is freed; a short
one is answered Short; an Unreachable lane answers Busy; a lane whose last expiry names the band Expired; any other NoSuch.
-/
def Obligations.PaidSettlesAQuote : Prop :=
  ∀ (tag : Byte) (body : List Byte) (s : State) (e : Lane) (q : Nat), Taken .paid tag body s →
    s.xlu.find (paidArgs body).lane = some e → (e.acting = .holding → e.quoteAmount = some q) →
    (e.state = .holding → e.band = some (paidArgs body).band → q ≤ (paidArgs body).amount →
      ∃ t, exec (.paid tag body) s = .next t
        ∧ t.xlu.find (paidArgs body).lane = some
            { e with state := .passing, cause := some .paid, quoteAmount := none, quoteExpiry := none,
                     passExpiry := some ((s.sck.counter + (laneSetting s (paidArgs body).lane).passWindow) % 86400) }
        ∧ (∀ m, m ≠ (paidArgs body).lane → t.xlu.find m = s.xlu.find m)
        ∧ t.bdr.find (paidArgs body).band = none
        ∧ (∀ r, s.bdr.find (paidArgs body).band = some r →
            t.bdr.parties = partiesWithout (paidArgs body).band r.party s.bdr.parties)
        ∧ (∀ b, b ≠ (paidArgs body).band → t.bdr.find b = s.bdr.find b)
        ∧ Answered t (doneAnswer tag (.paid q (paidArgs body).amount)) ∧ KeepsAllBut [.bdr, .xlu, .flm, .lkc] s t)
    ∧ (e.state = .holding → e.band = some (paidArgs body).band → (paidArgs body).amount < q →
      exec (.paid tag body) s
        = .next (placeAnswer { tag := tag, code := .short, clamped := false, body := .quoteAmount q } (popOrder s)))
    ∧ (∀ x, e.state = .unreachable → e.acting = .holding → e.band = some (paidArgs body).band → e.quoteExpiry = some x →
      exec (.paid tag body) s
        = .next (placeAnswer { tag := tag, code := .busy, clamped := false, body := .quoteStanding q x } (popOrder s)))
    ∧ (∀ x, ¬(e.acting = .holding ∧ e.band = some (paidArgs body).band) → e.lastExpiry = some ((paidArgs body).band, x) →
      exec (.paid tag body) s
        = .next (placeAnswer { tag := tag, code := .expired, clamped := false, body := .expiredAt x } (popOrder s)))
    ∧ (¬(e.acting = .holding ∧ e.band = some (paidArgs body).band) →
      (∀ b x, e.lastExpiry = some (b, x) → b ≠ (paidArgs body).band) →
      exec (.paid tag body) s = .next (placeAnswer (plainAnswer tag .noSuch) (popOrder s)))

/-- CANCEL QUOTE gives a quote up (R115): the lane, or what an Unreachable one remembers, is Idle, the band In with no
quote, and no condition is raised; READ LANE reports and changes nothing (R121). -/
def Obligations.QuoteCancelledOrRead : Prop :=
  (∀ (tag : Byte) (body : List Byte) (s : State) (e : Lane) (b : BandNo) (r : BandRecord) (q : Nat),
    Taken .cancelQuote tag body s → s.xlu.find (byteAt body 0) = some e → e.acting = .holding → e.band = some b →
    e.quoteAmount = some q → s.bdr.find b = some r →
    ∃ t, exec (.cancelQuote tag body) s = .next t
      ∧ t.xlu.find (byteAt body 0) = some ({ e with band := none, quoteAmount := none, quoteExpiry := none }.act .idle)
      ∧ t.bdr.find b = some { r with state := .inside, quote := none }
      ∧ (∀ x, x ≠ b → t.bdr.find x = s.bdr.find x)
      ∧ Answered t (doneAnswer tag (.quoteCancelled b q)) ∧ KeepsAllBut [.bdr, .xlu, .flm, .lkc] s t)
  ∧ (∀ (tag : Byte) (body : List Byte) (s : State) (e : Lane), Taken .cancelQuote tag body s →
    s.xlu.find (byteAt body 0) = some e → e.acting ≠ .holding →
    exec (.cancelQuote tag body) s = .next (placeAnswer (plainAnswer tag .noSuch) (popOrder s)))
  ∧ (∀ (tag : Byte) (body : List Byte) (s : State) (e : Lane), Taken .readLane tag body s →
    s.xlu.find (byteAt body 0) = some e →
    exec (.readLane tag body) s
      = .next (placeAnswer (doneAnswer tag (.lane (byteAt body 0) e (s.flm.health (byteAt body 0 + 85)))) (popOrder s)))

/-! ## Timers (R125) -/

/-- A timer's command runs the clock to the timer's second and takes the expiry there; with no such timer standing nothing
changes (R125; the running is the model's choice, log entry 2). -/
def Obligations.TimerCommandsRunTheClock : Prop :=
  ∀ s : State,
    (∀ n x, openingExpiryOf n s = some x →
      exec (.openingExpiry n) s = .next (takeOpeningExpiry n (runClock (secondsUntil s.now x) s)))
    ∧ (∀ n x, cabinTimer n .offered (·.offerExpiry) s = some x →
      exec (.offerExpiry n) s = .next (takeOfferExpiry n (runClock (secondsUntil s.now x) s)))
    ∧ (∀ n x, cabinTimer n .occupied (·.entryExpiry) s = some x →
      exec (.entryExpiry n) s = .next (takeEntryExpiry n (runClock (secondsUntil s.now x) s)))
    ∧ (∀ n x, cabinTimer n .cleaning (·.cleaningExpiry) s = some x →
      exec (.cleaningExpiry n) s = .next (takeCleaningExpiry n (runClock (secondsUntil s.now x) s)))
    ∧ (∀ n x, abandonTimer n s = some x →
      exec (.abandonment n) s = .next (takeAbandonment n (runClock (secondsUntil s.now x) s)))
    ∧ (∀ l x, laneTimer l .holding (·.quoteExpiry) s = some x →
      exec (.quoteExpiry l) s = .next (takeQuoteExpiry l (runClock (secondsUntil s.now x) s)))
    ∧ (∀ l x, laneTimer l .passing (·.passExpiry) s = some x →
      exec (.passExpiry l) s = .next (takePassExpiry l (runClock (secondsUntil s.now x) s)))
    ∧ (∀ tag w, s.lkc.watches.find? (fun w => w.tag = tag) = some w →
      exec (.watchExpiry tag) s = .next (takeWatchExpiry tag (runClock (secondsUntil s.now w.expiry) s)))
    ∧ (∀ addr k x, entryTimer addr (timedKey k) s = some x →
      exec (.desiredEntryExpiry addr k) s = .next (takeTimedEntry addr (timedKey k) (runClock (secondsUntil s.now x) s)))
    ∧ (∀ n, openingExpiryOf n s = none → exec (.openingExpiry n) s = .next s)
    ∧ (∀ n, cabinTimer n .offered (·.offerExpiry) s = none → exec (.offerExpiry n) s = .next s)
    ∧ (∀ n, cabinTimer n .occupied (·.entryExpiry) s = none → exec (.entryExpiry n) s = .next s)
    ∧ (∀ n, cabinTimer n .cleaning (·.cleaningExpiry) s = none → exec (.cleaningExpiry n) s = .next s)
    ∧ (∀ n, abandonTimer n s = none → exec (.abandonment n) s = .next s)
    ∧ (∀ l, laneTimer l .holding (·.quoteExpiry) s = none → exec (.quoteExpiry l) s = .next s)
    ∧ (∀ l, laneTimer l .passing (·.passExpiry) s = none → exec (.passExpiry l) s = .next s)
    ∧ (∀ tag, (∀ w ∈ s.lkc.watches, w.tag ≠ tag) → exec (.watchExpiry tag) s = .next s)
    ∧ (∀ addr k, entryTimer addr (timedKey k) s = none → exec (.desiredEntryExpiry addr k) s = .next s)

/-- OPENING_EXPIRY at its second (R34, R46): the locker goes to Held with a holder and to Orphaned without, or remembers
it while Unreachable. QUOTE_EXPIRY at its second (R114): the lane, or what an Unreachable one remembers, is Idle and
remembers the expiry, the band is In with no quote, and the Settlement condition set. PASS_EXPIRY: the lane is Idle and
NoPass raised (R116). -/
def Obligations.OpeningAndLaneWindowsEnd : Prop :=
  (∀ (n : Nat) (l : Locker) (s : State), s.lmu.find n = some l → l.acting = .opening → l.openingExpiry = some s.sck.counter →
    ∃ t, exec (.openingExpiry n) s = .next t
      ∧ t.lmu.find n = some
          ({ l with openedBy := none, openingExpiry := none }.act (if l.holder.isSome then .held else .orphaned))
      ∧ (∀ m, m ≠ n → t.lmu.find m = s.lmu.find m) ∧ KeepsAllBut [.lmu, .flm, .lkc] s t)
  ∧ ((∀ (l : Nat) (e : Lane) (b : BandNo) (r : BandRecord) (s : State), s.xlu.find l = some e → e.acting = .holding →
    e.quoteExpiry = some s.sck.counter → e.band = some b → s.bdr.find b = some r →
    ∃ t, exec (.quoteExpiry l) s = .next t
      ∧ t.xlu.find l = some
          ({ e with band := none, quoteAmount := none, quoteExpiry := none, lastExpiry := some (b, s.sck.counter) }.act .idle)
      ∧ (∀ m, m ≠ l → t.xlu.find m = s.xlu.find m)
      ∧ t.bdr.find b = some { r with state := .inside, quote := none } ∧ (∀ x, x ≠ b → t.bdr.find x = s.bdr.find x)
      ∧ t.cnu.bits.getLsbD 3 = true ∧ KeepsAllBut [.bdr, .xlu, .flm, .lkc, .cnu] s t)
  ∧ (∀ (l : Nat) (e : Lane) (s : State), s.xlu.find l = some e → e.acting = .passing → e.passExpiry = some s.sck.counter →
    ∃ t, exec (.passExpiry l) s = .next t
      ∧ t.xlu.find l = some ({ e with band := none, cause := none, passExpiry := none }.act .idle)
      ∧ (∀ m, m ≠ l → t.xlu.find m = s.xlu.find m) ∧ t.cnu.bits.getLsbD 3 = true
      ∧ KeepsAllBut [.xlu, .flm, .lkc, .cnu] s t))

/-- OFFER_EXPIRY at its second (R65): after a second miss the band leaves the cabin system; after a first, with an empty
queue and no other Free cabin, it is offered the same cabin again with one miss; where bands wait, the cabin is offered to
the head of the queue and the band stands at its tail with one miss (R57 (b), R62). CallMissed is raised in every case. -/
def Obligations.OfferMissed : Prop :=
  (∀ (n : Nat) (c : Cabin) (b : BandNo) (r : BandRecord) (ticket join : Nat) (s : State), s.cbu.find n = some c →
    c.state = .offered → c.offerExpiry = some s.sck.counter → c.band = some b → c.ticketShown = some ticket →
    c.offerJoin = some join → s.bdr.find b = some r → c.group < s.cbu.groups.length → s.cbu.queue c.group = [] →
    s.cbu.lowestFree c.group = none →
    (c.offerMisses = some 1 →
      ∃ t, exec (.offerExpiry n) s = .next t
        ∧ t.cbu.find n = some
            { c with state := .free, band := none, ticketShown := none, offerExpiry := none, offerMisses := none,
                     offerJoin := none }
        ∧ t.bdr.find b = some { r with link := none } ∧ t.cbu.queue c.group = [] ∧ t.cnu.bits.getLsbD 2 = true
        ∧ KeepsAllBut [.bdr, .cbu, .flm, .lkc, .cnu] s t)
    ∧ (c.offerMisses = some 0 →
      ∃ t, exec (.offerExpiry n) s = .next t
        ∧ t.cbu.find n = some
            { c with offerExpiry := some ((s.sck.counter + (groupSetting s c.group).offerWindow) % 86400),
                     offerMisses := some 1 }
        ∧ t.bdr.find b = some { r with link := some (.offered n) } ∧ t.cbu.queue c.group = []
        ∧ t.cnu.bits.getLsbD 2 = true ∧ KeepsAllBut [.bdr, .cbu, .flm, .lkc, .cnu] s t))
  ∧ (∀ (n : Nat) (c : Cabin) (b : BandNo) (r re : BandRecord) (ticket join : Nat) (e : QueueEntry) (rest : List QueueEntry)
    (s : State), s.cbu.find n = some c → c.state = .offered → c.offerExpiry = some s.sck.counter → c.band = some b →
    c.ticketShown = some ticket → c.offerJoin = some join → c.offerMisses = some 0 → s.bdr.find b = some r →
    s.cbu.queue c.group = e :: rest → rest.length < 31 → e.band ≠ b → s.bdr.find e.band = some re →
    s.cbu.lowestFree c.group = none →
    ∃ t, exec (.offerExpiry n) s = .next t
      ∧ t.cbu.find n = some (c.offeredTo e ((s.sck.counter + (groupSetting s c.group).offerWindow) % 86400))
      ∧ t.cbu.queue c.group = rest ++ [{ band := b, ticket := ticket, join := join, misses := 1 }]
      ∧ t.bdr.find b = some { r with link := some (.queued c.group ticket) }
      ∧ t.bdr.find e.band = some { re with link := some (.offered n) }
      ∧ t.cnu.bits.getLsbD 2 = true ∧ KeepsAllBut [.bdr, .cbu, .flm, .lkc, .cnu] s t)

/-- ENTRY_EXPIRY at its second makes the entry expiry absent and nothing else (R67); CLEANING_EXPIRY makes the cabin Free,
or OutOfService where that is pending (R70, R71), and a cabin that becomes Free while a band waits is offered to the head of
the queue in the same act (R62). ABANDONMENT at its second (R69): the cabin is released as by R68, and the CabinOverstay
condition set. -/
def Obligations.CabinTimersEnd : Prop :=
  (∀ (n : Nat) (c : Cabin) (s : State), s.cbu.find n = some c →
    (c.acting = .occupied → c.entryExpiry = some s.sck.counter →
      exec (.entryExpiry n) s = .next { s with cbu := s.cbu.put n { c with entryExpiry := none } })
    ∧ (c.acting = .cleaning → c.cleaningExpiry = some s.sck.counter →
      s.cbu.queue c.group = [] ∨ c.state = .unreachable ∨ c.pendingOut = true →
      ∃ t, exec (.cleaningExpiry n) s = .next t
        ∧ t.cbu.find n = some
            { { c with cleaningExpiry := none }.act (if c.pendingOut then .outOfService else .free) with pendingOut := false }
        ∧ (∀ m, m ≠ n → t.cbu.find m = s.cbu.find m) ∧ t.cbu.groups = s.cbu.groups ∧ KeepsAllBut [.cbu, .flm, .lkc] s t)
    ∧ (∀ e rest r, c.state = .cleaning → c.pendingOut = false → c.cleaningExpiry = some s.sck.counter →
      s.cbu.queue c.group = e :: rest → s.cbu.lowestFree c.group = none → s.bdr.find e.band = some r →
      ∃ t, exec (.cleaningExpiry n) s = .next t ∧ OfferedToHead n { c with cleaningExpiry := none } e rest r s t
        ∧ KeepsAllBut [.bdr, .cbu, .flm, .lkc] s t))
  ∧ (∀ (n : Nat) (c : Cabin) (b : BandNo) (r : BandRecord) (since : Nat) (s : State), s.cbu.find n = some c →
    c.state = .occupied → c.doorOpenSince = some since →
    (since + (groupSetting s c.group).abandonTime) % 86400 = s.sck.counter → c.band = some b → s.bdr.find b = some r →
    s.cbu.queue c.group = [] →
    ∃ t, exec (.abandonment n) s = .next t
      ∧ t.bdr.find b = some { r with overstay := min (r.overstay + (-c.counter).toNat) 1440, link := none }
      ∧ (∃ c', t.cbu.find n = some c' ∧ c'.band = none ∧ c'.doorOpenSince = none
          ∧ c'.state = (if c.pendingOut then .outOfService
              else if (groupSetting s c.group).cleaningTime = 0 then .free else .cleaning))
      ∧ t.cnu.bits.getLsbD 1 = true ∧ KeepsAllBut [.bdr, .cbu, .flm, .lkc, .cnu] s t)

/-! ## Site clock and day (spec 07) -/

/-- SET CLOCK (R127): the counter is set and the clock valid; every timer keeps the time remaining to it: opening expiries,
the offer, entry and cleaning expiries of cabins, the expiries of lanes and of the records' quotes, timed entries of the
images, watches, and door-open since, from which an abandon time runs (DEDUCED, log entry 20). Where the minute of day
changes, one boundary is raised after the timers are carried over (R126 (c)): the occupancy count, once (R67), and the swap
of a Complete tariff bank (R86). That the count comes before the swap is the model's choice (log entry 7): R126 says that
the receivers need no order. The mark of a running write, which the swap sets, is DEDUCED (log entry 16). Nothing else is
counted, and with neither a cabin to count nor a bank to swap no condition and no notice is raised. A timed entry keeps its
remaining time, but for the bolt of an Occupied cabin that the count brings into overstay, which is written from the carried
entry expiry (R56; the value: DEDUCED, log entry 43); no record stands where SET CLOCK passes in a Configured part, so that
by R55 no run shows such a cabin. A second above 86,399 is refused Range, and an Open day or standing records in a
Configured part NotClosed. -/
def Obligations.SetClockCarriesTheTimers : Prop :=
  (∀ (tag : Byte) (body : List Byte) (s : State), Taken .setClock tag body s → u32At body 0 ≤ 86399 →
    ¬(s.configured = true ∧ (s.sck.day = .opened ∨ s.bdr.bands ≠ [])) →
    ∃ t, exec (.setClock tag body) s = .next t
      ∧ t.sck = { s.sck with counter := u32At body 0, clockValid := true }
      ∧ t.xlu.lanes = s.xlu.lanes.map (fun e =>
          { e with quoteExpiry := e.quoteExpiry.map (carryTimer s.sck.counter (u32At body 0))
                   passExpiry := e.passExpiry.map (carryTimer s.sck.counter (u32At body 0)) })
      ∧ t.lkc.watches = s.lkc.watches.map (fun w => { w with expiry := carryTimer s.sck.counter (u32At body 0) w.expiry })
      ∧ t.lmu = { banks := s.lmu.banks.map (fun b =>
          { b with lockers := b.lockers.map (fun l =>
              { l with openingExpiry := l.openingExpiry.map (carryTimer s.sck.counter (u32At body 0)) }) }) }
      ∧ t.bdr = { s.bdr with bands := s.bdr.bands.map (fun r =>
          { r with quote := r.quote.map (fun q => { q with expiry := carryTimer s.sck.counter (u32At body 0) q.expiry }) }) }
      ∧ (∀ n c, s.cbu.find n = some c →
          t.cbu.find n = some
            { c with
              offerExpiry := c.offerExpiry.map (carryTimer s.sck.counter (u32At body 0))
              entryExpiry := c.entryExpiry.map (carryTimer s.sck.counter (u32At body 0))
              cleaningExpiry := c.cleaningExpiry.map (carryTimer s.sck.counter (u32At body 0))
              doorOpenSince := c.doorOpenSince.map (carryTimer s.sck.counter (u32At body 0))
              counter :=
                if u32At body 0 / 60 ≠ s.sck.counter / 60 ∧ c.acting = .occupied ∧ -1440 < c.counter then c.counter - 1
                else c.counter
              overstayFlag :=
                decide (u32At body 0 / 60 ≠ s.sck.counter / 60 ∧ c.acting = .occupied ∧ c.counter = 1) || c.overstayFlag })
      ∧ t.cbu.groups = s.cbu.groups
      ∧ (u32At body 0 / 60 ≠ s.sck.counter / 60 → s.tfs.load = .complete →
          t.tfs.live = some s.tfs.standby ∧ t.tfs.standby = List.replicate 142 0 ∧ t.tfs.load = .empty
          ∧ t.tfs.store.bytes = s.tfs.standby ∧ t.tfs.store.writing = true ∧ t.cnu.bits.getLsbD 5 = true)
      ∧ (u32At body 0 / 60 = s.sck.counter / 60 ∨ s.tfs.load ≠ .complete → t.tfs = s.tfs)
      ∧ (u32At body 0 / 60 = s.sck.counter / 60
            ∨ (s.tfs.load ≠ .complete ∧ ∀ c ∈ s.cbu.cabins, c.acting = .occupied → c.counter ≠ 1) →
          t.cnu = s.cnu ∧ t.lkc.notices = s.lkc.notices)
      ∧ (∀ u, u = carryTimers (carryTimer s.sck.counter (u32At body 0)) (popOrder s) → ∀ v,
          v = { u with sck := { s.sck with counter := u32At body 0, clockValid := true } } →
          t = placeAnswer (doneAnswer tag (.clockSet (u32At body 0) s.sck.counter))
            (if u32At body 0 / 60 = s.sck.counter / 60 then v else swapTariff (u32At body 0 / 60) (countOccupancy v)))
      ∧ (∀ addr st k x, s.flm.find addr = some st →
          (u32At body 0 / 60 ≠ s.sck.counter / 60 → timedKey k = .bolt 0 →
            ∀ n c, s.cbu.find n = some c → c.state = .occupied → c.counter = 1 → addr ≠ n + 33) →
          (st.value (timedKey k) = some (.bolt (.unlockedUntil x)) → ∃ st', t.flm.find addr = some st'
            ∧ st'.value (timedKey k) = some (.bolt (.unlockedUntil (carryTimer s.sck.counter (u32At body 0) x))))
          ∧ (st.value (timedKey k) = some (.gate (.openUntil x)) → ∃ st', t.flm.find addr = some st'
            ∧ st'.value (timedKey k) = some (.gate (.openUntil (carryTimer s.sck.counter (u32At body 0) x)))))
      ∧ (∀ n c st w, u32At body 0 / 60 ≠ s.sck.counter / 60 → s.cbu.find n = some c → c.state = .occupied →
          c.counter = 1 → s.flm.find (n + 33) = some st → st.value (.bolt 0) = some w →
          ∃ st', t.flm.find (n + 33) = some st'
            ∧ st'.value (.bolt 0) = some (.bolt (match c.entryExpiry with
                | some x => .unlockedUntil (carryTimer s.sck.counter (u32At body 0) x)
                | none => .locked)))
      ∧ Answered t (doneAnswer tag (.clockSet (u32At body 0) s.sck.counter)) ∧ t.sts = s.sts ∧ t.pending = s.pending)
  ∧ (∀ former set x : Nat, former < 86400 → set < 86400 → x < 86400 →
    carryTimer former set x < 86400 ∧ secondsUntil set (carryTimer former set x) = secondsUntil former x)
  ∧ (∀ (tag : Byte) (body : List Byte) (s : State), Taken .setClock tag body s → 86399 < u32At body 0 →
    exec (.setClock tag body) s = .next (placeAnswer (plainAnswer tag .range) (popOrder s)))
  ∧ (∀ (tag : Byte) (body : List Byte) (s : State), Taken .setClock tag body s → u32At body 0 ≤ 86399 →
    s.configured = true → s.sck.day = .opened ∨ s.bdr.bands ≠ [] →
    exec (.setClock tag body) s = .next (placeAnswer (plainAnswer tag .notClosed) (popOrder s)))

/-- ADJUST CLOCK (R128): the number is added to the counter; out of range, or across midnight, it is refused Range, and on a
clock not valid Invalid. A forward change takes each second in turn, with its boundary where a minute begins and the timers
reached at it (R126 (b)): every opening expiry and quote expiry passed over has been taken, and those not reached stand
(R128; that what is due at the present second is taken first: DEDUCED, log entry 34). A backward change raises the
boundaries of the minutes a−1 down to b, reaches no timer, and leaves every other block (R128; the second of each boundary:
DEDUCED, log entry 25). The order within one second, its boundary before its expiries and the occupancy count before the
swap, is the model's choice (log entry 7): R126 says that the receivers need none. Either way a Complete tariff bank is
swapped in where a minute is crossed (R86), and none where none is. -/
def Obligations.AdjustClockMovesTheCounter : Prop :=
  (∀ (tag : Byte) (body : List Byte) (s : State), Taken .adjustClock tag body s → ClockInRange s →
    (-300 ≤ s16At body 0 → s16At body 0 ≤ 300 → 0 ≤ s.sck.counter + s16At body 0 →
      s.sck.counter + s16At body 0 ≤ 86399 → s.sck.clockValid = true →
      ∃ t, exec (.adjustClock tag body) s = .next t ∧ (t.sck.counter : Int) = s.sck.counter + s16At body 0
        ∧ t.sck.clockValid = true ∧ t.sck.day = s.sck.day ∧ t.sck.openMinute = s.sck.openMinute
        ∧ t.sck.wrapped = s.sck.wrapped ∧ t.sts = s.sts
        ∧ Answered t (doneAnswer tag (.clockAdjusted (s.sck.counter + s16At body 0).toNat)))
    ∧ (s16At body 0 < -300 ∨ 300 < s16At body 0 ∨ s.sck.counter + s16At body 0 < 0
        ∨ 86399 < s.sck.counter + s16At body 0 →
      exec (.adjustClock tag body) s = .next (placeAnswer (plainAnswer tag .range) (popOrder s)))
    ∧ (-300 ≤ s16At body 0 → s16At body 0 ≤ 300 → 0 ≤ s.sck.counter + s16At body 0 →
      s.sck.counter + s16At body 0 ≤ 86399 → s.sck.clockValid = false →
      exec (.adjustClock tag body) s = .next (placeAnswer (plainAnswer tag .invalid) (popOrder s))))
  ∧ (∀ (tag : Byte) (body : List Byte) (s : State) (b : Nat), Taken .adjustClock tag body s → ClockInRange s →
    -300 ≤ s16At body 0 → s16At body 0 ≤ 300 → (b : Int) = s.sck.counter + s16At body 0 → b ≤ 86399 →
    s.sck.clockValid = true →
    ∃ t, exec (.adjustClock tag body) s = .next t
      ∧ (b = s.sck.counter → KeepsAllBut [.lkc] s t)
      ∧ (s.tfs.load = .complete → b / 60 ≠ s.sck.counter / 60 →
          t.tfs.live = some s.tfs.standby ∧ t.tfs.load = .empty ∧ t.cnu.bits.getLsbD 5 = true)
      ∧ (s.tfs.load ≠ .complete ∨ b / 60 = s.sck.counter / 60 → t.tfs = s.tfs)
      ∧ (s.sck.counter < b →
          t = placeAnswer (doneAnswer tag (.clockAdjusted b)) (adjustForward (b - s.sck.counter) (takeDue (popOrder s)))
          ∧ (∀ n l x, s.lmu.find n = some l → l.acting = .opening → l.openingExpiry = some x →
              (s.sck.counter < x → x ≤ b →
                t.lmu.find n = some
                  ({ l with openedBy := none, openingExpiry := none }.act (if l.holder.isSome then .held else .orphaned)))
              ∧ (x < s.sck.counter ∨ b < x → t.lmu.find n = some l))
          ∧ (∀ k e x w, s.xlu.find k = some e → e.acting = .holding → e.quoteExpiry = some x → e.band = some w →
              (s.sck.counter < x → x ≤ b →
                t.xlu.find k = some
                  ({ e with band := none, quoteAmount := none, quoteExpiry := none, lastExpiry := some (w, x) }.act .idle))
              ∧ (x < s.sck.counter ∨ b < x → t.xlu.find k = some e)))
      ∧ (b < s.sck.counter →
          t = placeAnswer (doneAnswer tag (.clockAdjusted b)) (adjustBack b (popOrder s))
          ∧ (∀ n c, s.cbu.find n = some c →
              ∃ c', t.cbu.find n = some c'
                ∧ (c.acting = .occupied → -1440 ≤ c.counter →
                    c'.counter = max (c.counter - ((s.sck.counter / 60 - b / 60 : Nat) : Int)) (-1440)
                    ∧ c' = { c with counter := c'.counter, overstayFlag := c'.overstayFlag })
                ∧ (c.acting ≠ .occupied → c' = c))
          ∧ KeepsAllBut [.cbu, .tfs, .sck, .flm, .lkc, .cnu] s t ∧ t.lkc.watches = s.lkc.watches))
  ∧ (∀ (n : Nat) (u : State), u.sck.counter + 1 < 86400 →
    adjustForward 0 u = u
    ∧ ((u.sck.counter + 1) % 60 ≠ 0 →
      adjustForward (n + 1) u = adjustForward n (takeDue { u with sck := { u.sck with counter := u.sck.counter + 1 } }))
    ∧ ((u.sck.counter + 1) % 60 = 0 →
      adjustForward (n + 1) u
        = adjustForward n (takeDue (swapTariff ((u.sck.counter + 1) / 60)
            (countOccupancy { u with sck := { u.sck with counter := u.sck.counter + 1 } })))))

/-- OPEN DAY that passes R131 opens the day at the present minute with the wrapped flag no and every next ticket 1, and
raises DayEvent; its four refusals, in order, change nothing. CLOSE DAY (R132): the day is Closed, every call queue empty,
DayEvent raised with the three numbers that the answer carries; open minute, wrapped flag, lockers and lanes kept. Every
cabin Offered, or remembering it, is withdrawn and Free, naming no band, the other cabins stand, and the link of every
band that was queued or offered a cabin is absent, the other records standing (R75). A Closed day is refused NotOpen. -/
def Obligations.DayOpensAndCloses : Prop :=
  (∀ (tag : Byte) (body : List Byte) (s : State), Taken .openDay tag body s →
    (s.sck.day = .closed → s.sck.clockValid = true → s.tfs.live.isSome = true → s.bdr.bands = [] →
      ∃ t, exec (.openDay tag body) s = .next t
        ∧ t.sck = { s.sck with day := .opened, openMinute := some (s.sck.counter / 60), wrapped := false }
        ∧ t.cbu = { s.cbu with groups := s.cbu.groups.map (fun g => { g with nextTicket := 1 }) }
        ∧ t.cnu.bits.getLsbD 6 = true ∧ Answered t (doneAnswer tag (.dayOpened (s.sck.counter / 60)))
        ∧ KeepsAllBut [.sck, .cbu, .lkc, .cnu] s t)
    ∧ (s.sck.day = .opened → exec (.openDay tag body) s = .next (placeAnswer (plainAnswer tag .notClosed) (popOrder s)))
    ∧ (s.sck.day = .closed → s.sck.clockValid = false →
      exec (.openDay tag body) s
        = .next (placeAnswer { tag := tag, code := .notReady, clamped := false, body := .notReady .clock } (popOrder s)))
    ∧ (s.sck.day = .closed → s.sck.clockValid = true → s.tfs.live = none →
      exec (.openDay tag body) s
        = .next (placeAnswer { tag := tag, code := .notReady, clamped := false, body := .notReady .tariff } (popOrder s)))
    ∧ (s.sck.day = .closed → s.sck.clockValid = true → s.tfs.live.isSome = true → s.bdr.bands ≠ [] →
      exec (.openDay tag body) s
        = .next (placeAnswer
            { tag := tag, code := .bandsRemain, clamped := false, body := .bandsRemain s.bdr.bands.length } (popOrder s))))
  ∧ (∀ (tag : Byte) (body : List Byte) (s : State), Taken .closeDay tag body s →
    (s.sck.day = .opened →
      ∃ t, exec (.closeDay tag body) s = .next t ∧ t.sck = { s.sck with day := .closed }
        ∧ (∀ g ∈ t.cbu.groups, g.queue = []) ∧ t.bdr.bands.map (·.number) = s.bdr.bands.map (·.number)
        ∧ (∀ n c, s.cbu.find n = some c →
            t.cbu.find n = some (if c.acting = .offered then c.unoffered.act .free else c))
        ∧ (∀ b r, s.bdr.find b = some r →
            ((∃ g, ∃ e ∈ s.cbu.queue g, e.band = b) ∨ (∃ c ∈ s.cbu.cabins, c.acting = .offered ∧ c.band = some b) →
              t.bdr.find b = some { r with link := none })
            ∧ ((∀ g, ∀ e ∈ s.cbu.queue g, e.band ≠ b) → (∀ c ∈ s.cbu.cabins, c.acting = .offered → c.band ≠ some b) →
              t.bdr.find b = some r))
        ∧ t.cnu.bits.getLsbD 6 = true
        ∧ Answered t (doneAnswer tag
            (.dayClosed s.bdr.bands.length
              ((s.lmu.banks.map (fun b => (b.lockers.filter (fun l => l.holder.isSome)).length)).sum)
              ((s.cbu.cabins.filter (fun c => c.state = .occupied)).length)))
        ∧ KeepsAllBut [.sck, .bdr, .cbu, .flm, .lkc, .cnu] s t)
    ∧ (s.sck.day = .closed → exec (.closeDay tag body) s = .next (placeAnswer (plainAnswer tag .notOpen) (popOrder s))))

/-- PURGE in a Closed day (R135): no band record and no party is left, and the wrapped flag is no; the clock, the open
minute, the tariff and site stores are kept. Every lane Holding, or remembering it, is Idle, and no lane remembers an
expiry (R123 (c)). Every locker Held, Opening or Open is given up, one Forced or Unreachable loses its holder and has its
orphan check set, an Unreachable one changing what it remembers, the others stand, and every lock bank not Lost has a
status read due (R51). Every cabin Occupied or Cleaning, or remembering it, is Free, or OutOfService where that is
pending, naming no band and with no timer, and the others stand (R77). Done carries the records freed, the quotes ended,
the lockers made Vacant, the lockers left Forced without a holder and the cabins freed, and five zeros where no record
stood (which lockers and cabins are counted: DEDUCED, log entry 23). In an Open day PURGE is refused NotClosed. A locker
given up or left Forced keeps its claim retention: DEDUCED (log entry 19). -/
def Obligations.PurgeClearsTheTenancy : Prop :=
  ∀ (tag : Byte) (body : List Byte) (s : State), Taken .purge tag body s →
    (s.sck.day = .closed →
      ∃ t, exec (.purge tag body) s = .next t ∧ t.bdr.bands = [] ∧ t.bdr.parties = [] ∧ t.bdr.masters = s.bdr.masters
        ∧ t.sck = { s.sck with wrapped := false }
        ∧ (∀ l e, s.xlu.find l = some e →
            t.xlu.find l = some
              (if e.acting = .holding then
                { e with band := none, quoteAmount := none, quoteExpiry := none, lastExpiry := none }.act .idle
              else { e with lastExpiry := none }))
        ∧ (∀ n l, s.lmu.find n = some l →
            (l.state = .held ∨ l.state = .opening ∨ l.state = .opened → t.lmu.find n = some l.givenUp)
            ∧ (l.state = .forced → t.lmu.find n = some { l with holder := none, orphanCheck := true })
            ∧ (l.state = .unreachable → ∃ l', t.lmu.find n = some l' ∧ l'.state = .unreachable ∧ l'.holder = none
                ∧ l'.orphanCheck = true
                ∧ l'.remembered = (if l.remembered = some .held ∨ l.remembered = some .opening ∨ l.remembered = some .opened then
                    some (if l.pendingOut then .outOfService else .vacant) else l.remembered))
            ∧ (l.state = .vacant ∨ l.state = .orphaned ∨ l.state = .outOfService → t.lmu.find n = some l))
        ∧ (∀ a st, t.flm.find a = some st → kindOf a = .lockBank → st.health ≠ .lost → st.statusDue.isSome = true)
        ∧ (∀ n c, s.cbu.find n = some c →
            t.cbu.find n = some
              (if c.acting = .occupied ∨ c.acting = .cleaning then
                { { c with band := none, overstayFlag := false, doorOpenSince := none, entryExpiry := none,
                           cleaningExpiry := none }.act (if c.pendingOut then .outOfService else .free) with pendingOut := false }
              else c))
        ∧ t.cbu.groups = s.cbu.groups
        ∧ (s.bdr.bands = [] → Answered t (doneAnswer tag (.purged 0 0 0 0 0)))
        ∧ (s.bdr.bands ≠ [] →
            Answered t (doneAnswer tag
              (.purged s.bdr.bands.length ((s.xlu.lanes.filter (fun e => e.acting = .holding)).length)
                ((s.lmu.banks.map (fun b =>
                  (b.lockers.filter (fun l => l.state = .held || l.state = .opening || l.state = .opened)).length)).sum)
                ((s.lmu.banks.map (fun b => (b.lockers.filter (fun l => l.state = .forced)).length)).sum)
                ((s.cbu.cabins.filter (fun c => c.acting = .occupied || c.acting = .cleaning)).length))))
        ∧ t.cnu.bits.getLsbD 6 = true ∧ KeepsAllBut [.bdr, .lmu, .cbu, .xlu, .sck, .flm, .lkc, .cnu] s t)
    ∧ (s.sck.day = .opened → exec (.purge tag body) s = .next (placeAnswer (plainAnswer tag .notClosed) (popOrder s)))

/-! ## Field line (spec 08) -/

/-- POLL (R137, R139, R144): with none in flight, the poll of the rotation's next visit is sent. It carries the last event
bit taken and, unless it is a status read, which every poll of a Lost station is, the first twelve dirty entries in the
image order, each under the station's own door index (R25) and with an expiry second as a duration; those entries are
marked as carried, and no value or mark changes. The next visit is the standing one where it goes on, else that of the next
configured address above it, or of the lowest (R137). A visit has at most four polls. With a poll in flight POLL changes
nothing (log entry 6). -/
def Obligations.PollSent : Prop :=
  (∀ (v : Visit) (st : Station) (s : State), s.flm.inFlight = none → s.flm.nextVisit = some v →
    s.flm.find v.addr = some st →
    ∃ t p, exec .poll s = .next t ∧ t.flm.inFlight = some p ∧ t.flm.visit = some v ∧ p.addr = st.addr ∧ p.bit = st.lastBit
      ∧ (st.health = .lost → p.read.isSome = true) ∧ (st.health ≠ .lost → p.read = st.statusDue)
      ∧ (p.read.isSome = true → p.sent = [] ∧ t.flm.find v.addr = some st)
      ∧ (p.read = none →
          p.sent = ((st.image.filter (fun e => e.dirty)).take 12).map (fun e =>
            (e.key.physical (bankMirrored s.table st.addr) (bankDoors s.table st.addr),
              e.value.sent s.sck.counter (stationPitch s.table st.addr)))
          ∧ ((∀ e ∈ st.image, e.carried = false) →
              ∃ st', t.flm.find v.addr = some st'
                ∧ st'.image.filter (fun e => e.carried)
                    = ((st.image.filter (fun e => e.dirty)).take 12).map (fun e => { e with carried := true })
                ∧ st'.image.map (fun e => (e.key, e.value, e.dirty)) = st.image.map (fun e => (e.key, e.value, e.dirty))))
      ∧ (VisitWithinFour s → v.polls ≤ 4) ∧ (∀ a, a ≠ v.addr → t.flm.find a = s.flm.find a) ∧ KeepsAllBut [.flm] s t)
  ∧ (∀ (s : State), s.flm.inFlight.isSome = true → exec .poll s = .next s)
  ∧ (∀ (f : FieldLine) (v w : Visit), f.visit = some v → f.nextVisit = some w →
    (v.again = true → w = { addr := v.addr, polls := v.polls + 1, again := false })
    ∧ (v.again = false → w.polls = 1 ∧ w.again = false ∧ w.addr ∈ f.stations.map (·.addr)
      ∧ ((∃ st ∈ f.stations, v.addr < st.addr) →
          v.addr < w.addr ∧ ∀ st ∈ f.stations, v.addr < st.addr → w.addr ≤ st.addr)
      ∧ ((∀ st ∈ f.stations, st.addr ≤ v.addr) → ∀ st ∈ f.stations, w.addr ≤ st.addr)))
  ∧ (∀ (t : SiteTable), ∀ st ∈ freshStations t, (st.image.map (fun e => e.key.rank)).Pairwise (· < ·))
  ∧ (∀ (mirrored : Bool) (doors d : Nat),
    (EntryKey.bolt d).physical mirrored doors = .bolt (if mirrored then doors - 1 - d else d)
    ∧ (EntryKey.lamp d).physical mirrored doors = .lamp (if mirrored then doors - 1 - d else d)
    ∧ (EntryKey.flash d).physical mirrored doors = .flash (if mirrored then doors - 1 - d else d))
  ∧ (∀ (x now pitch : Nat), now < 86400 → x < 86400 →
    (EntryValue.bolt (.unlockedUntil x)).sent now pitch = .boltUnlockedFor (if now ≤ x then x - now else x + 86400 - now)
    ∧ (EntryValue.gate (.openUntil x)).sent now pitch = .gateOpenFor (if now ≤ x then x - now else x + 86400 - now))

/-- POLL_ANSWER to an ordinary poll, with no event and no flag (R137, R139): the misses are 0, the entries carried lose
their marks, the others stand, no poll is in flight, and nothing but the field line changes. The restart flag sets the
last event bit to none, marks a status read due and raises StationHealth, once until the status read (R145; the field that
holds the once is log entry 12); the overrun flag marks a status read due (R144). An event of a POLL_ANSWER (R141): its
bit becomes the last taken, and it is routed to its owner; an equal bit marks a repeat, which reaches no owner. Whatever
the answer of a station not Lost carries, its parts are taken in turn: the acknowledgement, the restart flag, the event,
the overrun flag of an ordinary poll, the status of a status read (R139, R141, R144, R145); then the visit goes on where
fewer than four polls were sent and the answer carried an event or left dirty entries (R137). -/
def Obligations.PollAnswersTaken : Prop :=
  (∀ (p : Poll) (st : Station) (s : State), s.flm.inFlight = some p → p.read = none → s.flm.find p.addr = some st →
    st.health ≠ .lost →
    ∃ t st', exec (.pollAnswer { event := none, overrun := false, restart := false, status := none }) s = .next t
      ∧ t.flm.inFlight = none ∧ t.flm.find p.addr = some st' ∧ st'.missCount = 0 ∧ st'.lastGood = some s.sck.counter
      ∧ st'.health = st.health ∧ st'.statusDue = st.statusDue
      ∧ st'.image.map (·.key) = st.image.map (·.key)
      ∧ (∀ e ∈ st.image, e.carried = false → e ∈ st'.image)
      ∧ (∀ e ∈ st'.image, e.carried = false)
      ∧ (∀ e ∈ st.image, e.carried = true → ∃ e' ∈ st'.image, e'.key = e.key ∧ e'.dirty = false
          ∧ ((∀ a o, e.value ≠ .sounder a o) → (∀ c, e.value ≠ .flash c) → e'.value = e.value))
      ∧ (∀ a, a ≠ p.addr → t.flm.find a = s.flm.find a)
      ∧ KeepsAllBut [.flm] s t)
  ∧ (∀ (p : Poll) (st : Station) (s : State), s.flm.inFlight = some p → p.read = none → s.flm.find p.addr = some st →
    st.health ≠ .lost →
    (∃ t st', exec (.pollAnswer { event := none, overrun := false, restart := true, status := none }) s = .next t
      ∧ t.flm.inFlight = none ∧ t.flm.find p.addr = some st' ∧ st'.lastBit = none ∧ st'.statusDue.isSome = true
      ∧ st'.missCount = 0 ∧ st'.health = st.health
      ∧ (st.restartSeen = false → t.cnu.bits.getLsbD 4 = true ∧ KeepsAllBut [.flm, .lkc, .cnu] s t)
      ∧ (st.restartSeen = true → KeepsAllBut [.flm] s t))
    ∧ (∃ t st', exec (.pollAnswer { event := none, overrun := true, restart := false, status := none }) s = .next t
      ∧ t.flm.inFlight = none ∧ t.flm.find p.addr = some st' ∧ st'.lastBit = st.lastBit ∧ st'.missCount = 0
      ∧ st'.statusDue = some (if st.statusDue = some .clearing then .clearing else .plain) ∧ KeepsAllBut [.flm] s t))
  ∧ (∀ (addr : Nat) (ev : StationEvent) (bit : Bool) (st : Station) (s : State), s.flm.find addr = some st →
    (st.lastBit = some bit → takeEvent addr (some (ev, bit)) s = s)
    ∧ (st.lastBit ≠ some bit →
      takeEvent addr (some (ev, bit)) s = routeEvent addr ev (updateStation addr (fun x => { x with lastBit := some bit }) s)))
  ∧ (∀ (reply : PollReply) (p : Poll) (st : Station) (s acked evented u t : State), s.flm.inFlight = some p →
    s.flm.find p.addr = some st → st.health ≠ .lost →
    acked = { s with
      flm := { s.flm.update p.addr (fun x => x.answered s.sck.counter) with inFlight := none } } →
    evented = takeEvent p.addr reply.event (takeRestart p.addr reply.restart acked) →
    t = { u with
      flm := { u.flm with
        visit := u.flm.visit.map (fun v =>
          { v with
            again := decide (v.polls < 4)
              && (reply.event.isSome || ((u.flm.find v.addr).map (fun x => x.image.any (fun e => e.dirty))).getD false) }) } } →
    (p.read = none → u = takeOverrun p.addr reply.overrun none evented → exec (.pollAnswer reply) s = .next t)
    ∧ (∀ r, p.read.isSome = true → reply.status = some r → reportFits r s.table p.addr = true →
        u = takeStatus p.addr (logicalReport r s.table p.addr) evented → exec (.pollAnswer reply) s = .next t))

/-- MISSED_ANSWER (R142): the station's count rises by one and nothing is acknowledged; below three nothing else changes;
the third makes a station in Starting or Answering Lost, with a clearing status read due and StationHealth raised. Its owner
is told: every locker of a lock bank goes to Unreachable and keeps the state it was in, with all else of its entry, as the
remembered state (R46), and so does a cabin (R76) or a lane (R118); a call pad has nothing to change. That the third miss
makes a standing plain mark clearing is DEDUCED (log entry 11). -/
def Obligations.MissedAnswersCounted : Prop :=
  ∀ (cause : MissCause) (p : Poll) (st : Station) (s : State), s.flm.inFlight = some p → s.flm.find p.addr = some st →
    st.health ≠ .lost →
    (st.missCount < 2 →
      ∃ t st', exec (.missedAnswer cause) s = .next t ∧ t.flm.inFlight = none ∧ t.flm.find p.addr = some st'
        ∧ st'.missCount = st.missCount + 1 ∧ st'.health = st.health
        ∧ st'.image.map (fun e => (e.key, e.value, e.dirty)) = st.image.map (fun e => (e.key, e.value, e.dirty))
        ∧ KeepsAllBut [.flm] s t)
    ∧ (st.missCount = 2 →
      ∃ t st', exec (.missedAnswer cause) s = .next t ∧ t.flm.inFlight = none ∧ t.flm.find p.addr = some st'
        ∧ st'.missCount = 3 ∧ st'.health = .lost ∧ st'.statusDue = some .clearing ∧ t.cnu.bits.getLsbD 4 = true
        ∧ (kindOf p.addr = .lockBank → KeepsAllBut [.lmu, .flm, .lkc, .cnu] s t
          ∧ (∀ n l, lockerBank n = p.addr - 1 → s.lmu.find n = some l →
              t.lmu.find n = some
                (if l.state = .unreachable then l else { l with state := .unreachable, remembered := some l.state }))
          ∧ ((∀ b ∈ s.lmu.banks, b.lockers.length ≤ 24) →
              ∀ n, lockerBank n ≠ p.addr - 1 → t.lmu.find n = s.lmu.find n))
        ∧ (kindOf p.addr = .cabinUnit → KeepsAllBut [.cbu, .flm, .lkc, .cnu] s t ∧ t.cbu.groups = s.cbu.groups
          ∧ (∀ c, s.cbu.find (p.addr - 33) = some c →
              t.cbu.find (p.addr - 33) = some
                (if c.state = .unreachable then c else { c with state := .unreachable, remembered := some c.state }))
          ∧ (∀ m, m ≠ p.addr - 33 → t.cbu.find m = s.cbu.find m))
        ∧ (kindOf p.addr = .callPad → KeepsAllBut [.flm, .lkc, .cnu] s t)
        ∧ (kindOf p.addr = .laneUnit → KeepsAllBut [.xlu, .flm, .lkc, .cnu] s t
          ∧ (∀ e, s.xlu.find (p.addr - 85) = some e →
              t.xlu.find (p.addr - 85) = some
                (if e.state = .unreachable then e else { e with state := .unreachable, remembered := some e.state }))
          ∧ (∀ m, m ≠ p.addr - 85 → t.xlu.find m = s.xlu.find m)))

/-- DESIRED_ENTRY_EXPIRY at its second rewrites a bolt as locked and a gate as shut and marks it dirty (R138, R139), at a
station whose writes are marked; READ STATION reports and changes nothing (R148). -/
def Obligations.TimedEntriesExpire : Prop :=
  (∀ (addr : Nat) (k : TimedEntry) (v : EntryValue) (st : Station) (s : State), s.flm.find addr = some st →
    st.value (timedKey k) = some v → v.expiry = some s.sck.counter → marksWrites addr s = true →
    ∃ t st', exec (.desiredEntryExpiry addr k) s = .next t ∧ t.flm.find addr = some st'
      ∧ st'.value (timedKey k) = some v.expired
      ∧ (∀ e ∈ st'.image, e.key = timedKey k → e.dirty = true ∧ e.value = v.expired)
      ∧ (∀ e ∈ st.image, e.key ≠ timedKey k → e ∈ st'.image) ∧ KeepsAllBut [.flm] s t)
  ∧ EntryValue.expired (.bolt .unlocked) = .bolt .locked
  ∧ (∀ x, EntryValue.expired (.bolt (.unlockedUntil x)) = .bolt .locked)
  ∧ (∀ x, EntryValue.expired (.gate (.openUntil x)) = .gate .shut)
  ∧ (∀ (tag : Byte) (body : List Byte) (s : State), Taken .readStation tag body s → 1 ≤ byteAt body 0 → byteAt body 0 ≤ 88 →
    exec (.readStation tag body) s
      = .next (placeAnswer
          (doneAnswer tag (.station (kindOf (byteAt body 0)) ((s.flm.find (byteAt body 0)).map Station.readout))) (popOrder s)))

/-! ## Orders of the link controller (spec 09) -/

/-- READ CONDITIONS reports the ten bits as they stand, the mask, the notices waiting and the Dropped flag, and clears
every bit (R158). SET NOTICE MASK writes the ten marks and reports the former mask; anything beyond them is refused Range
(R159). A disabled class sets its condition and queues nothing, an enabled one queues. Answers touch neither the notice
queue nor the Dropped flag. Bits and mask are kept by a link reset and a warm reset; a cold reset clears the bits and
enables every class. -/
def Obligations.ConditionsReadAndMasked : Prop :=
  (∀ (tag : Byte) (body : List Byte) (s : State), TakenFromBuffer .readConditions tag body s →
    exec (.readConditions tag body) s
      = .next (placeAnswer (doneAnswer tag (.conditions s.cnu.bits s.cnu.mask s.lkc.notices.length s.lkc.dropped))
          { popOrder s with cnu := { s.cnu with bits := 0 } }))
  ∧ (∀ (tag : Byte) (body : List Byte) (s : State), TakenFromBuffer .setNoticeMask tag body s →
    (u16At body 0 < 1024 →
      exec (.setNoticeMask tag body) s
        = .next (placeAnswer (doneAnswer tag (.formerMask s.cnu.mask))
            { popOrder s with cnu := { s.cnu with mask := BitVec.ofNat 10 (u16At body 0) } }))
    ∧ (1024 ≤ u16At body 0 →
      exec (.setNoticeMask tag body) s = .next (placeAnswer (plainAnswer tag .range) (popOrder s))))
  ∧ (∀ (a : Answer) (s : State), (placeAnswer a s).lkc.notices = s.lkc.notices ∧ (placeAnswer a s).lkc.dropped = s.lkc.dropped
    ∧ (placeAnswer a s).cnu = s.cnu)
  ∧ (∀ (c : NoticeContent) (s : State),
    (raiseNotice c s).cnu = { s.cnu with bits := s.cnu.bits ||| (1#10 <<< c.cls.code) }
    ∧ (s.cnu.mask.getLsbD c.cls.code = false → (raiseNotice c s).lkc = s.lkc)
    ∧ (s.cnu.mask.getLsbD c.cls.code = true →
      (raiseNotice c s).lkc = s.lkc.offer { content := c, second := s.now }))
  ∧ (∀ s : State, ∃ t, exec .lineBreak s = .next t ∧ t.cnu.mask = s.cnu.mask
    ∧ ∀ k, s.cnu.bits.getLsbD k = true → t.cnu.bits.getLsbD k = true)
  ∧ (∀ s : State, ∃ t, exec .warmReset s = .next t ∧ t.cnu.mask = s.cnu.mask
    ∧ ∀ k, s.cnu.bits.getLsbD k = true → t.cnu.bits.getLsbD k = true)
  ∧ (∀ (straps : BitVec 2) (s : State), ∃ t, exec (.coldReset straps) s = .next t
    ∧ t.cnu = { bits := 0#10, mask := 0x3FF#10 })

/-- WATCH (R160): a watch met at once is answered Done and not opened; otherwise Busy while four are open, else opened
with its expiry and no answer; a tag in use is refused InUse. CANCEL WATCH (R162): the watch is answered Cancelled, then
the cancel Done; with no such watch it is answered NoSuch. WATCH_EXPIRY at its second answers the watch Expired with its
target's state code as it stands, and closes it (R162). The empty bodies of a watch met at once and of a watch cancelled
are DEDUCED (log entry 24). -/
def Obligations.WatchesOpenedAndClosed : Prop :=
  ((∀ (tag : Byte) (body : List Byte) (s : State) (t0 : Target), Taken .watch tag body s →
    targetOf (watchArgs body).kind (watchArgs body).number s = some t0 → (watchArgs body).outOfRange t0 = false →
    (s.lkc.watching tag = true →
      exec (.watch tag body) s = .next (placeAnswer (plainAnswer tag .inUse) (popOrder s)))
    ∧ (s.lkc.watching tag = false → ((watchArgs body).states.contains (targetCode t0 s) = decide ((watchArgs body).polarity = 0)) →
      exec (.watch tag body) s = .next (placeAnswer (doneAnswer tag .none) (popOrder s)))
    ∧ (s.lkc.watching tag = false → ¬((watchArgs body).states.contains (targetCode t0 s) = decide ((watchArgs body).polarity = 0)) →
      4 ≤ s.lkc.watches.length → exec (.watch tag body) s = .next (placeAnswer (plainAnswer tag .busy) (popOrder s)))
    ∧ (s.lkc.watching tag = false → ¬((watchArgs body).states.contains (targetCode t0 s) = decide ((watchArgs body).polarity = 0)) →
      s.lkc.watches.length < 4 →
      ∃ t, exec (.watch tag body) s = .next t ∧ KeepsAllBut [.lkc] s t ∧ t.lkc.answers = s.lkc.answers
        ∧ t.lkc.watches = s.lkc.watches
            ++ [{ tag := tag, target := t0, states := (watchArgs body).states, untilIn := decide ((watchArgs body).polarity = 0),
                  expiry := (s.sck.counter + (watchArgs body).limit) % 86400 }]))
  ∧ (∀ (tag : Byte) (body : List Byte) (s : State) (w : Watch), Taken .cancelWatch tag body s →
    s.lkc.watches.find? (fun x => x.tag = body.getD 0 0) = some w →
    ∃ t, exec (.cancelWatch tag body) s = .next t ∧ KeepsAllBut [.lkc] s t
      ∧ t.lkc.answers = s.lkc.answers
          ++ [{ tag := w.tag, code := .cancelled, clamped := false, body := .none }, doneAnswer tag .none]
      ∧ t.lkc.watches = s.lkc.watches.filter (fun x => x.tag ≠ w.tag))
  ∧ (∀ (tag : Byte) (body : List Byte) (s : State), Taken .cancelWatch tag body s →
    s.lkc.watches.find? (fun x => x.tag = body.getD 0 0) = none →
    exec (.cancelWatch tag body) s = .next (placeAnswer (plainAnswer tag .noSuch) (popOrder s))))
  ∧ (∀ (tag : Byte) (w : Watch) (s : State), s.lkc.watches.find? (fun x => x.tag = tag) = some w → w.expiry = s.sck.counter →
    ∃ t, exec (.watchExpiry tag) s = .next t ∧ KeepsAllBut [.lkc] s t
      ∧ t.lkc.watches = s.lkc.watches.filter (fun x => x.tag ≠ w.tag)
      ∧ Answered t { tag := w.tag, code := .expired, clamped := false, body := .watchExpired (targetCode w.target s) })

/-- A change of a target's state answers, in the order of opening, every watch it meets, with the state reached and the
second, and closes it; the other watches stay. Every write of a locker, a cabin or a lane and every change of a station's
health is such a change where the state differs from the one before it, and no watch is met where it does not (R161). -/
def Obligations.ChangesMeetWatches : Prop :=
  (∀ (l : LinkController) (t : Target) (code second : Nat),
    (l.meet t code second).watches = l.watches.filter (fun w => !w.metBy t code)
    ∧ (l.meet t code second).answers = l.answers ++ (l.watches.filter (fun w => w.metBy t code)).map
        (fun w => { tag := w.tag, code := .done, clamped := false, body := .watchMet code second })
    ∧ (l.meet t code second).placesUsed = l.placesUsed)
  ∧ (∀ (n : Nat) (old new : Locker) (s : State), s.lmu.find n = some old →
    (old.state = new.state → (putLocker n new s).lkc = s.lkc)
    ∧ (old.state ≠ new.state → (putLocker n new s).lkc = s.lkc.meet (.locker n) new.state.code s.sck.counter)
    ∧ (putLocker n new s).lmu.find n = some new ∧ KeepsAllBut [.lmu, .lkc] s (putLocker n new s))
  ∧ (∀ (n : Nat) (old new : Cabin) (s : State), s.cbu.find n = some old →
    (old.state = new.state → (putCabin n new s).lkc = s.lkc)
    ∧ (old.state ≠ new.state → (putCabin n new s).lkc = s.lkc.meet (.cabin n) new.state.code s.sck.counter)
    ∧ (putCabin n new s).cbu.find n = some new ∧ KeepsAllBut [.cbu, .lkc] s (putCabin n new s))
  ∧ (∀ (n : Nat) (old new : Lane) (s : State), s.xlu.find n = some old →
    (old.state = new.state → (putLane n new s).lkc = s.lkc)
    ∧ (old.state ≠ new.state → (putLane n new s).lkc = s.lkc.meet (.lane n) new.state.code s.sck.counter)
    ∧ (putLane n new s).xlu.find n = some new ∧ KeepsAllBut [.xlu, .lkc] s (putLane n new s))
  ∧ (∀ (addr : Nat) (st : Station) (h : Health) (s : State), s.flm.find addr = some st →
    (st.health = h → (setHealth addr h s).lkc = s.lkc)
    ∧ (st.health ≠ h → (setHealth addr h s).lkc = s.lkc.meet (.station addr) (healthCode (some h)) s.sck.counter)
    ∧ (setHealth addr h s).flm.find addr = some { st with health := h } ∧ KeepsAllBut [.flm, .lkc] s (setHealth addr h s))
  ∧ (∀ (n : Nat) (l : Locker) (w : Watch) (s : State), s.lmu.find n = some l → l.state = .opening → l.holder.isSome = true →
    l.openingExpiry = some s.sck.counter → w ∈ s.lkc.watches → w.target = .locker n → w.meets LockerState.held.code = true →
    ∃ t, exec (.openingExpiry n) s = .next t ∧ w ∉ t.lkc.watches
      ∧ { tag := w.tag, code := .done, clamped := false, body := .watchMet LockerState.held.code s.sck.counter }
          ∈ t.lkc.answers)

/-! ## Site table and cold reset (spec 10) -/

/-- SITE LOAD writes its segment into the staging area and nothing else (R167); it is refused NotClosed in a Configured
part with the day Open or records standing, and Range outside the image. SITE COMMIT of an image that passes R168 (R169,
R170): the part is Configured on the clamped image, which is staged and given to the store; the day record is Closed;
every locker, cabin and lane stands as its rebuild gives it; the watches are gone; clock, tariff store, conditions and
mask are kept. Any other image is refused Invalid. -/
def Obligations.SiteLoadedAndCommitted : Prop :=
  (∀ (tag : Byte) (body : List Byte) (s : State), Taken .siteLoad tag body s →
    (¬(s.configured = true ∧ (s.sck.day = .opened ∨ s.bdr.bands ≠ [])) → u16At body 0 ≤ 345 → body.drop 2 ≠ [] →
      u16At body 0 + (body.drop 2).length ≤ 346 →
      exec (.siteLoad tag body) s
        = .next (placeAnswer (doneAnswer tag .none)
            { popOrder s with
              sts := { s.sts with staging := writeSegment s.sts.staging (u16At body 0) (body.drop 2) } }))
    ∧ (s.configured = true → s.sck.day = .opened ∨ s.bdr.bands ≠ [] →
      exec (.siteLoad tag body) s = .next (placeAnswer (plainAnswer tag .notClosed) (popOrder s)))
    ∧ (¬(s.configured = true ∧ (s.sck.day = .opened ∨ s.bdr.bands ≠ [])) →
      345 < u16At body 0 ∨ body.drop 2 = [] ∨ 346 < u16At body 0 + (body.drop 2).length →
      exec (.siteLoad tag body) s = .next (placeAnswer (plainAnswer tag .range) (popOrder s))))
  ∧ (∀ (tag : Byte) (body : List Byte) (s : State), Taken .siteCommit tag body s →
    ¬(s.configured = true ∧ (s.sck.day = .opened ∨ s.bdr.bands ≠ [])) →
    (siteImageGood s.sts.staging = true →
      ∃ t, exec (.siteCommit tag body) s = .next t
        ∧ t.sts.site = some (siteTableOf (clampSite s.sts.staging)) ∧ t.sts.staging = clampSite s.sts.staging
        ∧ t.sts.store.bytes = clampSite s.sts.staging
        ∧ t.sck = { s.sck with day := .closed, openMinute := none, wrapped := false }
        ∧ t.lkc.watches = [] ∧ t.flm.inFlight = none
        ∧ (∀ b ∈ t.lmu.banks, ∀ l ∈ b.lockers, l.state = .vacant ∧ l.holder = none ∧ l.orphanCheck = true ∧ l.useCount = 0)
        ∧ (∀ b ∈ t.lmu.banks, b.freeCount = b.lockers.length)
        ∧ (∀ c ∈ t.cbu.cabins, c.state = .free ∧ c.band = none ∧ c.counter = 0)
        ∧ (∀ g ∈ t.cbu.groups, g.queue = [] ∧ g.nextTicket = 1)
        ∧ (∀ e ∈ t.xlu.lanes, e.state = .idle ∧ e.band = none ∧ e.lastExpiry = none)
        ∧ (∀ st ∈ t.flm.stations, st.health = .starting ∧ st.missCount = 0 ∧ st.statusDue = some .clearing ∧ st.lastBit = none)
        ∧ t.bdr.masters.map (·.number) = (siteTableOf (clampSite s.sts.staging)).masters
        ∧ TablesMatchSite t ∧ KeepsAllBut [.bdr, .lmu, .cbu, .xlu, .sck, .sts, .flm, .lkc] s t)
    ∧ (siteImageGood s.sts.staging = false →
      exec (.siteCommit tag body) s = .next (placeAnswer (plainAnswer tag .invalid) (popOrder s))))

/-- R165: at a cold reset the link speed is read from the straps, the framer is Hunting and the transmitter Idle, the
order buffer, answer queue, notice queue and watches are empty, the Dropped flag is no, the ten conditions clear and every
class enabled. The clock is 0 and not valid and the day Closed (R124, R130); bands and parties are gone (R21). A copy
whose store write stands at the reset is read as no good copy, on a loss of power and on the reset line alike: DEDUCED
(log entry 16). -/
def Obligations.ColdResetStartsAfresh : Prop :=
  ∀ (straps : BitVec 2) (s : State),
    ∃ t, exec (.coldReset straps) s = .next t
      ∧ t.lkc = { speed := straps, framer := .hunting, hold := s.lkc.hold, orders := [], answers := [], notices := [],
                  dropped := false, watches := [], tx := .idle, resetPhase := .none }
      ∧ t.cnu = { bits := 0#10, mask := 0x3FF#10 }
      ∧ t.sck = { counter := 0, clockValid := false, day := .closed, openMinute := none, wrapped := false }
      ∧ t.bdr.bands = [] ∧ t.bdr.parties = [] ∧ t.tfs.load = .empty ∧ t.tfs.standby = List.replicate 142 0
      ∧ t.flm.inFlight = none
      ∧ (s.sts.store.writing = false → siteImageGood s.sts.store.bytes = true →
          t.sts.site = some (siteTableOf (clampSite s.sts.store.bytes)) ∧ t.sts.staging = clampSite s.sts.store.bytes)
      ∧ (s.sts.store.writing = true ∨ siteImageGood s.sts.store.bytes = false →
          t.sts.site = none ∧ t.sts.staging = List.replicate 346 0 ∧ t.lmu.banks = [] ∧ t.flm.stations = [])
      ∧ (s.tfs.store.writing = false → tariffImageGood s.tfs.store.bytes = true → t.tfs.live = some s.tfs.store.bytes)
      ∧ (s.tfs.store.writing = true ∨ tariffImageGood s.tfs.store.bytes = false → t.tfs.live = none)

/-! ## Presentations and status reads (R5 to R9, R143, R144) -/

/-- A presentation of a valid band number at a reader (R5 to R9). A repeat of the last one within the repeat window, by a
master's slot or a record's field, has no effect. A master's slot is written, and the owner of the reader is given a
master. An unknown band is refused with its code, and no record and no condition changes. A Barred band has its last
presentation written, is refused with its code, and BarredSeen is raised. Any other band has its last presentation written
and goes with its record to the owner of the reader. -/
def Obligations.PresentationsRecognised : Prop :=
  ∀ (addr p : Nat) (reader : Reader) (b : BandNo) (s t : State), readerOf s.table addr p = some reader → b ≠ 0#40 →
    b ≠ 0xFFFFFFFFFF#40 → t = routeEvent addr (.bandPresented p b) s →
    (∀ m, s.bdr.master b = some m →
      (Suppressed m.lastPresentation reader s → t = s)
      ∧ (¬Suppressed m.lastPresentation reader s → ∀ u,
          u = { s with
            bdr := { s.bdr with
              masters := s.bdr.masters.map (fun x =>
                if x.number = b then { x with lastPresentation := some (reader, s.sck.counter) } else x) } } →
          (kindOf addr = .lockBank → t = masterAtLocker (lockerNumber (addr - 1) reader.door) u)
          ∧ (kindOf addr = .cabinUnit → t = masterAtCabin (addr - 33) u)
          ∧ (kindOf addr = .callPad → t = masterAtPad (addr - 81) u)
          ∧ (kindOf addr = .laneUnit → t = insertBand (addr - 85) b .master u)))
    ∧ (s.bdr.master b = none → s.bdr.find b = none →
      KeepsAllBut [.xlu, .flm] s t ∧ (kindOf addr ≠ .laneUnit → RefusalShown reader .unknown s t)
      ∧ (kindOf addr = .laneUnit → t = insertBand (addr - 85) b .unknown s))
    ∧ (∀ r u, s.bdr.master b = none → s.bdr.find b = some r →
      u = { s with bdr := s.bdr.update b (fun x => { x with lastPresentation := some (reader, s.sck.counter) }) } →
      (Suppressed r.lastPresentation reader s → t = s)
      ∧ (¬Suppressed r.lastPresentation reader s → r.state = .barred →
          t.bdr = u.bdr ∧ t.cnu.bits.getLsbD 8 = true ∧ KeepsAllBut [.bdr, .xlu, .flm, .lkc, .cnu] s t
          ∧ (kindOf addr ≠ .laneUnit → RefusalShown reader .br s t))
      ∧ (¬Suppressed r.lastPresentation reader s → r.state ≠ .barred → ∀ seen,
          seen = { r with lastPresentation := some (reader, s.sck.counter) } →
          u.bdr.find b = some seen
          ∧ (kindOf addr = .lockBank → t = presentAtLocker (lockerNumber (addr - 1) reader.door) seen u)
          ∧ (kindOf addr = .cabinUnit → t = presentAtCabin (addr - 33) seen u)
          ∧ (kindOf addr = .callPad → t = presentAtPad (addr - 81) seen u)
          ∧ (kindOf addr = .laneUnit → t = insertBand (addr - 85) b (.band seen) u)))

/-- POLL_ANSWER to a status read, with a report that fits its station (R143, R144): the station is Answering with its
misses at 0, the status held, no read due and every entry marked. The owner reconciles: a locker by the table of R47, door
by door in the bank's own order (R25), a cabin by R76, a lane by R120. A Lost station is regained: its last event bit is
none, StationHealth is raised, and its lockers, cabin or lane are restored from what they remember before the reconcile
(R46, R76, R119). A locker whose binding the reconcile ends keeps its claim retention: DEDUCED (log entry 19). -/
def Obligations.StatusReadsReconcile : Prop :=
  ∀ (p : Poll) (st : Station) (r : StatusReport) (s : State), s.flm.inFlight = some p → p.read.isSome = true →
    s.flm.find p.addr = some st → reportFits r s.table p.addr = true →
    ∃ t st', exec (.pollAnswer { event := none, overrun := false, restart := false, status := some r }) s = .next t
      ∧ t.flm.inFlight = none ∧ t.flm.find p.addr = some st' ∧ st'.health = .answering ∧ st'.missCount = 0
      ∧ st'.statusDue = none ∧ st'.lastGood = some s.sck.counter
      ∧ st'.lastStatus = some (logicalReport r s.table p.addr, s.sck.counter)
      ∧ (∀ doors, r = .lockBank doors → st'.lastStatus = some (.lockBank
          (if bankMirrored s.table p.addr then (doors.take (bankDoors s.table p.addr)).reverse
          else doors.take (bankDoors s.table p.addr)), s.sck.counter))
      ∧ ((∀ doors, r ≠ .lockBank doors) → st'.lastStatus = some (r, s.sck.counter))
      ∧ (∀ e ∈ st'.image, e.dirty = true)
      ∧ (st.health = .lost → st'.lastBit = none ∧ t.cnu.bits.getLsbD 4 = true)
      ∧ (st.health ≠ .lost → st'.lastBit = st.lastBit)
      ∧ (∀ doors n l d, r = .lockBank doors → lockerBank n = p.addr - 1 → lockerDoor n < bankDoors s.table p.addr →
          doors[if bankMirrored s.table p.addr then bankDoors s.table p.addr - 1 - lockerDoor n else lockerDoor n]? = some d →
          s.lmu.find n = some l →
          (st.health ≠ .lost → l.state ≠ .unreachable → t.lmu.find n = some (l.readAt d))
          ∧ (∀ x, st.health = .lost → l.state = .unreachable → l.remembered = some x → x ≠ .unreachable →
              t.lmu.find n = some ({ l with state := x, remembered := none }.readAt d)))
      ∧ (∀ d c, r = .cabin d → s.cbu.find (p.addr - 33) = some c →
          (st.health ≠ .lost →
            t.cbu.find (p.addr - 33) = some
              { c with
                doorOpen := d.isOpen
                doorOpenSince :=
                  if c.state = .occupied then (if d.isOpen then some s.sck.counter else none) else c.doorOpenSince })
          ∧ (∀ x, st.health = .lost → c.state = .unreachable → c.remembered = some x → x ≠ .free →
              t.cbu.find (p.addr - 33) = some
                { c with
                  state := x, remembered := none, doorOpen := d.isOpen,
                  doorOpenSince := if x = .occupied then (if d.isOpen then some s.sck.counter else none) else c.doorOpenSince }))
      ∧ (∀ slot gate shutter e, r = .lane slot gate shutter → s.xlu.find (p.addr - 85) = some e →
          (st.health ≠ .lost → e.state = .idle ∨ e.state = .passing ∨ (e.state = .holding ∧ slot.isSome = true ∧ slot = e.band) →
            t.xlu.find (p.addr - 85) = some { e with slot := slot } ∧ t.bdr = s.bdr)
          ∧ (∀ b q, st.health ≠ .lost → e.state = .holding → e.band = some b → slot ≠ some b → s.bdr.find b = some q →
              t.xlu.find (p.addr - 85) = some
                  { e with state := .idle, band := none, quoteAmount := none, quoteExpiry := none, slot := slot }
              ∧ t.bdr.find b = some { q with state := .inside, quote := none } ∧ t.cnu.bits.getLsbD 3 = true)
          ∧ (st.health = .lost → e.state = .unreachable →
              t.xlu.find (p.addr - 85) = some
                  { e with state := .idle, band := none, cause := none, quoteAmount := none, quoteExpiry := none,
                           passExpiry := none, remembered := none, slot := slot }
              ∧ (∀ b q, e.remembered = some .holding → e.band = some b → s.bdr.find b = some q →
                  t.bdr.find b = some { q with state := .inside, quote := none } ∧ t.cnu.bits.getLsbD 3 = true)))
      ∧ KeepsAllBut [.bdr, .lmu, .cbu, .xlu, .flm, .lkc, .cnu] s t
end

