-- ==== Sys2Proof/Laws/Bytes.lean ====
section
/-! SUPPORT. Bytes written and read back: the length of a written image, and a check value that matches once it is computed. -/

namespace Sys2Proof.Machine

theorem writeSegment_length (l : List Byte) (offset : Nat) (segment : List Byte) (h : offset + segment.length ≤ l.length) :
    (writeSegment l offset segment).length = l.length := by
  simp only [writeSegment, List.length_append, List.length_take, List.length_drop]; omega

@[simp] theorem u8Bytes_length (n : Nat) : (u8Bytes n).length = 1 := rfl

@[simp] theorem u16Bytes_length (n : Nat) : (u16Bytes n).length = 2 := rfl

theorem byteAt_append_right (l r : List Byte) (i : Nat) : byteAt (l ++ r) (l.length + i) = byteAt r i := by
  simp [byteAt, List.getD_eq_getElem?_getD, List.getElem?_append_right]

/-- A 2-byte field reads back as it was written. -/
theorem u16At_u16Bytes (l : List Byte) (n : Nat) (h : n < 65536) : u16At (l ++ u16Bytes n) l.length = n := by
  have h0 := byteAt_append_right l (u16Bytes n) 0
  have h1 := byteAt_append_right l (u16Bytes n) 1
  simp only [Nat.add_zero] at h0
  rw [u16At, h0, h1]
  simp [byteAt, u16Bytes]
  omega

theorem withCheckValue_length (image : List Byte) (n : Nat) (h2 : 2 ≤ n) (hl : image.length = n) :
    (withCheckValue image n).length = n := by
  simp only [withCheckValue, List.length_append, List.length_take, u16Bytes_length]; omega

/-- An image whose check value is computed afresh passes its check (R85, R169). -/
theorem withCheckValue_matches (image : List Byte) (n : Nat) (h2 : 2 ≤ n) (hl : image.length = n) :
    checkValueMatches (withCheckValue image n) n = true := by
  have ht : (image.take (n - 2)).length = n - 2 := by simp [hl]
  have hr : u16At (withCheckValue image n) (n - 2) = (crc (image.take (n - 2))).toNat := by
    have := u16At_u16Bytes (image.take (n - 2)) (crc (image.take (n - 2))).toNat (BitVec.isLt _)
    rwa [ht] at this
  have hk : (withCheckValue image n).take (n - 2) = image.take (n - 2) := by
    rw [withCheckValue, List.take_append_of_le_length (by omega), List.take_of_length_le (by omega)]
  simp only [checkValueMatches, withCheckValue_length image n h2 hl, hk, hr]
  simp

end Sys2Proof.Machine
end

