-- ==== Sys2Proof/Laws/Folds.lean ====
section
/-!
SUPPORT. What each shared operation leaves alone, block by block: one lemma per operation, for a later proof to cite
instead of unfolding it. Here the folds and the recursive operations, and what they leave alone when their parts do.
-/

namespace Sys2Proof.Machine

@[simp] theorem foldl_pending {α : Type} (f : State → α → State) (l : List α) (s : State) (h : ∀ t a, (f t a).pending = t.pending) : (l.foldl f s).pending = s.pending := by
  induction l generalizing s with
  | nil => rfl
  | cons a l ih => simp [ih, h]

@[simp] theorem foldl_bdr {α : Type} (f : State → α → State) (l : List α) (s : State) (h : ∀ t a, (f t a).bdr = t.bdr) : (l.foldl f s).bdr = s.bdr := by
  induction l generalizing s with
  | nil => rfl
  | cons a l ih => simp [ih, h]

@[simp] theorem foldl_lmu {α : Type} (f : State → α → State) (l : List α) (s : State) (h : ∀ t a, (f t a).lmu = t.lmu) : (l.foldl f s).lmu = s.lmu := by
  induction l generalizing s with
  | nil => rfl
  | cons a l ih => simp [ih, h]

@[simp] theorem foldl_cbu {α : Type} (f : State → α → State) (l : List α) (s : State) (h : ∀ t a, (f t a).cbu = t.cbu) : (l.foldl f s).cbu = s.cbu := by
  induction l generalizing s with
  | nil => rfl
  | cons a l ih => simp [ih, h]

@[simp] theorem foldl_tfs {α : Type} (f : State → α → State) (l : List α) (s : State) (h : ∀ t a, (f t a).tfs = t.tfs) : (l.foldl f s).tfs = s.tfs := by
  induction l generalizing s with
  | nil => rfl
  | cons a l ih => simp [ih, h]

@[simp] theorem foldl_xlu {α : Type} (f : State → α → State) (l : List α) (s : State) (h : ∀ t a, (f t a).xlu = t.xlu) : (l.foldl f s).xlu = s.xlu := by
  induction l generalizing s with
  | nil => rfl
  | cons a l ih => simp [ih, h]

@[simp] theorem foldl_sck {α : Type} (f : State → α → State) (l : List α) (s : State) (h : ∀ t a, (f t a).sck = t.sck) : (l.foldl f s).sck = s.sck := by
  induction l generalizing s with
  | nil => rfl
  | cons a l ih => simp [ih, h]

@[simp] theorem foldl_sts {α : Type} (f : State → α → State) (l : List α) (s : State) (h : ∀ t a, (f t a).sts = t.sts) : (l.foldl f s).sts = s.sts := by
  induction l generalizing s with
  | nil => rfl
  | cons a l ih => simp [ih, h]

@[simp] theorem foldl_flm {α : Type} (f : State → α → State) (l : List α) (s : State) (h : ∀ t a, (f t a).flm = t.flm) : (l.foldl f s).flm = s.flm := by
  induction l generalizing s with
  | nil => rfl
  | cons a l ih => simp [ih, h]

@[simp] theorem foldl_lkc {α : Type} (f : State → α → State) (l : List α) (s : State) (h : ∀ t a, (f t a).lkc = t.lkc) : (l.foldl f s).lkc = s.lkc := by
  induction l generalizing s with
  | nil => rfl
  | cons a l ih => simp [ih, h]

@[simp] theorem foldl_cnu {α : Type} (f : State → α → State) (l : List α) (s : State) (h : ∀ t a, (f t a).cnu = t.cnu) : (l.foldl f s).cnu = s.cnu := by
  induction l generalizing s with
  | nil => rfl
  | cons a l ih => simp [ih, h]

@[simp] theorem overCabins_pending (f : Nat → State → State) (s : State) (h : ∀ n t, (f n t).pending = t.pending) :
    (overCabins f s).pending = s.pending := by
  simp [overCabins, h]

@[simp] theorem overGroups_pending (f : Nat → State → State) (s : State) (h : ∀ n t, (f n t).pending = t.pending) :
    (overGroups f s).pending = s.pending := by
  simp [overGroups, h]

@[simp] theorem overLanes_pending (f : Nat → State → State) (s : State) (h : ∀ n t, (f n t).pending = t.pending) :
    (overLanes f s).pending = s.pending := by
  simp [overLanes, h]

@[simp] theorem overBank_pending (n : Nat) (f : State → Nat → State) (s : State) (h : ∀ t n, (f t n).pending = t.pending) :
    (overBank n f s).pending = s.pending := by
  simp [overBank, h]

@[simp] theorem overCabins_bdr (f : Nat → State → State) (s : State) (h : ∀ n t, (f n t).bdr = t.bdr) :
    (overCabins f s).bdr = s.bdr := by
  simp [overCabins, h]

@[simp] theorem overGroups_bdr (f : Nat → State → State) (s : State) (h : ∀ n t, (f n t).bdr = t.bdr) :
    (overGroups f s).bdr = s.bdr := by
  simp [overGroups, h]

@[simp] theorem overLanes_bdr (f : Nat → State → State) (s : State) (h : ∀ n t, (f n t).bdr = t.bdr) :
    (overLanes f s).bdr = s.bdr := by
  simp [overLanes, h]

@[simp] theorem overBank_bdr (n : Nat) (f : State → Nat → State) (s : State) (h : ∀ t n, (f t n).bdr = t.bdr) :
    (overBank n f s).bdr = s.bdr := by
  simp [overBank, h]

@[simp] theorem overCabins_lmu (f : Nat → State → State) (s : State) (h : ∀ n t, (f n t).lmu = t.lmu) :
    (overCabins f s).lmu = s.lmu := by
  simp [overCabins, h]

@[simp] theorem overGroups_lmu (f : Nat → State → State) (s : State) (h : ∀ n t, (f n t).lmu = t.lmu) :
    (overGroups f s).lmu = s.lmu := by
  simp [overGroups, h]

@[simp] theorem overLanes_lmu (f : Nat → State → State) (s : State) (h : ∀ n t, (f n t).lmu = t.lmu) :
    (overLanes f s).lmu = s.lmu := by
  simp [overLanes, h]

@[simp] theorem overBank_lmu (n : Nat) (f : State → Nat → State) (s : State) (h : ∀ t n, (f t n).lmu = t.lmu) :
    (overBank n f s).lmu = s.lmu := by
  simp [overBank, h]

@[simp] theorem overCabins_cbu (f : Nat → State → State) (s : State) (h : ∀ n t, (f n t).cbu = t.cbu) :
    (overCabins f s).cbu = s.cbu := by
  simp [overCabins, h]

@[simp] theorem overGroups_cbu (f : Nat → State → State) (s : State) (h : ∀ n t, (f n t).cbu = t.cbu) :
    (overGroups f s).cbu = s.cbu := by
  simp [overGroups, h]

@[simp] theorem overLanes_cbu (f : Nat → State → State) (s : State) (h : ∀ n t, (f n t).cbu = t.cbu) :
    (overLanes f s).cbu = s.cbu := by
  simp [overLanes, h]

@[simp] theorem overBank_cbu (n : Nat) (f : State → Nat → State) (s : State) (h : ∀ t n, (f t n).cbu = t.cbu) :
    (overBank n f s).cbu = s.cbu := by
  simp [overBank, h]

@[simp] theorem overCabins_tfs (f : Nat → State → State) (s : State) (h : ∀ n t, (f n t).tfs = t.tfs) :
    (overCabins f s).tfs = s.tfs := by
  simp [overCabins, h]

@[simp] theorem overGroups_tfs (f : Nat → State → State) (s : State) (h : ∀ n t, (f n t).tfs = t.tfs) :
    (overGroups f s).tfs = s.tfs := by
  simp [overGroups, h]

@[simp] theorem overLanes_tfs (f : Nat → State → State) (s : State) (h : ∀ n t, (f n t).tfs = t.tfs) :
    (overLanes f s).tfs = s.tfs := by
  simp [overLanes, h]

@[simp] theorem overBank_tfs (n : Nat) (f : State → Nat → State) (s : State) (h : ∀ t n, (f t n).tfs = t.tfs) :
    (overBank n f s).tfs = s.tfs := by
  simp [overBank, h]

@[simp] theorem overCabins_xlu (f : Nat → State → State) (s : State) (h : ∀ n t, (f n t).xlu = t.xlu) :
    (overCabins f s).xlu = s.xlu := by
  simp [overCabins, h]

@[simp] theorem overGroups_xlu (f : Nat → State → State) (s : State) (h : ∀ n t, (f n t).xlu = t.xlu) :
    (overGroups f s).xlu = s.xlu := by
  simp [overGroups, h]

@[simp] theorem overLanes_xlu (f : Nat → State → State) (s : State) (h : ∀ n t, (f n t).xlu = t.xlu) :
    (overLanes f s).xlu = s.xlu := by
  simp [overLanes, h]

@[simp] theorem overBank_xlu (n : Nat) (f : State → Nat → State) (s : State) (h : ∀ t n, (f t n).xlu = t.xlu) :
    (overBank n f s).xlu = s.xlu := by
  simp [overBank, h]

@[simp] theorem overCabins_sck (f : Nat → State → State) (s : State) (h : ∀ n t, (f n t).sck = t.sck) :
    (overCabins f s).sck = s.sck := by
  simp [overCabins, h]

@[simp] theorem overGroups_sck (f : Nat → State → State) (s : State) (h : ∀ n t, (f n t).sck = t.sck) :
    (overGroups f s).sck = s.sck := by
  simp [overGroups, h]

@[simp] theorem overLanes_sck (f : Nat → State → State) (s : State) (h : ∀ n t, (f n t).sck = t.sck) :
    (overLanes f s).sck = s.sck := by
  simp [overLanes, h]

@[simp] theorem overBank_sck (n : Nat) (f : State → Nat → State) (s : State) (h : ∀ t n, (f t n).sck = t.sck) :
    (overBank n f s).sck = s.sck := by
  simp [overBank, h]

@[simp] theorem overCabins_sts (f : Nat → State → State) (s : State) (h : ∀ n t, (f n t).sts = t.sts) :
    (overCabins f s).sts = s.sts := by
  simp [overCabins, h]

@[simp] theorem overGroups_sts (f : Nat → State → State) (s : State) (h : ∀ n t, (f n t).sts = t.sts) :
    (overGroups f s).sts = s.sts := by
  simp [overGroups, h]

@[simp] theorem overLanes_sts (f : Nat → State → State) (s : State) (h : ∀ n t, (f n t).sts = t.sts) :
    (overLanes f s).sts = s.sts := by
  simp [overLanes, h]

@[simp] theorem overBank_sts (n : Nat) (f : State → Nat → State) (s : State) (h : ∀ t n, (f t n).sts = t.sts) :
    (overBank n f s).sts = s.sts := by
  simp [overBank, h]

@[simp] theorem overCabins_flm (f : Nat → State → State) (s : State) (h : ∀ n t, (f n t).flm = t.flm) :
    (overCabins f s).flm = s.flm := by
  simp [overCabins, h]

@[simp] theorem overGroups_flm (f : Nat → State → State) (s : State) (h : ∀ n t, (f n t).flm = t.flm) :
    (overGroups f s).flm = s.flm := by
  simp [overGroups, h]

@[simp] theorem overLanes_flm (f : Nat → State → State) (s : State) (h : ∀ n t, (f n t).flm = t.flm) :
    (overLanes f s).flm = s.flm := by
  simp [overLanes, h]

@[simp] theorem overBank_flm (n : Nat) (f : State → Nat → State) (s : State) (h : ∀ t n, (f t n).flm = t.flm) :
    (overBank n f s).flm = s.flm := by
  simp [overBank, h]

@[simp] theorem overCabins_lkc (f : Nat → State → State) (s : State) (h : ∀ n t, (f n t).lkc = t.lkc) :
    (overCabins f s).lkc = s.lkc := by
  simp [overCabins, h]

@[simp] theorem overGroups_lkc (f : Nat → State → State) (s : State) (h : ∀ n t, (f n t).lkc = t.lkc) :
    (overGroups f s).lkc = s.lkc := by
  simp [overGroups, h]

@[simp] theorem overLanes_lkc (f : Nat → State → State) (s : State) (h : ∀ n t, (f n t).lkc = t.lkc) :
    (overLanes f s).lkc = s.lkc := by
  simp [overLanes, h]

@[simp] theorem overBank_lkc (n : Nat) (f : State → Nat → State) (s : State) (h : ∀ t n, (f t n).lkc = t.lkc) :
    (overBank n f s).lkc = s.lkc := by
  simp [overBank, h]

@[simp] theorem overCabins_cnu (f : Nat → State → State) (s : State) (h : ∀ n t, (f n t).cnu = t.cnu) :
    (overCabins f s).cnu = s.cnu := by
  simp [overCabins, h]

@[simp] theorem overGroups_cnu (f : Nat → State → State) (s : State) (h : ∀ n t, (f n t).cnu = t.cnu) :
    (overGroups f s).cnu = s.cnu := by
  simp [overGroups, h]

@[simp] theorem overLanes_cnu (f : Nat → State → State) (s : State) (h : ∀ n t, (f n t).cnu = t.cnu) :
    (overLanes f s).cnu = s.cnu := by
  simp [overLanes, h]

@[simp] theorem overBank_cnu (n : Nat) (f : State → Nat → State) (s : State) (h : ∀ t n, (f t n).cnu = t.cnu) :
    (overBank n f s).cnu = s.cnu := by
  simp [overBank, h]

end Sys2Proof.Machine
end

