-- ==== Sys2Proof/Laws/Frames.lean ====
section
/-!
SUPPORT. What each operation on the whole state leaves alone, block by block, for a later proof to cite instead of
unfolding it.
-/

namespace Sys2Proof.Machine

@[simp] theorem updateBand_keeps (b : BandNo) (f : BandRecord → BandRecord) (s : State) :
    (updateBand b f s).pending = s.pending ∧ (updateBand b f s).lmu = s.lmu ∧ (updateBand b f s).cbu = s.cbu ∧
    (updateBand b f s).tfs = s.tfs ∧ (updateBand b f s).xlu = s.xlu ∧ (updateBand b f s).sck = s.sck ∧
    (updateBand b f s).sts = s.sts ∧ (updateBand b f s).flm = s.flm ∧ (updateBand b f s).lkc = s.lkc ∧
    (updateBand b f s).cnu = s.cnu := by
  exact ⟨rfl, rfl, rfl, rfl, rfl, rfl, rfl, rfl, rfl, rfl⟩

@[simp] theorem setLink_keeps (b : BandNo) (link : Option CabinLink) (s : State) :
    (setLink b link s).pending = s.pending ∧ (setLink b link s).lmu = s.lmu ∧ (setLink b link s).cbu = s.cbu ∧
    (setLink b link s).tfs = s.tfs ∧ (setLink b link s).xlu = s.xlu ∧ (setLink b link s).sck = s.sck ∧
    (setLink b link s).sts = s.sts ∧ (setLink b link s).flm = s.flm ∧ (setLink b link s).lkc = s.lkc ∧
    (setLink b link s).cnu = s.cnu := by
  exact ⟨rfl, rfl, rfl, rfl, rfl, rfl, rfl, rfl, rfl, rfl⟩

@[simp] theorem dropLocker_keeps (holder : Option BandNo) (n : Nat) (s : State) :
    (dropLocker holder n s).pending = s.pending ∧ (dropLocker holder n s).lmu = s.lmu ∧
    (dropLocker holder n s).cbu = s.cbu ∧ (dropLocker holder n s).tfs = s.tfs ∧ (dropLocker holder n s).xlu = s.xlu ∧
    (dropLocker holder n s).sck = s.sck ∧ (dropLocker holder n s).sts = s.sts ∧ (dropLocker holder n s).flm = s.flm ∧
    (dropLocker holder n s).lkc = s.lkc ∧ (dropLocker holder n s).cnu = s.cnu := by
  simp only [dropLocker]
  split
  all_goals simp

@[simp] theorem placeAnswer_keeps (a : Answer) (s : State) :
    (placeAnswer a s).pending = s.pending ∧ (placeAnswer a s).bdr = s.bdr ∧ (placeAnswer a s).lmu = s.lmu ∧
    (placeAnswer a s).cbu = s.cbu ∧ (placeAnswer a s).tfs = s.tfs ∧ (placeAnswer a s).xlu = s.xlu ∧
    (placeAnswer a s).sck = s.sck ∧ (placeAnswer a s).sts = s.sts ∧ (placeAnswer a s).flm = s.flm ∧
    (placeAnswer a s).cnu = s.cnu := by
  exact ⟨rfl, rfl, rfl, rfl, rfl, rfl, rfl, rfl, rfl, rfl⟩

@[simp] theorem writeEntry_keeps (addr : Nat) (k : EntryKey) (v : EntryValue) (s : State) :
    (writeEntry addr k v s).pending = s.pending ∧ (writeEntry addr k v s).bdr = s.bdr ∧
    (writeEntry addr k v s).lmu = s.lmu ∧ (writeEntry addr k v s).cbu = s.cbu ∧ (writeEntry addr k v s).tfs = s.tfs ∧
    (writeEntry addr k v s).xlu = s.xlu ∧ (writeEntry addr k v s).sck = s.sck ∧ (writeEntry addr k v s).sts = s.sts ∧
    (writeEntry addr k v s).lkc = s.lkc ∧ (writeEntry addr k v s).cnu = s.cnu := by
  exact ⟨rfl, rfl, rfl, rfl, rfl, rfl, rfl, rfl, rfl, rfl⟩

@[simp] theorem playOnce_keeps (addr : Nat) (p : OneShot) (s : State) :
    (playOnce addr p s).pending = s.pending ∧ (playOnce addr p s).bdr = s.bdr ∧ (playOnce addr p s).lmu = s.lmu ∧
    (playOnce addr p s).cbu = s.cbu ∧ (playOnce addr p s).tfs = s.tfs ∧ (playOnce addr p s).xlu = s.xlu ∧
    (playOnce addr p s).sck = s.sck ∧ (playOnce addr p s).sts = s.sts ∧ (playOnce addr p s).lkc = s.lkc ∧
    (playOnce addr p s).cnu = s.cnu := by
  exact ⟨rfl, rfl, rfl, rfl, rfl, rfl, rfl, rfl, rfl, rfl⟩

@[simp] theorem refuseAt_keeps (addr : Nat) (door : Nat) (code : DisplayCode) (s : State) :
    (refuseAt addr door code s).pending = s.pending ∧ (refuseAt addr door code s).bdr = s.bdr ∧
    (refuseAt addr door code s).lmu = s.lmu ∧ (refuseAt addr door code s).cbu = s.cbu ∧
    (refuseAt addr door code s).tfs = s.tfs ∧ (refuseAt addr door code s).xlu = s.xlu ∧
    (refuseAt addr door code s).sck = s.sck ∧ (refuseAt addr door code s).sts = s.sts ∧
    (refuseAt addr door code s).lkc = s.lkc ∧ (refuseAt addr door code s).cnu = s.cnu := by
  exact ⟨rfl, rfl, rfl, rfl, rfl, rfl, rfl, rfl, rfl, rfl⟩

@[simp] theorem putLocker_keeps (n : Nat) (l : Locker) (s : State) :
    (putLocker n l s).pending = s.pending ∧ (putLocker n l s).bdr = s.bdr ∧ (putLocker n l s).cbu = s.cbu ∧
    (putLocker n l s).tfs = s.tfs ∧ (putLocker n l s).xlu = s.xlu ∧ (putLocker n l s).sck = s.sck ∧
    (putLocker n l s).sts = s.sts ∧ (putLocker n l s).flm = s.flm ∧ (putLocker n l s).cnu = s.cnu := by
  exact ⟨rfl, rfl, rfl, rfl, rfl, rfl, rfl, rfl, rfl⟩

@[simp] theorem putCabin_keeps (c : Nat) (e : Cabin) (s : State) :
    (putCabin c e s).pending = s.pending ∧ (putCabin c e s).bdr = s.bdr ∧ (putCabin c e s).lmu = s.lmu ∧
    (putCabin c e s).tfs = s.tfs ∧ (putCabin c e s).xlu = s.xlu ∧ (putCabin c e s).sck = s.sck ∧
    (putCabin c e s).sts = s.sts ∧ (putCabin c e s).flm = s.flm ∧ (putCabin c e s).cnu = s.cnu := by
  exact ⟨rfl, rfl, rfl, rfl, rfl, rfl, rfl, rfl, rfl⟩

@[simp] theorem putLane_keeps (l : Nat) (e : Lane) (s : State) :
    (putLane l e s).pending = s.pending ∧ (putLane l e s).bdr = s.bdr ∧ (putLane l e s).lmu = s.lmu ∧
    (putLane l e s).cbu = s.cbu ∧ (putLane l e s).tfs = s.tfs ∧ (putLane l e s).sck = s.sck ∧ (putLane l e s).sts = s.sts ∧
    (putLane l e s).flm = s.flm ∧ (putLane l e s).cnu = s.cnu := by
  exact ⟨rfl, rfl, rfl, rfl, rfl, rfl, rfl, rfl, rfl⟩

@[simp] theorem setHealth_keeps (addr : Nat) (h : Health) (s : State) :
    (setHealth addr h s).pending = s.pending ∧ (setHealth addr h s).bdr = s.bdr ∧ (setHealth addr h s).lmu = s.lmu ∧
    (setHealth addr h s).cbu = s.cbu ∧ (setHealth addr h s).tfs = s.tfs ∧ (setHealth addr h s).xlu = s.xlu ∧
    (setHealth addr h s).sck = s.sck ∧ (setHealth addr h s).sts = s.sts ∧ (setHealth addr h s).cnu = s.cnu := by
  exact ⟨rfl, rfl, rfl, rfl, rfl, rfl, rfl, rfl, rfl⟩

@[simp] theorem raiseNotice_keeps (content : NoticeContent) (s : State) :
    (raiseNotice content s).pending = s.pending ∧ (raiseNotice content s).bdr = s.bdr ∧
    (raiseNotice content s).lmu = s.lmu ∧ (raiseNotice content s).cbu = s.cbu ∧ (raiseNotice content s).tfs = s.tfs ∧
    (raiseNotice content s).xlu = s.xlu ∧ (raiseNotice content s).sck = s.sck ∧ (raiseNotice content s).sts = s.sts ∧
    (raiseNotice content s).flm = s.flm := by
  exact ⟨rfl, rfl, rfl, rfl, rfl, rfl, rfl, rfl, rfl⟩

@[simp] theorem reportDiscard_keeps (cause : DiscardCause) (s : State) :
    (reportDiscard cause s).pending = s.pending ∧ (reportDiscard cause s).bdr = s.bdr ∧
    (reportDiscard cause s).lmu = s.lmu ∧ (reportDiscard cause s).cbu = s.cbu ∧ (reportDiscard cause s).tfs = s.tfs ∧
    (reportDiscard cause s).xlu = s.xlu ∧ (reportDiscard cause s).sck = s.sck ∧ (reportDiscard cause s).sts = s.sts ∧
    (reportDiscard cause s).flm = s.flm := by
  simp only [reportDiscard]
  split
  all_goals simp

@[simp] theorem popOrder_keeps (s : State) :
    (popOrder s).pending = s.pending ∧ (popOrder s).bdr = s.bdr ∧ (popOrder s).lmu = s.lmu ∧ (popOrder s).cbu = s.cbu ∧
    (popOrder s).tfs = s.tfs ∧ (popOrder s).xlu = s.xlu ∧ (popOrder s).sck = s.sck ∧ (popOrder s).sts = s.sts ∧
    (popOrder s).flm = s.flm ∧ (popOrder s).cnu = s.cnu := by
  exact ⟨rfl, rfl, rfl, rfl, rfl, rfl, rfl, rfl, rfl, rfl⟩

@[simp] theorem appendOrder_keeps (o : OrderFrame) (s : State) :
    (appendOrder o s).pending = s.pending ∧ (appendOrder o s).bdr = s.bdr ∧ (appendOrder o s).lmu = s.lmu ∧
    (appendOrder o s).cbu = s.cbu ∧ (appendOrder o s).tfs = s.tfs ∧ (appendOrder o s).xlu = s.xlu ∧
    (appendOrder o s).sck = s.sck ∧ (appendOrder o s).sts = s.sts ∧ (appendOrder o s).flm = s.flm ∧
    (appendOrder o s).cnu = s.cnu := by
  exact ⟨rfl, rfl, rfl, rfl, rfl, rfl, rfl, rfl, rfl, rfl⟩

@[simp] theorem tariffLoad_keeps (body : List Byte) (s : State) :
    (tariffLoad body s).1.pending = s.pending ∧ (tariffLoad body s).1.bdr = s.bdr ∧ (tariffLoad body s).1.lmu = s.lmu ∧
    (tariffLoad body s).1.cbu = s.cbu ∧ (tariffLoad body s).1.xlu = s.xlu ∧ (tariffLoad body s).1.sck = s.sck ∧
    (tariffLoad body s).1.sts = s.sts ∧ (tariffLoad body s).1.flm = s.flm ∧ (tariffLoad body s).1.lkc = s.lkc ∧
    (tariffLoad body s).1.cnu = s.cnu := by
  simp only [tariffLoad]
  split
  all_goals simp [refused, done]

@[simp] theorem tariffCommit_keeps (s : State) :
    (tariffCommit s).1.pending = s.pending ∧ (tariffCommit s).1.bdr = s.bdr ∧ (tariffCommit s).1.lmu = s.lmu ∧
    (tariffCommit s).1.cbu = s.cbu ∧ (tariffCommit s).1.xlu = s.xlu ∧ (tariffCommit s).1.sck = s.sck ∧
    (tariffCommit s).1.sts = s.sts ∧ (tariffCommit s).1.flm = s.flm ∧ (tariffCommit s).1.lkc = s.lkc ∧
    (tariffCommit s).1.cnu = s.cnu := by
  simp only [tariffCommit]
  repeat' split
  all_goals exact ⟨rfl, rfl, rfl, rfl, rfl, rfl, rfl, rfl, rfl, rfl⟩

@[simp] theorem readTariff_keeps (body : List Byte) (s : State) :
    (readTariff body s).1.pending = s.pending ∧ (readTariff body s).1.bdr = s.bdr ∧ (readTariff body s).1.lmu = s.lmu ∧
    (readTariff body s).1.cbu = s.cbu ∧ (readTariff body s).1.tfs = s.tfs ∧ (readTariff body s).1.xlu = s.xlu ∧
    (readTariff body s).1.sck = s.sck ∧ (readTariff body s).1.sts = s.sts ∧ (readTariff body s).1.flm = s.flm ∧
    (readTariff body s).1.lkc = s.lkc ∧ (readTariff body s).1.cnu = s.cnu := by
  simp only [readTariff]
  split
  all_goals simp [refused, done]

@[simp] theorem swapTariff_keeps (minute : Nat) (s : State) :
    (swapTariff minute s).pending = s.pending ∧ (swapTariff minute s).bdr = s.bdr ∧ (swapTariff minute s).lmu = s.lmu ∧
    (swapTariff minute s).cbu = s.cbu ∧ (swapTariff minute s).xlu = s.xlu ∧ (swapTariff minute s).sck = s.sck ∧
    (swapTariff minute s).sts = s.sts ∧ (swapTariff minute s).flm = s.flm := by
  simp only [swapTariff]
  split
  all_goals simp

@[simp] theorem quotePreview_keeps (body : List Byte) (s : State) :
    (quotePreview body s).1.pending = s.pending ∧ (quotePreview body s).1.bdr = s.bdr ∧
    (quotePreview body s).1.lmu = s.lmu ∧ (quotePreview body s).1.cbu = s.cbu ∧ (quotePreview body s).1.tfs = s.tfs ∧
    (quotePreview body s).1.xlu = s.xlu ∧ (quotePreview body s).1.sck = s.sck ∧ (quotePreview body s).1.sts = s.sts ∧
    (quotePreview body s).1.flm = s.flm ∧ (quotePreview body s).1.lkc = s.lkc ∧ (quotePreview body s).1.cnu = s.cnu := by
  simp only [quotePreview]
  repeat' split
  all_goals simp [refused, done]

@[simp] theorem showCabin_keeps (n : Nat) (s : State) :
    (showCabin n s).pending = s.pending ∧ (showCabin n s).bdr = s.bdr ∧ (showCabin n s).lmu = s.lmu ∧
    (showCabin n s).cbu = s.cbu ∧ (showCabin n s).tfs = s.tfs ∧ (showCabin n s).xlu = s.xlu ∧ (showCabin n s).sck = s.sck ∧
    (showCabin n s).sts = s.sts ∧ (showCabin n s).lkc = s.lkc ∧ (showCabin n s).cnu = s.cnu := by
  exact ⟨rfl, rfl, rfl, rfl, rfl, rfl, rfl, rfl, rfl, rfl⟩

@[simp] theorem moveCabin_keeps (n : Nat) (c : Cabin) (s : State) :
    (moveCabin n c s).pending = s.pending ∧ (moveCabin n c s).bdr = s.bdr ∧ (moveCabin n c s).lmu = s.lmu ∧
    (moveCabin n c s).tfs = s.tfs ∧ (moveCabin n c s).xlu = s.xlu ∧ (moveCabin n c s).sck = s.sck ∧
    (moveCabin n c s).sts = s.sts ∧ (moveCabin n c s).cnu = s.cnu := by
  exact ⟨rfl, rfl, rfl, rfl, rfl, rfl, rfl, rfl⟩

@[simp] theorem setQueue_keeps (g : Nat) (f : List QueueEntry → List QueueEntry) (s : State) :
    (setQueue g f s).pending = s.pending ∧ (setQueue g f s).bdr = s.bdr ∧ (setQueue g f s).lmu = s.lmu ∧
    (setQueue g f s).tfs = s.tfs ∧ (setQueue g f s).xlu = s.xlu ∧ (setQueue g f s).sck = s.sck ∧
    (setQueue g f s).sts = s.sts ∧ (setQueue g f s).flm = s.flm ∧ (setQueue g f s).lkc = s.lkc ∧
    (setQueue g f s).cnu = s.cnu := by
  exact ⟨rfl, rfl, rfl, rfl, rfl, rfl, rfl, rfl, rfl, rfl⟩

@[simp] theorem appendEntry_keeps (g : Nat) (e : QueueEntry) (s : State) :
    (appendEntry g e s).pending = s.pending ∧ (appendEntry g e s).lmu = s.lmu ∧ (appendEntry g e s).tfs = s.tfs ∧
    (appendEntry g e s).xlu = s.xlu ∧ (appendEntry g e s).sck = s.sck ∧ (appendEntry g e s).sts = s.sts ∧
    (appendEntry g e s).flm = s.flm ∧ (appendEntry g e s).lkc = s.lkc ∧ (appendEntry g e s).cnu = s.cnu := by
  exact ⟨rfl, rfl, rfl, rfl, rfl, rfl, rfl, rfl, rfl⟩

@[simp] theorem joinQueue_keeps (g : Nat) (b : BandNo) (s : State) :
    (joinQueue g b s).pending = s.pending ∧ (joinQueue g b s).lmu = s.lmu ∧ (joinQueue g b s).tfs = s.tfs ∧
    (joinQueue g b s).xlu = s.xlu ∧ (joinQueue g b s).sck = s.sck ∧ (joinQueue g b s).sts = s.sts ∧
    (joinQueue g b s).flm = s.flm ∧ (joinQueue g b s).lkc = s.lkc ∧ (joinQueue g b s).cnu = s.cnu := by
  exact ⟨rfl, rfl, rfl, rfl, rfl, rfl, rfl, rfl, rfl⟩

@[simp] theorem removeEntry_keeps (g : Nat) (b : BandNo) (s : State) :
    (removeEntry g b s).pending = s.pending ∧ (removeEntry g b s).bdr = s.bdr ∧ (removeEntry g b s).lmu = s.lmu ∧
    (removeEntry g b s).tfs = s.tfs ∧ (removeEntry g b s).xlu = s.xlu ∧ (removeEntry g b s).sck = s.sck ∧
    (removeEntry g b s).sts = s.sts ∧ (removeEntry g b s).flm = s.flm ∧ (removeEntry g b s).lkc = s.lkc ∧
    (removeEntry g b s).cnu = s.cnu := by
  exact ⟨rfl, rfl, rfl, rfl, rfl, rfl, rfl, rfl, rfl, rfl⟩

@[simp] theorem displaceTail_keeps (g : Nat) (announce : Bool) (s : State) :
    (displaceTail g announce s).pending = s.pending ∧ (displaceTail g announce s).lmu = s.lmu ∧
    (displaceTail g announce s).tfs = s.tfs ∧ (displaceTail g announce s).xlu = s.xlu ∧
    (displaceTail g announce s).sck = s.sck ∧ (displaceTail g announce s).sts = s.sts ∧
    (displaceTail g announce s).flm = s.flm := by
  simp only [displaceTail]
  repeat' split
  all_goals simp

@[simp] theorem restoreHead_keeps (g : Nat) (e : QueueEntry) (announce : Bool) (s : State) :
    (restoreHead g e announce s).pending = s.pending ∧ (restoreHead g e announce s).lmu = s.lmu ∧
    (restoreHead g e announce s).tfs = s.tfs ∧ (restoreHead g e announce s).xlu = s.xlu ∧
    (restoreHead g e announce s).sck = s.sck ∧ (restoreHead g e announce s).sts = s.sts ∧
    (restoreHead g e announce s).flm = s.flm := by
  simp [restoreHead]

@[simp] theorem makeOffer_keeps (g : Nat) (n : Nat) (e : QueueEntry) (s : State) :
    (makeOffer g n e s).pending = s.pending ∧ (makeOffer g n e s).lmu = s.lmu ∧ (makeOffer g n e s).tfs = s.tfs ∧
    (makeOffer g n e s).xlu = s.xlu ∧ (makeOffer g n e s).sck = s.sck ∧ (makeOffer g n e s).sts = s.sts ∧
    (makeOffer g n e s).cnu = s.cnu := by
  simp only [makeOffer]
  split
  all_goals simp

@[simp] theorem allocateUpTo_keeps (k g : Nat) (s : State) :
    (allocateUpTo k g s).pending = s.pending ∧ (allocateUpTo k g s).lmu = s.lmu ∧ (allocateUpTo k g s).tfs = s.tfs ∧
    (allocateUpTo k g s).xlu = s.xlu ∧ (allocateUpTo k g s).sck = s.sck ∧ (allocateUpTo k g s).sts = s.sts ∧
    (allocateUpTo k g s).cnu = s.cnu := by
  induction k generalizing s with
  | zero => simp [allocateUpTo]
  | succ k ih =>
    simp only [allocateUpTo]
    split
    all_goals simp [ih]

@[simp] theorem allocate_keeps (g : Nat) (s : State) :
    (allocate g s).pending = s.pending ∧ (allocate g s).lmu = s.lmu ∧ (allocate g s).tfs = s.tfs ∧
    (allocate g s).xlu = s.xlu ∧ (allocate g s).sck = s.sck ∧ (allocate g s).sts = s.sts ∧ (allocate g s).cnu = s.cnu := by
  simp [allocate]

@[simp] theorem endOffer_keeps (n : Nat) (c : Cabin) (next : CabinState) (s : State) :
    (endOffer n c next s).pending = s.pending ∧ (endOffer n c next s).bdr = s.bdr ∧ (endOffer n c next s).lmu = s.lmu ∧
    (endOffer n c next s).tfs = s.tfs ∧ (endOffer n c next s).xlu = s.xlu ∧ (endOffer n c next s).sck = s.sck ∧
    (endOffer n c next s).sts = s.sts ∧ (endOffer n c next s).cnu = s.cnu := by
  exact ⟨rfl, rfl, rfl, rfl, rfl, rfl, rfl, rfl⟩

@[simp] theorem withdrawBand_keeps (b : BandNo) (s : State) :
    (withdrawBand b s).pending = s.pending ∧ (withdrawBand b s).lmu = s.lmu ∧ (withdrawBand b s).tfs = s.tfs ∧
    (withdrawBand b s).xlu = s.xlu ∧ (withdrawBand b s).sck = s.sck ∧ (withdrawBand b s).sts = s.sts ∧
    (withdrawBand b s).cnu = s.cnu := by
  simp only [withdrawBand]
  repeat' split
  all_goals simp

@[simp] theorem acceptOffer_keeps (n : Nat) (c : Cabin) (s : State) :
    (acceptOffer n c s).pending = s.pending ∧ (acceptOffer n c s).lmu = s.lmu ∧ (acceptOffer n c s).tfs = s.tfs ∧
    (acceptOffer n c s).xlu = s.xlu ∧ (acceptOffer n c s).sck = s.sck ∧ (acceptOffer n c s).sts = s.sts ∧
    (acceptOffer n c s).cnu = s.cnu := by
  simp only [acceptOffer]
  split
  all_goals simp

@[simp] theorem renewEntry_keeps (n : Nat) (c : Cabin) (s : State) :
    (renewEntry n c s).pending = s.pending ∧ (renewEntry n c s).bdr = s.bdr ∧ (renewEntry n c s).lmu = s.lmu ∧
    (renewEntry n c s).tfs = s.tfs ∧ (renewEntry n c s).xlu = s.xlu ∧ (renewEntry n c s).sck = s.sck ∧
    (renewEntry n c s).sts = s.sts ∧ (renewEntry n c s).cnu = s.cnu := by
  exact ⟨rfl, rfl, rfl, rfl, rfl, rfl, rfl, rfl⟩

@[simp] theorem releaseCabin_keeps (n : Nat) (c : Cabin) (s : State) :
    (releaseCabin n c s).pending = s.pending ∧ (releaseCabin n c s).lmu = s.lmu ∧ (releaseCabin n c s).tfs = s.tfs ∧
    (releaseCabin n c s).xlu = s.xlu ∧ (releaseCabin n c s).sck = s.sck ∧ (releaseCabin n c s).sts = s.sts ∧
    (releaseCabin n c s).cnu = s.cnu := by
  simp only [releaseCabin]
  split
  all_goals simp

@[simp] theorem allocateIfFree_keeps (n : Nat) (s : State) :
    (allocateIfFree n s).pending = s.pending ∧ (allocateIfFree n s).lmu = s.lmu ∧ (allocateIfFree n s).tfs = s.tfs ∧
    (allocateIfFree n s).xlu = s.xlu ∧ (allocateIfFree n s).sck = s.sck ∧ (allocateIfFree n s).sts = s.sts ∧
    (allocateIfFree n s).cnu = s.cnu := by
  simp only [allocateIfFree]
  repeat' split
  all_goals simp

@[simp] theorem endCleaning_keeps (n : Nat) (c : Cabin) (s : State) :
    (endCleaning n c s).pending = s.pending ∧ (endCleaning n c s).bdr = s.bdr ∧ (endCleaning n c s).lmu = s.lmu ∧
    (endCleaning n c s).tfs = s.tfs ∧ (endCleaning n c s).xlu = s.xlu ∧ (endCleaning n c s).sck = s.sck ∧
    (endCleaning n c s).sts = s.sts ∧ (endCleaning n c s).cnu = s.cnu := by
  exact ⟨rfl, rfl, rfl, rfl, rfl, rfl, rfl, rfl⟩

@[simp] theorem showJoin_keeps (g : Nat) (t : Nat) (b : BandNo) (s : State) :
    (showJoin g t b s).pending = s.pending ∧ (showJoin g t b s).bdr = s.bdr ∧ (showJoin g t b s).lmu = s.lmu ∧
    (showJoin g t b s).cbu = s.cbu ∧ (showJoin g t b s).tfs = s.tfs ∧ (showJoin g t b s).xlu = s.xlu ∧
    (showJoin g t b s).sck = s.sck ∧ (showJoin g t b s).sts = s.sts ∧ (showJoin g t b s).lkc = s.lkc ∧
    (showJoin g t b s).cnu = s.cnu := by
  simp only [showJoin]
  split
  all_goals simp

@[simp] theorem presentAtPad_keeps (g : Nat) (r : BandRecord) (s : State) :
    (presentAtPad g r s).pending = s.pending ∧ (presentAtPad g r s).lmu = s.lmu ∧ (presentAtPad g r s).tfs = s.tfs ∧
    (presentAtPad g r s).xlu = s.xlu ∧ (presentAtPad g r s).sck = s.sck ∧ (presentAtPad g r s).sts = s.sts ∧
    (presentAtPad g r s).cnu = s.cnu := by
  simp only [presentAtPad]
  repeat' split
  all_goals simp

@[simp] theorem masterAtPad_keeps (g : Nat) (s : State) :
    (masterAtPad g s).pending = s.pending ∧ (masterAtPad g s).bdr = s.bdr ∧ (masterAtPad g s).lmu = s.lmu ∧
    (masterAtPad g s).cbu = s.cbu ∧ (masterAtPad g s).tfs = s.tfs ∧ (masterAtPad g s).xlu = s.xlu ∧
    (masterAtPad g s).sck = s.sck ∧ (masterAtPad g s).sts = s.sts ∧ (masterAtPad g s).lkc = s.lkc ∧
    (masterAtPad g s).cnu = s.cnu := by
  exact ⟨rfl, rfl, rfl, rfl, rfl, rfl, rfl, rfl, rfl, rfl⟩

@[simp] theorem presentAtCabin_keeps (n : Nat) (r : BandRecord) (s : State) :
    (presentAtCabin n r s).pending = s.pending ∧ (presentAtCabin n r s).lmu = s.lmu ∧ (presentAtCabin n r s).tfs = s.tfs ∧
    (presentAtCabin n r s).xlu = s.xlu ∧ (presentAtCabin n r s).sck = s.sck ∧ (presentAtCabin n r s).sts = s.sts ∧
    (presentAtCabin n r s).cnu = s.cnu := by
  simp only [presentAtCabin]
  repeat' split
  all_goals simp

@[simp] theorem openForMaster_keeps (n : Nat) (s : State) :
    (openForMaster n s).pending = s.pending ∧ (openForMaster n s).bdr = s.bdr ∧ (openForMaster n s).lmu = s.lmu ∧
    (openForMaster n s).cbu = s.cbu ∧ (openForMaster n s).tfs = s.tfs ∧ (openForMaster n s).xlu = s.xlu ∧
    (openForMaster n s).sck = s.sck ∧ (openForMaster n s).sts = s.sts ∧ (openForMaster n s).lkc = s.lkc ∧
    (openForMaster n s).cnu = s.cnu := by
  exact ⟨rfl, rfl, rfl, rfl, rfl, rfl, rfl, rfl, rfl, rfl⟩

@[simp] theorem masterAtCabin_keeps (n : Nat) (s : State) :
    (masterAtCabin n s).pending = s.pending ∧ (masterAtCabin n s).lmu = s.lmu ∧ (masterAtCabin n s).tfs = s.tfs ∧
    (masterAtCabin n s).xlu = s.xlu ∧ (masterAtCabin n s).sck = s.sck ∧ (masterAtCabin n s).sts = s.sts ∧
    (masterAtCabin n s).cnu = s.cnu := by
  simp only [masterAtCabin]
  repeat' split
  all_goals simp

@[simp] theorem cabinDoorEvent_keeps (n : Nat) (isOpen : Bool) (s : State) :
    (cabinDoorEvent n isOpen s).pending = s.pending ∧ (cabinDoorEvent n isOpen s).bdr = s.bdr ∧
    (cabinDoorEvent n isOpen s).lmu = s.lmu ∧ (cabinDoorEvent n isOpen s).tfs = s.tfs ∧
    (cabinDoorEvent n isOpen s).xlu = s.xlu ∧ (cabinDoorEvent n isOpen s).sck = s.sck ∧
    (cabinDoorEvent n isOpen s).sts = s.sts ∧ (cabinDoorEvent n isOpen s).flm = s.flm ∧
    (cabinDoorEvent n isOpen s).cnu = s.cnu := by
  simp only [cabinDoorEvent]
  repeat' split
  all_goals simp

@[simp] theorem missOffer_keeps (n : Nat) (c : Cabin) (e : QueueEntry) (s : State) :
    (missOffer n c e s).pending = s.pending ∧ (missOffer n c e s).lmu = s.lmu ∧ (missOffer n c e s).tfs = s.tfs ∧
    (missOffer n c e s).xlu = s.xlu ∧ (missOffer n c e s).sck = s.sck ∧ (missOffer n c e s).sts = s.sts := by
  simp only [missOffer]
  split
  all_goals simp

@[simp] theorem takeOfferExpiry_keeps (n : Nat) (s : State) :
    (takeOfferExpiry n s).pending = s.pending ∧ (takeOfferExpiry n s).lmu = s.lmu ∧ (takeOfferExpiry n s).tfs = s.tfs ∧
    (takeOfferExpiry n s).xlu = s.xlu ∧ (takeOfferExpiry n s).sck = s.sck ∧ (takeOfferExpiry n s).sts = s.sts := by
  simp only [takeOfferExpiry]
  repeat' split
  all_goals simp

@[simp] theorem takeEntryExpiry_keeps (n : Nat) (s : State) :
    (takeEntryExpiry n s).pending = s.pending ∧ (takeEntryExpiry n s).bdr = s.bdr ∧ (takeEntryExpiry n s).lmu = s.lmu ∧
    (takeEntryExpiry n s).tfs = s.tfs ∧ (takeEntryExpiry n s).xlu = s.xlu ∧ (takeEntryExpiry n s).sck = s.sck ∧
    (takeEntryExpiry n s).sts = s.sts ∧ (takeEntryExpiry n s).flm = s.flm ∧ (takeEntryExpiry n s).cnu = s.cnu := by
  simp only [takeEntryExpiry]
  repeat' split
  all_goals simp

@[simp] theorem takeCleaningExpiry_keeps (n : Nat) (s : State) :
    (takeCleaningExpiry n s).pending = s.pending ∧ (takeCleaningExpiry n s).lmu = s.lmu ∧
    (takeCleaningExpiry n s).tfs = s.tfs ∧ (takeCleaningExpiry n s).xlu = s.xlu ∧ (takeCleaningExpiry n s).sck = s.sck ∧
    (takeCleaningExpiry n s).sts = s.sts ∧ (takeCleaningExpiry n s).cnu = s.cnu := by
  simp only [takeCleaningExpiry]
  repeat' split
  all_goals simp

@[simp] theorem abandonCabin_keeps (n : Nat) (c : Cabin) (s : State) :
    (abandonCabin n c s).pending = s.pending ∧ (abandonCabin n c s).lmu = s.lmu ∧ (abandonCabin n c s).tfs = s.tfs ∧
    (abandonCabin n c s).xlu = s.xlu ∧ (abandonCabin n c s).sck = s.sck ∧ (abandonCabin n c s).sts = s.sts := by
  simp [abandonCabin]

@[simp] theorem takeAbandonment_keeps (n : Nat) (s : State) :
    (takeAbandonment n s).pending = s.pending ∧ (takeAbandonment n s).lmu = s.lmu ∧ (takeAbandonment n s).tfs = s.tfs ∧
    (takeAbandonment n s).xlu = s.xlu ∧ (takeAbandonment n s).sck = s.sck ∧ (takeAbandonment n s).sts = s.sts := by
  simp only [takeAbandonment]
  repeat' split
  all_goals simp

@[simp] theorem countCabin_keeps (n : Nat) (s : State) :
    (countCabin n s).pending = s.pending ∧ (countCabin n s).bdr = s.bdr ∧ (countCabin n s).lmu = s.lmu ∧
    (countCabin n s).tfs = s.tfs ∧ (countCabin n s).xlu = s.xlu ∧ (countCabin n s).sck = s.sck ∧
    (countCabin n s).sts = s.sts := by
  simp only [countCabin]
  repeat' split
  all_goals simp

@[simp] theorem countOccupancy_keeps (s : State) :
    (countOccupancy s).pending = s.pending ∧ (countOccupancy s).bdr = s.bdr ∧ (countOccupancy s).lmu = s.lmu ∧
    (countOccupancy s).tfs = s.tfs ∧ (countOccupancy s).xlu = s.xlu ∧ (countOccupancy s).sck = s.sck ∧
    (countOccupancy s).sts = s.sts := by
  simp [countOccupancy]

@[simp] theorem emptyQueue_keeps (g : Nat) (s : State) :
    (emptyQueue g s).pending = s.pending ∧ (emptyQueue g s).lmu = s.lmu ∧ (emptyQueue g s).tfs = s.tfs ∧
    (emptyQueue g s).xlu = s.xlu ∧ (emptyQueue g s).sck = s.sck ∧ (emptyQueue g s).sts = s.sts ∧
    (emptyQueue g s).flm = s.flm ∧ (emptyQueue g s).lkc = s.lkc ∧ (emptyQueue g s).cnu = s.cnu := by
  simp [emptyQueue]

@[simp] theorem closeOffer_keeps (n : Nat) (s : State) :
    (closeOffer n s).pending = s.pending ∧ (closeOffer n s).lmu = s.lmu ∧ (closeOffer n s).tfs = s.tfs ∧
    (closeOffer n s).xlu = s.xlu ∧ (closeOffer n s).sck = s.sck ∧ (closeOffer n s).sts = s.sts ∧
    (closeOffer n s).cnu = s.cnu := by
  simp only [closeOffer]
  repeat' split
  all_goals simp

@[simp] theorem closeCabins_keeps (s : State) :
    (closeCabins s).pending = s.pending ∧ (closeCabins s).lmu = s.lmu ∧ (closeCabins s).tfs = s.tfs ∧
    (closeCabins s).xlu = s.xlu ∧ (closeCabins s).sck = s.sck ∧ (closeCabins s).sts = s.sts ∧ (closeCabins s).cnu = s.cnu := by
  simp [closeCabins]

@[simp] theorem loseCabin_keeps (n : Nat) (s : State) :
    (loseCabin n s).pending = s.pending ∧ (loseCabin n s).bdr = s.bdr ∧ (loseCabin n s).lmu = s.lmu ∧
    (loseCabin n s).tfs = s.tfs ∧ (loseCabin n s).xlu = s.xlu ∧ (loseCabin n s).sck = s.sck ∧ (loseCabin n s).sts = s.sts ∧
    (loseCabin n s).flm = s.flm ∧ (loseCabin n s).cnu = s.cnu := by
  simp only [loseCabin]
  repeat' split
  all_goals simp

@[simp] theorem restoreCabin_keeps (n : Nat) (s : State) :
    (restoreCabin n s).pending = s.pending ∧ (restoreCabin n s).bdr = s.bdr ∧ (restoreCabin n s).lmu = s.lmu ∧
    (restoreCabin n s).tfs = s.tfs ∧ (restoreCabin n s).xlu = s.xlu ∧ (restoreCabin n s).sck = s.sck ∧
    (restoreCabin n s).sts = s.sts ∧ (restoreCabin n s).flm = s.flm ∧ (restoreCabin n s).cnu = s.cnu := by
  simp only [restoreCabin]
  repeat' split
  all_goals simp

@[simp] theorem reconcileCabin_keeps (n : Nat) (door : DoorReading) (s : State) :
    (reconcileCabin n door s).pending = s.pending ∧ (reconcileCabin n door s).bdr = s.bdr ∧
    (reconcileCabin n door s).lmu = s.lmu ∧ (reconcileCabin n door s).tfs = s.tfs ∧ (reconcileCabin n door s).xlu = s.xlu ∧
    (reconcileCabin n door s).sck = s.sck ∧ (reconcileCabin n door s).sts = s.sts ∧ (reconcileCabin n door s).cnu = s.cnu := by
  simp only [reconcileCabin]
  split
  all_goals simp

@[simp] theorem regainCabin_keeps (n : Nat) (door : DoorReading) (s : State) :
    (regainCabin n door s).pending = s.pending ∧ (regainCabin n door s).lmu = s.lmu ∧ (regainCabin n door s).tfs = s.tfs ∧
    (regainCabin n door s).xlu = s.xlu ∧ (regainCabin n door s).sck = s.sck ∧ (regainCabin n door s).sts = s.sts ∧
    (regainCabin n door s).cnu = s.cnu := by
  simp [regainCabin]

@[simp] theorem purgeCabin_keeps (n : Nat) (s : State) :
    (purgeCabin n s).pending = s.pending ∧ (purgeCabin n s).bdr = s.bdr ∧ (purgeCabin n s).lmu = s.lmu ∧
    (purgeCabin n s).tfs = s.tfs ∧ (purgeCabin n s).xlu = s.xlu ∧ (purgeCabin n s).sck = s.sck ∧
    (purgeCabin n s).sts = s.sts ∧ (purgeCabin n s).cnu = s.cnu := by
  simp only [purgeCabin]
  repeat' split
  all_goals simp

@[simp] theorem unwindOffer_keeps (n : Nat) (s : State) :
    (unwindOffer n s).pending = s.pending ∧ (unwindOffer n s).lmu = s.lmu ∧ (unwindOffer n s).tfs = s.tfs ∧
    (unwindOffer n s).xlu = s.xlu ∧ (unwindOffer n s).sck = s.sck ∧ (unwindOffer n s).sts = s.sts := by
  simp only [unwindOffer]
  repeat' split
  all_goals simp

@[simp] theorem unwindGroup_keeps (g : Nat) (s : State) :
    (unwindGroup g s).pending = s.pending ∧ (unwindGroup g s).lmu = s.lmu ∧ (unwindGroup g s).tfs = s.tfs ∧
    (unwindGroup g s).xlu = s.xlu ∧ (unwindGroup g s).sck = s.sck ∧ (unwindGroup g s).sts = s.sts := by
  simp [unwindGroup, -List.foldl_reverse]

@[simp] theorem restoreOffers_keeps (s : State) :
    (restoreOffers s).pending = s.pending ∧ (restoreOffers s).lmu = s.lmu ∧ (restoreOffers s).tfs = s.tfs ∧
    (restoreOffers s).xlu = s.xlu ∧ (restoreOffers s).sck = s.sck ∧ (restoreOffers s).sts = s.sts := by
  simp [restoreOffers]

@[simp] theorem warmCabins_keeps (s : State) :
    (warmCabins s).pending = s.pending ∧ (warmCabins s).lmu = s.lmu ∧ (warmCabins s).tfs = s.tfs ∧
    (warmCabins s).xlu = s.xlu ∧ (warmCabins s).sck = s.sck ∧ (warmCabins s).sts = s.sts := by
  simp [warmCabins]

@[simp] theorem cabinAssign_keeps (b : BandNo) (g : Nat) (s : State) :
    (cabinAssign b g s).1.pending = s.pending ∧ (cabinAssign b g s).1.lmu = s.lmu ∧ (cabinAssign b g s).1.tfs = s.tfs ∧
    (cabinAssign b g s).1.xlu = s.xlu ∧ (cabinAssign b g s).1.sck = s.sck ∧ (cabinAssign b g s).1.sts = s.sts ∧
    (cabinAssign b g s).1.cnu = s.cnu := by
  simp only [cabinAssign]
  repeat' split
  all_goals simp [refused, done]

@[simp] theorem setCabinLimit_keeps (g : Nat) (minutes : Nat) (s : State) :
    (setCabinLimit g minutes s).1.pending = s.pending ∧ (setCabinLimit g minutes s).1.bdr = s.bdr ∧
    (setCabinLimit g minutes s).1.lmu = s.lmu ∧ (setCabinLimit g minutes s).1.tfs = s.tfs ∧
    (setCabinLimit g minutes s).1.xlu = s.xlu ∧ (setCabinLimit g minutes s).1.sck = s.sck ∧
    (setCabinLimit g minutes s).1.sts = s.sts ∧ (setCabinLimit g minutes s).1.flm = s.flm ∧
    (setCabinLimit g minutes s).1.lkc = s.lkc ∧ (setCabinLimit g minutes s).1.cnu = s.cnu := by
  simp only [setCabinLimit]
  split
  all_goals simp [refused, done]

@[simp] theorem cleaned_keeps (n : Nat) (s : State) :
    (cleaned n s).1.pending = s.pending ∧ (cleaned n s).1.lmu = s.lmu ∧ (cleaned n s).1.tfs = s.tfs ∧
    (cleaned n s).1.xlu = s.xlu ∧ (cleaned n s).1.sck = s.sck ∧ (cleaned n s).1.sts = s.sts ∧ (cleaned n s).1.cnu = s.cnu := by
  simp only [cleaned]
  repeat' split
  all_goals simp [refused, done]

@[simp] theorem cabinOut_keeps (n : Nat) (c : Cabin) (s : State) :
    (cabinOut n c s).pending = s.pending ∧ (cabinOut n c s).lmu = s.lmu ∧ (cabinOut n c s).tfs = s.tfs ∧
    (cabinOut n c s).xlu = s.xlu ∧ (cabinOut n c s).sck = s.sck ∧ (cabinOut n c s).sts = s.sts := by
  simp only [cabinOut]
  repeat' split
  all_goals simp

@[simp] theorem cabinIn_keeps (n : Nat) (c : Cabin) (s : State) :
    (cabinIn n c s).pending = s.pending ∧ (cabinIn n c s).lmu = s.lmu ∧ (cabinIn n c s).tfs = s.tfs ∧
    (cabinIn n c s).xlu = s.xlu ∧ (cabinIn n c s).sck = s.sck ∧ (cabinIn n c s).sts = s.sts ∧ (cabinIn n c s).cnu = s.cnu := by
  simp only [cabinIn]
  split
  all_goals simp

@[simp] theorem cabinService_keeps (n : Nat) (direction : Nat) (s : State) :
    (cabinService n direction s).1.pending = s.pending ∧ (cabinService n direction s).1.lmu = s.lmu ∧
    (cabinService n direction s).1.tfs = s.tfs ∧ (cabinService n direction s).1.xlu = s.xlu ∧
    (cabinService n direction s).1.sck = s.sck ∧ (cabinService n direction s).1.sts = s.sts := by
  simp only [cabinService]
  repeat' split
  all_goals simp [refused, done]

@[simp] theorem readCabin_keeps (n : Nat) (s : State) :
    (readCabin n s).1.pending = s.pending ∧ (readCabin n s).1.bdr = s.bdr ∧ (readCabin n s).1.lmu = s.lmu ∧
    (readCabin n s).1.cbu = s.cbu ∧ (readCabin n s).1.tfs = s.tfs ∧ (readCabin n s).1.xlu = s.xlu ∧
    (readCabin n s).1.sck = s.sck ∧ (readCabin n s).1.sts = s.sts ∧ (readCabin n s).1.flm = s.flm ∧
    (readCabin n s).1.lkc = s.lkc ∧ (readCabin n s).1.cnu = s.cnu := by
  simp only [readCabin]
  split
  all_goals simp [refused, done]

@[simp] theorem readQueue_keeps (g : Nat) (start : Nat) (s : State) :
    (readQueue g start s).1.pending = s.pending ∧ (readQueue g start s).1.bdr = s.bdr ∧
    (readQueue g start s).1.lmu = s.lmu ∧ (readQueue g start s).1.cbu = s.cbu ∧ (readQueue g start s).1.tfs = s.tfs ∧
    (readQueue g start s).1.xlu = s.xlu ∧ (readQueue g start s).1.sck = s.sck ∧ (readQueue g start s).1.sts = s.sts ∧
    (readQueue g start s).1.flm = s.flm ∧ (readQueue g start s).1.lkc = s.lkc ∧ (readQueue g start s).1.cnu = s.cnu := by
  simp only [readQueue]
  repeat' split
  all_goals simp [refused, done]

@[simp] theorem issueBand_keeps (a : IssueArgs) (s : State) :
    (issueBand a s).1.pending = s.pending ∧ (issueBand a s).1.lmu = s.lmu ∧ (issueBand a s).1.cbu = s.cbu ∧
    (issueBand a s).1.tfs = s.tfs ∧ (issueBand a s).1.xlu = s.xlu ∧ (issueBand a s).1.sck = s.sck ∧
    (issueBand a s).1.sts = s.sts ∧ (issueBand a s).1.flm = s.flm ∧ (issueBand a s).1.lkc = s.lkc ∧
    (issueBand a s).1.cnu = s.cnu := by
  simp only [issueBand]
  repeat' split
  all_goals exact ⟨rfl, rfl, rfl, rfl, rfl, rfl, rfl, rfl, rfl, rfl⟩

@[simp] theorem barBand_keeps (b : BandNo) (s : State) :
    (barBand b s).1.pending = s.pending ∧ (barBand b s).1.lmu = s.lmu ∧ (barBand b s).1.tfs = s.tfs ∧
    (barBand b s).1.xlu = s.xlu ∧ (barBand b s).1.sck = s.sck ∧ (barBand b s).1.sts = s.sts ∧ (barBand b s).1.cnu = s.cnu := by
  simp only [barBand]
  repeat' split
  all_goals simp [refused, done]

@[simp] theorem recognise_keeps (reader : Reader) (b : BandNo) (s : State) :
    (recognise reader b s).1.pending = s.pending ∧ (recognise reader b s).1.lmu = s.lmu ∧
    (recognise reader b s).1.cbu = s.cbu ∧ (recognise reader b s).1.tfs = s.tfs ∧ (recognise reader b s).1.xlu = s.xlu ∧
    (recognise reader b s).1.sck = s.sck ∧ (recognise reader b s).1.sts = s.sts ∧ (recognise reader b s).1.flm = s.flm := by
  simp only [recognise]
  repeat' split
  all_goals simp

@[simp] theorem rehold_keeps (new : BandNo) (n : Nat) (s : State) :
    (rehold new s n).pending = s.pending ∧ (rehold new s n).bdr = s.bdr ∧ (rehold new s n).cbu = s.cbu ∧
    (rehold new s n).tfs = s.tfs ∧ (rehold new s n).xlu = s.xlu ∧ (rehold new s n).sck = s.sck ∧
    (rehold new s n).sts = s.sts ∧ (rehold new s n).flm = s.flm ∧ (rehold new s n).cnu = s.cnu := by
  simp only [rehold]
  split
  all_goals simp

@[simp] theorem relink_keeps (old : BandNo) (new : BandNo) (link : Option CabinLink) (s : State) :
    (relink old new link s).pending = s.pending ∧ (relink old new link s).bdr = s.bdr ∧
    (relink old new link s).lmu = s.lmu ∧ (relink old new link s).tfs = s.tfs ∧ (relink old new link s).xlu = s.xlu ∧
    (relink old new link s).sck = s.sck ∧ (relink old new link s).sts = s.sts ∧ (relink old new link s).flm = s.flm ∧
    (relink old new link s).cnu = s.cnu := by
  simp only [relink]
  repeat' split
  all_goals simp

@[simp] theorem replaceBand_keeps (old : BandNo) (new : BandNo) (s : State) :
    (replaceBand old new s).1.pending = s.pending ∧ (replaceBand old new s).1.tfs = s.tfs ∧
    (replaceBand old new s).1.xlu = s.xlu ∧ (replaceBand old new s).1.sck = s.sck ∧ (replaceBand old new s).1.sts = s.sts ∧
    (replaceBand old new s).1.flm = s.flm ∧ (replaceBand old new s).1.cnu = s.cnu := by
  simp only [replaceBand]
  repeat' split
  all_goals simp [refused, done]

@[simp] theorem forgetBand_keeps (b : BandNo) (s : State) :
    (forgetBand b s).1.pending = s.pending ∧ (forgetBand b s).1.lmu = s.lmu ∧ (forgetBand b s).1.cbu = s.cbu ∧
    (forgetBand b s).1.tfs = s.tfs ∧ (forgetBand b s).1.xlu = s.xlu ∧ (forgetBand b s).1.sck = s.sck ∧
    (forgetBand b s).1.sts = s.sts ∧ (forgetBand b s).1.flm = s.flm ∧ (forgetBand b s).1.lkc = s.lkc ∧
    (forgetBand b s).1.cnu = s.cnu := by
  simp only [forgetBand]
  repeat' split
  all_goals simp [refused, done]

@[simp] theorem readBand_keeps (b : BandNo) (s : State) :
    (readBand b s).1.pending = s.pending ∧ (readBand b s).1.bdr = s.bdr ∧ (readBand b s).1.lmu = s.lmu ∧
    (readBand b s).1.cbu = s.cbu ∧ (readBand b s).1.tfs = s.tfs ∧ (readBand b s).1.xlu = s.xlu ∧
    (readBand b s).1.sck = s.sck ∧ (readBand b s).1.sts = s.sts ∧ (readBand b s).1.flm = s.flm ∧
    (readBand b s).1.lkc = s.lkc ∧ (readBand b s).1.cnu = s.cnu := by
  simp only [readBand]
  split
  all_goals simp [refused, done]

@[simp] theorem listBands_keeps (filter : Nat) (start : Nat) (s : State) :
    (listBands filter start s).1.pending = s.pending ∧ (listBands filter start s).1.bdr = s.bdr ∧
    (listBands filter start s).1.lmu = s.lmu ∧ (listBands filter start s).1.cbu = s.cbu ∧
    (listBands filter start s).1.tfs = s.tfs ∧ (listBands filter start s).1.xlu = s.xlu ∧
    (listBands filter start s).1.sck = s.sck ∧ (listBands filter start s).1.sts = s.sts ∧
    (listBands filter start s).1.flm = s.flm ∧ (listBands filter start s).1.lkc = s.lkc ∧
    (listBands filter start s).1.cnu = s.cnu := by
  simp only [listBands]
  split
  all_goals simp [refused, done]

@[simp] theorem showLocker_keeps (n : Nat) (s : State) :
    (showLocker n s).pending = s.pending ∧ (showLocker n s).bdr = s.bdr ∧ (showLocker n s).lmu = s.lmu ∧
    (showLocker n s).cbu = s.cbu ∧ (showLocker n s).tfs = s.tfs ∧ (showLocker n s).xlu = s.xlu ∧
    (showLocker n s).sck = s.sck ∧ (showLocker n s).sts = s.sts ∧ (showLocker n s).lkc = s.lkc ∧
    (showLocker n s).cnu = s.cnu := by
  exact ⟨rfl, rfl, rfl, rfl, rfl, rfl, rfl, rfl, rfl, rfl⟩

@[simp] theorem moveLocker_keeps (n : Nat) (l : Locker) (s : State) :
    (moveLocker n l s).pending = s.pending ∧ (moveLocker n l s).bdr = s.bdr ∧ (moveLocker n l s).cbu = s.cbu ∧
    (moveLocker n l s).tfs = s.tfs ∧ (moveLocker n l s).xlu = s.xlu ∧ (moveLocker n l s).sck = s.sck ∧
    (moveLocker n l s).sts = s.sts ∧ (moveLocker n l s).cnu = s.cnu := by
  exact ⟨rfl, rfl, rfl, rfl, rfl, rfl, rfl, rfl⟩

@[simp] theorem unlockAgain_keeps (n : Nat) (s : State) :
    (unlockAgain n s).pending = s.pending ∧ (unlockAgain n s).bdr = s.bdr ∧ (unlockAgain n s).lmu = s.lmu ∧
    (unlockAgain n s).cbu = s.cbu ∧ (unlockAgain n s).tfs = s.tfs ∧ (unlockAgain n s).xlu = s.xlu ∧
    (unlockAgain n s).sck = s.sck ∧ (unlockAgain n s).sts = s.sts ∧ (unlockAgain n s).lkc = s.lkc ∧
    (unlockAgain n s).cnu = s.cnu := by
  exact ⟨rfl, rfl, rfl, rfl, rfl, rfl, rfl, rfl, rfl, rfl⟩

@[simp] theorem acceptAtLocker_keeps (n : Nat) (s : State) :
    (acceptAtLocker n s).pending = s.pending ∧ (acceptAtLocker n s).bdr = s.bdr ∧ (acceptAtLocker n s).lmu = s.lmu ∧
    (acceptAtLocker n s).cbu = s.cbu ∧ (acceptAtLocker n s).tfs = s.tfs ∧ (acceptAtLocker n s).xlu = s.xlu ∧
    (acceptAtLocker n s).sck = s.sck ∧ (acceptAtLocker n s).sts = s.sts ∧ (acceptAtLocker n s).lkc = s.lkc ∧
    (acceptAtLocker n s).cnu = s.cnu := by
  exact ⟨rfl, rfl, rfl, rfl, rfl, rfl, rfl, rfl, rfl, rfl⟩

@[simp] theorem refuseAtLocker_keeps (n : Nat) (code : DisplayCode) (s : State) :
    (refuseAtLocker n code s).pending = s.pending ∧ (refuseAtLocker n code s).bdr = s.bdr ∧
    (refuseAtLocker n code s).lmu = s.lmu ∧ (refuseAtLocker n code s).cbu = s.cbu ∧ (refuseAtLocker n code s).tfs = s.tfs ∧
    (refuseAtLocker n code s).xlu = s.xlu ∧ (refuseAtLocker n code s).sck = s.sck ∧ (refuseAtLocker n code s).sts = s.sts ∧
    (refuseAtLocker n code s).lkc = s.lkc ∧ (refuseAtLocker n code s).cnu = s.cnu := by
  exact ⟨rfl, rfl, rfl, rfl, rfl, rfl, rfl, rfl, rfl, rfl⟩

@[simp] theorem soundAlarm_keeps (b : Nat) (s : State) :
    (soundAlarm b s).pending = s.pending ∧ (soundAlarm b s).bdr = s.bdr ∧ (soundAlarm b s).lmu = s.lmu ∧
    (soundAlarm b s).cbu = s.cbu ∧ (soundAlarm b s).tfs = s.tfs ∧ (soundAlarm b s).xlu = s.xlu ∧
    (soundAlarm b s).sck = s.sck ∧ (soundAlarm b s).sts = s.sts ∧ (soundAlarm b s).lkc = s.lkc ∧
    (soundAlarm b s).cnu = s.cnu := by
  exact ⟨rfl, rfl, rfl, rfl, rfl, rfl, rfl, rfl, rfl, rfl⟩

@[simp] theorem quietAlarm_keeps (b : Nat) (s : State) :
    (quietAlarm b s).pending = s.pending ∧ (quietAlarm b s).bdr = s.bdr ∧ (quietAlarm b s).lmu = s.lmu ∧
    (quietAlarm b s).cbu = s.cbu ∧ (quietAlarm b s).tfs = s.tfs ∧ (quietAlarm b s).xlu = s.xlu ∧
    (quietAlarm b s).sck = s.sck ∧ (quietAlarm b s).sts = s.sts ∧ (quietAlarm b s).lkc = s.lkc ∧
    (quietAlarm b s).cnu = s.cnu := by
  simp only [quietAlarm]
  split
  all_goals simp

@[simp] theorem settlePending_keeps (n : Nat) (s : State) :
    (settlePending n s).pending = s.pending ∧ (settlePending n s).bdr = s.bdr ∧ (settlePending n s).cbu = s.cbu ∧
    (settlePending n s).tfs = s.tfs ∧ (settlePending n s).xlu = s.xlu ∧ (settlePending n s).sck = s.sck ∧
    (settlePending n s).sts = s.sts ∧ (settlePending n s).cnu = s.cnu := by
  simp only [settlePending]
  repeat' split
  all_goals simp

@[simp] theorem vacate_keeps (n : Nat) (l : Locker) (s : State) :
    (vacate n l s).pending = s.pending ∧ (vacate n l s).cbu = s.cbu ∧ (vacate n l s).tfs = s.tfs ∧
    (vacate n l s).xlu = s.xlu ∧ (vacate n l s).sck = s.sck ∧ (vacate n l s).sts = s.sts ∧ (vacate n l s).cnu = s.cnu := by
  simp [vacate]

@[simp] theorem settleTo_keeps (n : Nat) (l : Locker) (st : LockerState) (s : State) :
    (settleTo n l st s).pending = s.pending ∧ (settleTo n l st s).bdr = s.bdr ∧ (settleTo n l st s).cbu = s.cbu ∧
    (settleTo n l st s).tfs = s.tfs ∧ (settleTo n l st s).xlu = s.xlu ∧ (settleTo n l st s).sck = s.sck ∧
    (settleTo n l st s).sts = s.sts ∧ (settleTo n l st s).cnu = s.cnu := by
  exact ⟨rfl, rfl, rfl, rfl, rfl, rfl, rfl, rfl⟩

@[simp] theorem forceLocker_keeps (n : Nat) (l : Locker) (cause : AlarmCause) (s : State) :
    (forceLocker n l cause s).pending = s.pending ∧ (forceLocker n l cause s).bdr = s.bdr ∧
    (forceLocker n l cause s).cbu = s.cbu ∧ (forceLocker n l cause s).tfs = s.tfs ∧ (forceLocker n l cause s).xlu = s.xlu ∧
    (forceLocker n l cause s).sck = s.sck ∧ (forceLocker n l cause s).sts = s.sts := by
  exact ⟨rfl, rfl, rfl, rfl, rfl, rfl, rfl⟩

@[simp] theorem claimLocker_keeps (n : Nat) (l : Locker) (b : BandNo) (s : State) :
    (claimLocker n l b s).pending = s.pending ∧ (claimLocker n l b s).cbu = s.cbu ∧ (claimLocker n l b s).tfs = s.tfs ∧
    (claimLocker n l b s).xlu = s.xlu ∧ (claimLocker n l b s).sck = s.sck ∧ (claimLocker n l b s).sts = s.sts := by
  simp only [claimLocker]
  split
  all_goals simp

@[simp] theorem startOpening_keeps (n : Nat) (l : Locker) (opener : Opener) (s : State) :
    (startOpening n l opener s).pending = s.pending ∧ (startOpening n l opener s).bdr = s.bdr ∧
    (startOpening n l opener s).cbu = s.cbu ∧ (startOpening n l opener s).tfs = s.tfs ∧
    (startOpening n l opener s).xlu = s.xlu ∧ (startOpening n l opener s).sck = s.sck ∧
    (startOpening n l opener s).sts = s.sts ∧ (startOpening n l opener s).cnu = s.cnu := by
  exact ⟨rfl, rfl, rfl, rfl, rfl, rfl, rfl, rfl⟩

@[simp] theorem renewOpening_keeps (n : Nat) (l : Locker) (opener : Opener) (s : State) :
    (renewOpening n l opener s).pending = s.pending ∧ (renewOpening n l opener s).bdr = s.bdr ∧
    (renewOpening n l opener s).cbu = s.cbu ∧ (renewOpening n l opener s).tfs = s.tfs ∧
    (renewOpening n l opener s).xlu = s.xlu ∧ (renewOpening n l opener s).sck = s.sck ∧
    (renewOpening n l opener s).sts = s.sts ∧ (renewOpening n l opener s).cnu = s.cnu := by
  exact ⟨rfl, rfl, rfl, rfl, rfl, rfl, rfl, rfl⟩

@[simp] theorem openedInWindow_keeps (n : Nat) (l : Locker) (s : State) :
    (openedInWindow n l s).pending = s.pending ∧ (openedInWindow n l s).cbu = s.cbu ∧ (openedInWindow n l s).tfs = s.tfs ∧
    (openedInWindow n l s).xlu = s.xlu ∧ (openedInWindow n l s).sck = s.sck ∧ (openedInWindow n l s).sts = s.sts ∧
    (openedInWindow n l s).cnu = s.cnu := by
  simp only [openedInWindow]
  repeat' split
  all_goals simp

@[simp] theorem clearLocker_keeps (n : Nat) (l : Locker) (s : State) :
    (clearLocker n l s).pending = s.pending ∧ (clearLocker n l s).cbu = s.cbu ∧ (clearLocker n l s).tfs = s.tfs ∧
    (clearLocker n l s).xlu = s.xlu ∧ (clearLocker n l s).sck = s.sck ∧ (clearLocker n l s).sts = s.sts ∧
    (clearLocker n l s).cnu = s.cnu := by
  simp only [clearLocker]
  repeat' split
  all_goals simp

@[simp] theorem presentAtLocker_keeps (n : Nat) (r : BandRecord) (s : State) :
    (presentAtLocker n r s).pending = s.pending ∧ (presentAtLocker n r s).cbu = s.cbu ∧
    (presentAtLocker n r s).tfs = s.tfs ∧ (presentAtLocker n r s).xlu = s.xlu ∧ (presentAtLocker n r s).sck = s.sck ∧
    (presentAtLocker n r s).sts = s.sts := by
  simp only [presentAtLocker]
  repeat' split
  all_goals simp

@[simp] theorem masterAtLocker_keeps (n : Nat) (s : State) :
    (masterAtLocker n s).pending = s.pending ∧ (masterAtLocker n s).cbu = s.cbu ∧ (masterAtLocker n s).tfs = s.tfs ∧
    (masterAtLocker n s).xlu = s.xlu ∧ (masterAtLocker n s).sck = s.sck ∧ (masterAtLocker n s).sts = s.sts ∧
    (masterAtLocker n s).cnu = s.cnu := by
  simp only [masterAtLocker]
  repeat' split
  all_goals simp

@[simp] theorem lockerDoorEvent_keeps (n : Nat) (isOpen : Bool) (s : State) :
    (lockerDoorEvent n isOpen s).pending = s.pending ∧ (lockerDoorEvent n isOpen s).cbu = s.cbu ∧
    (lockerDoorEvent n isOpen s).tfs = s.tfs ∧ (lockerDoorEvent n isOpen s).xlu = s.xlu ∧
    (lockerDoorEvent n isOpen s).sck = s.sck ∧ (lockerDoorEvent n isOpen s).sts = s.sts := by
  simp only [lockerDoorEvent]
  repeat' split
  all_goals simp

@[simp] theorem takeOpeningExpiry_keeps (n : Nat) (s : State) :
    (takeOpeningExpiry n s).pending = s.pending ∧ (takeOpeningExpiry n s).bdr = s.bdr ∧
    (takeOpeningExpiry n s).cbu = s.cbu ∧ (takeOpeningExpiry n s).tfs = s.tfs ∧ (takeOpeningExpiry n s).xlu = s.xlu ∧
    (takeOpeningExpiry n s).sck = s.sck ∧ (takeOpeningExpiry n s).sts = s.sts ∧ (takeOpeningExpiry n s).cnu = s.cnu := by
  simp only [takeOpeningExpiry]
  repeat' split
  all_goals simp

@[simp] theorem releaseLocker_keeps (n : Nat) (s : State) :
    (releaseLocker n s).1.pending = s.pending ∧ (releaseLocker n s).1.cbu = s.cbu ∧ (releaseLocker n s).1.tfs = s.tfs ∧
    (releaseLocker n s).1.xlu = s.xlu ∧ (releaseLocker n s).1.sck = s.sck ∧ (releaseLocker n s).1.sts = s.sts ∧
    (releaseLocker n s).1.cnu = s.cnu := by
  simp only [releaseLocker]
  repeat' split
  all_goals simp [refused, done]

@[simp] theorem clearForced_keeps (n : Nat) (s : State) :
    (clearForced n s).1.pending = s.pending ∧ (clearForced n s).1.cbu = s.cbu ∧ (clearForced n s).1.tfs = s.tfs ∧
    (clearForced n s).1.xlu = s.xlu ∧ (clearForced n s).1.sck = s.sck ∧ (clearForced n s).1.sts = s.sts ∧
    (clearForced n s).1.cnu = s.cnu := by
  simp only [clearForced]
  repeat' split
  all_goals simp [refused, done]

@[simp] theorem serviceOut_keeps (n : Nat) (l : Locker) (s : State) :
    (serviceOut n l s).pending = s.pending ∧ (serviceOut n l s).bdr = s.bdr ∧ (serviceOut n l s).cbu = s.cbu ∧
    (serviceOut n l s).tfs = s.tfs ∧ (serviceOut n l s).xlu = s.xlu ∧ (serviceOut n l s).sck = s.sck ∧
    (serviceOut n l s).sts = s.sts ∧ (serviceOut n l s).cnu = s.cnu := by
  simp only [serviceOut]
  repeat' split
  all_goals simp

@[simp] theorem serviceIn_keeps (n : Nat) (l : Locker) (s : State) :
    (serviceIn n l s).pending = s.pending ∧ (serviceIn n l s).bdr = s.bdr ∧ (serviceIn n l s).cbu = s.cbu ∧
    (serviceIn n l s).tfs = s.tfs ∧ (serviceIn n l s).xlu = s.xlu ∧ (serviceIn n l s).sck = s.sck ∧
    (serviceIn n l s).sts = s.sts ∧ (serviceIn n l s).cnu = s.cnu := by
  simp only [serviceIn]
  split
  all_goals simp

@[simp] theorem lockerService_keeps (n : Nat) (direction : Nat) (s : State) :
    (lockerService n direction s).1.pending = s.pending ∧ (lockerService n direction s).1.bdr = s.bdr ∧
    (lockerService n direction s).1.cbu = s.cbu ∧ (lockerService n direction s).1.tfs = s.tfs ∧
    (lockerService n direction s).1.xlu = s.xlu ∧ (lockerService n direction s).1.sck = s.sck ∧
    (lockerService n direction s).1.sts = s.sts ∧ (lockerService n direction s).1.cnu = s.cnu := by
  simp only [lockerService]
  repeat' split
  all_goals simp [refused, done]

@[simp] theorem resetUseCount_keeps (n : Nat) (s : State) :
    (resetUseCount n s).1.pending = s.pending ∧ (resetUseCount n s).1.bdr = s.bdr ∧ (resetUseCount n s).1.cbu = s.cbu ∧
    (resetUseCount n s).1.tfs = s.tfs ∧ (resetUseCount n s).1.xlu = s.xlu ∧ (resetUseCount n s).1.sck = s.sck ∧
    (resetUseCount n s).1.sts = s.sts ∧ (resetUseCount n s).1.flm = s.flm ∧ (resetUseCount n s).1.cnu = s.cnu := by
  simp only [resetUseCount]
  split
  all_goals simp [refused, done]

@[simp] theorem windowLocker_keeps (a : WindowArgs) (n : Nat) (s : State) :
    (windowLocker a s n).pending = s.pending ∧ (windowLocker a s n).bdr = s.bdr ∧ (windowLocker a s n).cbu = s.cbu ∧
    (windowLocker a s n).tfs = s.tfs ∧ (windowLocker a s n).xlu = s.xlu ∧ (windowLocker a s n).sck = s.sck ∧
    (windowLocker a s n).sts = s.sts ∧ (windowLocker a s n).cnu = s.cnu := by
  simp only [windowLocker]
  repeat' split
  all_goals simp

@[simp] theorem lockerWindowLoad_keeps (a : WindowArgs) (s : State) :
    (lockerWindowLoad a s).1.pending = s.pending ∧ (lockerWindowLoad a s).1.bdr = s.bdr ∧
    (lockerWindowLoad a s).1.cbu = s.cbu ∧ (lockerWindowLoad a s).1.tfs = s.tfs ∧ (lockerWindowLoad a s).1.xlu = s.xlu ∧
    (lockerWindowLoad a s).1.sck = s.sck ∧ (lockerWindowLoad a s).1.sts = s.sts ∧ (lockerWindowLoad a s).1.cnu = s.cnu := by
  simp only [lockerWindowLoad]
  split
  all_goals simp [refused, done]

@[simp] theorem readLocker_keeps (n : Nat) (s : State) :
    (readLocker n s).1.pending = s.pending ∧ (readLocker n s).1.bdr = s.bdr ∧ (readLocker n s).1.lmu = s.lmu ∧
    (readLocker n s).1.cbu = s.cbu ∧ (readLocker n s).1.tfs = s.tfs ∧ (readLocker n s).1.xlu = s.xlu ∧
    (readLocker n s).1.sck = s.sck ∧ (readLocker n s).1.sts = s.sts ∧ (readLocker n s).1.flm = s.flm ∧
    (readLocker n s).1.lkc = s.lkc ∧ (readLocker n s).1.cnu = s.cnu := by
  simp only [readLocker]
  split
  all_goals simp [refused, done]

@[simp] theorem readBank_keeps (b : Nat) (s : State) :
    (readBank b s).1.pending = s.pending ∧ (readBank b s).1.bdr = s.bdr ∧ (readBank b s).1.lmu = s.lmu ∧
    (readBank b s).1.cbu = s.cbu ∧ (readBank b s).1.tfs = s.tfs ∧ (readBank b s).1.xlu = s.xlu ∧
    (readBank b s).1.sck = s.sck ∧ (readBank b s).1.sts = s.sts ∧ (readBank b s).1.flm = s.flm ∧
    (readBank b s).1.lkc = s.lkc ∧ (readBank b s).1.cnu = s.cnu := by
  simp only [readBank]
  split
  all_goals simp [refused, done]

@[simp] theorem loseLocker_keeps (n : Nat) (s : State) :
    (loseLocker s n).pending = s.pending ∧ (loseLocker s n).bdr = s.bdr ∧ (loseLocker s n).cbu = s.cbu ∧
    (loseLocker s n).tfs = s.tfs ∧ (loseLocker s n).xlu = s.xlu ∧ (loseLocker s n).sck = s.sck ∧
    (loseLocker s n).sts = s.sts ∧ (loseLocker s n).flm = s.flm ∧ (loseLocker s n).cnu = s.cnu := by
  simp only [loseLocker]
  repeat' split
  all_goals simp

@[simp] theorem restoreLocker_keeps (n : Nat) (s : State) :
    (restoreLocker s n).pending = s.pending ∧ (restoreLocker s n).bdr = s.bdr ∧ (restoreLocker s n).cbu = s.cbu ∧
    (restoreLocker s n).tfs = s.tfs ∧ (restoreLocker s n).xlu = s.xlu ∧ (restoreLocker s n).sck = s.sck ∧
    (restoreLocker s n).sts = s.sts ∧ (restoreLocker s n).cnu = s.cnu := by
  simp only [restoreLocker]
  repeat' split
  all_goals simp

@[simp] theorem treatLocker_keeps (n : Nat) (l : Locker) (s : State) :
    (treatLocker n l s).pending = s.pending ∧ (treatLocker n l s).cbu = s.cbu ∧ (treatLocker n l s).tfs = s.tfs ∧
    (treatLocker n l s).xlu = s.xlu ∧ (treatLocker n l s).sck = s.sck ∧ (treatLocker n l s).sts = s.sts := by
  simp only [treatLocker]
  repeat' split
  all_goals simp

@[simp] theorem clearOrphanCheck_keeps (n : Nat) (s : State) :
    (clearOrphanCheck n s).pending = s.pending ∧ (clearOrphanCheck n s).bdr = s.bdr ∧ (clearOrphanCheck n s).cbu = s.cbu ∧
    (clearOrphanCheck n s).tfs = s.tfs ∧ (clearOrphanCheck n s).xlu = s.xlu ∧ (clearOrphanCheck n s).sck = s.sck ∧
    (clearOrphanCheck n s).sts = s.sts ∧ (clearOrphanCheck n s).flm = s.flm ∧ (clearOrphanCheck n s).cnu = s.cnu := by
  simp only [clearOrphanCheck]
  split
  all_goals simp

@[simp] theorem reconcileLocker_keeps (doors : List DoorReading) (n : Nat) (s : State) :
    (reconcileLocker doors s n).pending = s.pending ∧ (reconcileLocker doors s n).cbu = s.cbu ∧
    (reconcileLocker doors s n).tfs = s.tfs ∧ (reconcileLocker doors s n).xlu = s.xlu ∧
    (reconcileLocker doors s n).sck = s.sck ∧ (reconcileLocker doors s n).sts = s.sts := by
  simp only [reconcileLocker]
  split
  all_goals simp

@[simp] theorem endAwaiting_keeps (b : Nat) (s : State) :
    (endAwaiting b s).pending = s.pending ∧ (endAwaiting b s).bdr = s.bdr ∧ (endAwaiting b s).cbu = s.cbu ∧
    (endAwaiting b s).tfs = s.tfs ∧ (endAwaiting b s).xlu = s.xlu ∧ (endAwaiting b s).sck = s.sck ∧
    (endAwaiting b s).sts = s.sts ∧ (endAwaiting b s).flm = s.flm ∧ (endAwaiting b s).lkc = s.lkc ∧
    (endAwaiting b s).cnu = s.cnu := by
  exact ⟨rfl, rfl, rfl, rfl, rfl, rfl, rfl, rfl, rfl, rfl⟩

@[simp] theorem reconcileBank_keeps (b : Nat) (doors : List DoorReading) (s : State) :
    (reconcileBank b doors s).pending = s.pending ∧ (reconcileBank b doors s).cbu = s.cbu ∧
    (reconcileBank b doors s).tfs = s.tfs ∧ (reconcileBank b doors s).xlu = s.xlu ∧ (reconcileBank b doors s).sck = s.sck ∧
    (reconcileBank b doors s).sts = s.sts := by
  simp [reconcileBank]

@[simp] theorem followAlarm_keeps (b : Nat) (s : State) :
    (followAlarm b s).pending = s.pending ∧ (followAlarm b s).bdr = s.bdr ∧ (followAlarm b s).lmu = s.lmu ∧
    (followAlarm b s).cbu = s.cbu ∧ (followAlarm b s).tfs = s.tfs ∧ (followAlarm b s).xlu = s.xlu ∧
    (followAlarm b s).sck = s.sck ∧ (followAlarm b s).sts = s.sts ∧ (followAlarm b s).lkc = s.lkc ∧
    (followAlarm b s).cnu = s.cnu := by
  exact ⟨rfl, rfl, rfl, rfl, rfl, rfl, rfl, rfl, rfl, rfl⟩

@[simp] theorem regainBank_keeps (b : Nat) (doors : List DoorReading) (s : State) :
    (regainBank b doors s).pending = s.pending ∧ (regainBank b doors s).tfs = s.tfs ∧ (regainBank b doors s).sck = s.sck ∧
    (regainBank b doors s).sts = s.sts := by
  simp [regainBank]

@[simp] theorem purgeLocker_keeps (n : Nat) (s : State) :
    (purgeLocker s n).pending = s.pending ∧ (purgeLocker s n).cbu = s.cbu ∧ (purgeLocker s n).tfs = s.tfs ∧
    (purgeLocker s n).xlu = s.xlu ∧ (purgeLocker s n).sck = s.sck ∧ (purgeLocker s n).sts = s.sts ∧
    (purgeLocker s n).cnu = s.cnu := by
  simp only [purgeLocker]
  repeat' split
  all_goals simp

@[simp] theorem showLane_keeps (l : Nat) (s : State) :
    (showLane l s).pending = s.pending ∧ (showLane l s).bdr = s.bdr ∧ (showLane l s).lmu = s.lmu ∧
    (showLane l s).cbu = s.cbu ∧ (showLane l s).tfs = s.tfs ∧ (showLane l s).xlu = s.xlu ∧ (showLane l s).sck = s.sck ∧
    (showLane l s).sts = s.sts ∧ (showLane l s).lkc = s.lkc ∧ (showLane l s).cnu = s.cnu := by
  exact ⟨rfl, rfl, rfl, rfl, rfl, rfl, rfl, rfl, rfl, rfl⟩

@[simp] theorem moveLane_keeps (l : Nat) (e : Lane) (s : State) :
    (moveLane l e s).pending = s.pending ∧ (moveLane l e s).bdr = s.bdr ∧ (moveLane l e s).lmu = s.lmu ∧
    (moveLane l e s).cbu = s.cbu ∧ (moveLane l e s).tfs = s.tfs ∧ (moveLane l e s).sck = s.sck ∧
    (moveLane l e s).sts = s.sts ∧ (moveLane l e s).cnu = s.cnu := by
  exact ⟨rfl, rfl, rfl, rfl, rfl, rfl, rfl, rfl⟩

@[simp] theorem writeSlot_keeps (l : Nat) (act : SlotAction) (b : BandNo) (s : State) :
    (writeSlot l act b s).pending = s.pending ∧ (writeSlot l act b s).bdr = s.bdr ∧ (writeSlot l act b s).lmu = s.lmu ∧
    (writeSlot l act b s).cbu = s.cbu ∧ (writeSlot l act b s).tfs = s.tfs ∧ (writeSlot l act b s).xlu = s.xlu ∧
    (writeSlot l act b s).sck = s.sck ∧ (writeSlot l act b s).sts = s.sts ∧ (writeSlot l act b s).lkc = s.lkc ∧
    (writeSlot l act b s).cnu = s.cnu := by
  exact ⟨rfl, rfl, rfl, rfl, rfl, rfl, rfl, rfl, rfl, rfl⟩

@[simp] theorem returnSlot_keeps (l : Nat) (slot : Option BandNo) (s : State) :
    (returnSlot l slot s).pending = s.pending ∧ (returnSlot l slot s).bdr = s.bdr ∧ (returnSlot l slot s).lmu = s.lmu ∧
    (returnSlot l slot s).cbu = s.cbu ∧ (returnSlot l slot s).tfs = s.tfs ∧ (returnSlot l slot s).xlu = s.xlu ∧
    (returnSlot l slot s).sck = s.sck ∧ (returnSlot l slot s).sts = s.sts ∧ (returnSlot l slot s).lkc = s.lkc ∧
    (returnSlot l slot s).cnu = s.cnu := by
  simp only [returnSlot]
  split
  all_goals simp

@[simp] theorem refuseAtLane_keeps (l : Nat) (act : SlotAction) (b : BandNo) (text : DisplayText) (s : State) :
    (refuseAtLane l act b text s).pending = s.pending ∧ (refuseAtLane l act b text s).bdr = s.bdr ∧
    (refuseAtLane l act b text s).lmu = s.lmu ∧ (refuseAtLane l act b text s).cbu = s.cbu ∧
    (refuseAtLane l act b text s).tfs = s.tfs ∧ (refuseAtLane l act b text s).xlu = s.xlu ∧
    (refuseAtLane l act b text s).sck = s.sck ∧ (refuseAtLane l act b text s).sts = s.sts ∧
    (refuseAtLane l act b text s).lkc = s.lkc ∧ (refuseAtLane l act b text s).cnu = s.cnu := by
  exact ⟨rfl, rfl, rfl, rfl, rfl, rfl, rfl, rfl, rfl, rfl⟩

@[simp] theorem letThrough_keeps (l : Nat) (e : Lane) (b : BandNo) (cause : PassCause) (act : SlotAction) (s : State) :
    (letThrough l e b cause act s).pending = s.pending ∧ (letThrough l e b cause act s).bdr = s.bdr ∧
    (letThrough l e b cause act s).lmu = s.lmu ∧ (letThrough l e b cause act s).cbu = s.cbu ∧
    (letThrough l e b cause act s).tfs = s.tfs ∧ (letThrough l e b cause act s).sck = s.sck ∧
    (letThrough l e b cause act s).sts = s.sts ∧ (letThrough l e b cause act s).cnu = s.cnu := by
  exact ⟨rfl, rfl, rfl, rfl, rfl, rfl, rfl, rfl⟩

@[simp] theorem freeBand_keeps (b : BandNo) (s : State) :
    (freeBand b s).pending = s.pending ∧ (freeBand b s).lmu = s.lmu ∧ (freeBand b s).cbu = s.cbu ∧
    (freeBand b s).tfs = s.tfs ∧ (freeBand b s).xlu = s.xlu ∧ (freeBand b s).sck = s.sck ∧ (freeBand b s).sts = s.sts ∧
    (freeBand b s).flm = s.flm ∧ (freeBand b s).lkc = s.lkc ∧ (freeBand b s).cnu = s.cnu := by
  exact ⟨rfl, rfl, rfl, rfl, rfl, rfl, rfl, rfl, rfl, rfl⟩

@[simp] theorem collectBand_keeps (l : Nat) (e : Lane) (b : BandNo) (cause : PassCause) (s : State) :
    (collectBand l e b cause s).pending = s.pending ∧ (collectBand l e b cause s).lmu = s.lmu ∧
    (collectBand l e b cause s).cbu = s.cbu ∧ (collectBand l e b cause s).tfs = s.tfs ∧
    (collectBand l e b cause s).sck = s.sck ∧ (collectBand l e b cause s).sts = s.sts ∧
    (collectBand l e b cause s).cnu = s.cnu := by
  exact ⟨rfl, rfl, rfl, rfl, rfl, rfl, rfl⟩

@[simp] theorem quoteBand_keeps (l : Nat) (e : Lane) (b : BandNo) (amount : Nat) (w : Working) (s : State) :
    (quoteBand l e b amount w s).pending = s.pending ∧ (quoteBand l e b amount w s).lmu = s.lmu ∧
    (quoteBand l e b amount w s).cbu = s.cbu ∧ (quoteBand l e b amount w s).tfs = s.tfs ∧
    (quoteBand l e b amount w s).sck = s.sck ∧ (quoteBand l e b amount w s).sts = s.sts := by
  exact ⟨rfl, rfl, rfl, rfl, rfl, rfl⟩

@[simp] theorem assessBand_keeps (l : Nat) (e : Lane) (r : BandRecord) (s : State) :
    (assessBand l e r s).pending = s.pending ∧ (assessBand l e r s).lmu = s.lmu ∧ (assessBand l e r s).tfs = s.tfs ∧
    (assessBand l e r s).sck = s.sck ∧ (assessBand l e r s).sts = s.sts := by
  simp only [assessBand]
  split
  all_goals simp

@[simp] theorem insertAtIdle_keeps (l : Nat) (e : Lane) (b : BandNo) (seen : Recognised) (s : State) :
    (insertAtIdle l e b seen s).pending = s.pending ∧ (insertAtIdle l e b seen s).lmu = s.lmu ∧
    (insertAtIdle l e b seen s).tfs = s.tfs ∧ (insertAtIdle l e b seen s).sck = s.sck ∧
    (insertAtIdle l e b seen s).sts = s.sts := by
  simp only [insertAtIdle]
  repeat' split
  all_goals simp

@[simp] theorem insertBand_keeps (l : Nat) (b : BandNo) (seen : Recognised) (s : State) :
    (insertBand l b seen s).pending = s.pending ∧ (insertBand l b seen s).lmu = s.lmu ∧
    (insertBand l b seen s).tfs = s.tfs ∧ (insertBand l b seen s).sck = s.sck ∧ (insertBand l b seen s).sts = s.sts := by
  simp only [insertBand]
  repeat' split
  all_goals simp

@[simp] theorem unquote_keeps (b : Option BandNo) (s : State) :
    (unquote b s).pending = s.pending ∧ (unquote b s).lmu = s.lmu ∧ (unquote b s).cbu = s.cbu ∧ (unquote b s).tfs = s.tfs ∧
    (unquote b s).xlu = s.xlu ∧ (unquote b s).sck = s.sck ∧ (unquote b s).sts = s.sts ∧ (unquote b s).flm = s.flm ∧
    (unquote b s).lkc = s.lkc ∧ (unquote b s).cnu = s.cnu := by
  simp only [unquote]
  split
  all_goals simp

@[simp] theorem endQuote_keeps (l : Nat) (e : Lane) (last : Option (BandNo × Nat)) (s : State) :
    (endQuote l e last s).pending = s.pending ∧ (endQuote l e last s).lmu = s.lmu ∧ (endQuote l e last s).cbu = s.cbu ∧
    (endQuote l e last s).tfs = s.tfs ∧ (endQuote l e last s).sck = s.sck ∧ (endQuote l e last s).sts = s.sts ∧
    (endQuote l e last s).cnu = s.cnu := by
  simp [endQuote]

@[simp] theorem giveBackQuote_keeps (l : Nat) (e : Lane) (last : Option (BandNo × Nat)) (s : State) :
    (giveBackQuote l e last s).pending = s.pending ∧ (giveBackQuote l e last s).lmu = s.lmu ∧
    (giveBackQuote l e last s).cbu = s.cbu ∧ (giveBackQuote l e last s).tfs = s.tfs ∧
    (giveBackQuote l e last s).sck = s.sck ∧ (giveBackQuote l e last s).sts = s.sts ∧
    (giveBackQuote l e last s).cnu = s.cnu := by
  simp only [giveBackQuote]
  split
  all_goals simp

@[simp] theorem announceEnd_keeps (l : Nat) (e : Lane) (cause : QuoteEnd) (s : State) :
    (announceEnd l e cause s).pending = s.pending ∧ (announceEnd l e cause s).bdr = s.bdr ∧
    (announceEnd l e cause s).lmu = s.lmu ∧ (announceEnd l e cause s).cbu = s.cbu ∧ (announceEnd l e cause s).tfs = s.tfs ∧
    (announceEnd l e cause s).xlu = s.xlu ∧ (announceEnd l e cause s).sck = s.sck ∧ (announceEnd l e cause s).sts = s.sts ∧
    (announceEnd l e cause s).flm = s.flm := by
  simp only [announceEnd]
  split
  all_goals simp

@[simp] theorem takeQuoteExpiry_keeps (l : Nat) (s : State) :
    (takeQuoteExpiry l s).pending = s.pending ∧ (takeQuoteExpiry l s).lmu = s.lmu ∧ (takeQuoteExpiry l s).cbu = s.cbu ∧
    (takeQuoteExpiry l s).tfs = s.tfs ∧ (takeQuoteExpiry l s).sck = s.sck ∧ (takeQuoteExpiry l s).sts = s.sts := by
  simp only [takeQuoteExpiry]
  repeat' split
  all_goals simp

@[simp] theorem endPass_keeps (l : Nat) (e : Lane) (s : State) :
    (endPass l e s).pending = s.pending ∧ (endPass l e s).bdr = s.bdr ∧ (endPass l e s).lmu = s.lmu ∧
    (endPass l e s).cbu = s.cbu ∧ (endPass l e s).tfs = s.tfs ∧ (endPass l e s).sck = s.sck ∧ (endPass l e s).sts = s.sts ∧
    (endPass l e s).cnu = s.cnu := by
  exact ⟨rfl, rfl, rfl, rfl, rfl, rfl, rfl, rfl⟩

@[simp] theorem takePassExpiry_keeps (l : Nat) (s : State) :
    (takePassExpiry l s).pending = s.pending ∧ (takePassExpiry l s).bdr = s.bdr ∧ (takePassExpiry l s).lmu = s.lmu ∧
    (takePassExpiry l s).cbu = s.cbu ∧ (takePassExpiry l s).tfs = s.tfs ∧ (takePassExpiry l s).sck = s.sck ∧
    (takePassExpiry l s).sts = s.sts := by
  simp only [takePassExpiry]
  repeat' split
  all_goals simp

@[simp] theorem passSensed_keeps (l : Nat) (s : State) :
    (passSensed l s).pending = s.pending ∧ (passSensed l s).bdr = s.bdr ∧ (passSensed l s).lmu = s.lmu ∧
    (passSensed l s).cbu = s.cbu ∧ (passSensed l s).tfs = s.tfs ∧ (passSensed l s).sck = s.sck ∧
    (passSensed l s).sts = s.sts ∧ (passSensed l s).cnu = s.cnu := by
  simp only [passSensed]
  repeat' split
  all_goals simp

@[simp] theorem collectorFault_keeps (l : Nat) (s : State) :
    (collectorFault l s).pending = s.pending ∧ (collectorFault l s).bdr = s.bdr ∧ (collectorFault l s).lmu = s.lmu ∧
    (collectorFault l s).cbu = s.cbu ∧ (collectorFault l s).tfs = s.tfs ∧ (collectorFault l s).xlu = s.xlu ∧
    (collectorFault l s).sck = s.sck ∧ (collectorFault l s).sts = s.sts ∧ (collectorFault l s).flm = s.flm := by
  simp only [collectorFault]
  split
  all_goals simp

@[simp] theorem paidAgainst_keeps (l : Nat) (e : Lane) (b : BandNo) (amount : Nat) (s : State) :
    (paidAgainst l e b amount s).1.pending = s.pending ∧ (paidAgainst l e b amount s).1.lmu = s.lmu ∧
    (paidAgainst l e b amount s).1.cbu = s.cbu ∧ (paidAgainst l e b amount s).1.tfs = s.tfs ∧
    (paidAgainst l e b amount s).1.sck = s.sck ∧ (paidAgainst l e b amount s).1.sts = s.sts ∧
    (paidAgainst l e b amount s).1.cnu = s.cnu := by
  simp only [paidAgainst]
  repeat' split
  all_goals exact ⟨rfl, rfl, rfl, rfl, rfl, rfl, rfl⟩

@[simp] theorem paid_keeps (a : PaidArgs) (s : State) :
    (paid a s).1.pending = s.pending ∧ (paid a s).1.lmu = s.lmu ∧ (paid a s).1.cbu = s.cbu ∧ (paid a s).1.tfs = s.tfs ∧
    (paid a s).1.sck = s.sck ∧ (paid a s).1.sts = s.sts ∧ (paid a s).1.cnu = s.cnu := by
  simp only [paid]
  repeat' split
  all_goals first | exact ⟨rfl, rfl, rfl, rfl, rfl, rfl, rfl⟩ | simp

@[simp] theorem cancelQuote_keeps (l : Nat) (s : State) :
    (cancelQuote l s).1.pending = s.pending ∧ (cancelQuote l s).1.lmu = s.lmu ∧ (cancelQuote l s).1.cbu = s.cbu ∧
    (cancelQuote l s).1.tfs = s.tfs ∧ (cancelQuote l s).1.sck = s.sck ∧ (cancelQuote l s).1.sts = s.sts ∧
    (cancelQuote l s).1.cnu = s.cnu := by
  simp only [cancelQuote]
  repeat' split
  all_goals simp [refused, done]

@[simp] theorem readLane_keeps (l : Nat) (s : State) :
    (readLane l s).1.pending = s.pending ∧ (readLane l s).1.bdr = s.bdr ∧ (readLane l s).1.lmu = s.lmu ∧
    (readLane l s).1.cbu = s.cbu ∧ (readLane l s).1.tfs = s.tfs ∧ (readLane l s).1.xlu = s.xlu ∧
    (readLane l s).1.sck = s.sck ∧ (readLane l s).1.sts = s.sts ∧ (readLane l s).1.flm = s.flm ∧
    (readLane l s).1.lkc = s.lkc ∧ (readLane l s).1.cnu = s.cnu := by
  simp only [readLane]
  split
  all_goals simp [refused, done]

@[simp] theorem loseLane_keeps (l : Nat) (s : State) :
    (loseLane l s).pending = s.pending ∧ (loseLane l s).bdr = s.bdr ∧ (loseLane l s).lmu = s.lmu ∧
    (loseLane l s).cbu = s.cbu ∧ (loseLane l s).tfs = s.tfs ∧ (loseLane l s).sck = s.sck ∧ (loseLane l s).sts = s.sts ∧
    (loseLane l s).flm = s.flm ∧ (loseLane l s).cnu = s.cnu := by
  simp only [loseLane]
  repeat' split
  all_goals simp

@[simp] theorem regainLane_keeps (l : Nat) (slot : Option BandNo) (s : State) :
    (regainLane l slot s).pending = s.pending ∧ (regainLane l slot s).lmu = s.lmu ∧ (regainLane l slot s).cbu = s.cbu ∧
    (regainLane l slot s).tfs = s.tfs ∧ (regainLane l slot s).sck = s.sck ∧ (regainLane l slot s).sts = s.sts := by
  simp only [regainLane]
  repeat' split
  all_goals simp

@[simp] theorem reopenGate_keeps (l : Nat) (e : Lane) (s : State) :
    (reopenGate l e s).pending = s.pending ∧ (reopenGate l e s).bdr = s.bdr ∧ (reopenGate l e s).lmu = s.lmu ∧
    (reopenGate l e s).cbu = s.cbu ∧ (reopenGate l e s).tfs = s.tfs ∧ (reopenGate l e s).xlu = s.xlu ∧
    (reopenGate l e s).sck = s.sck ∧ (reopenGate l e s).sts = s.sts ∧ (reopenGate l e s).lkc = s.lkc ∧
    (reopenGate l e s).cnu = s.cnu := by
  simp only [reopenGate]
  split
  all_goals simp

@[simp] theorem reconcileLane_keeps (l : Nat) (slot : Option BandNo) (s : State) :
    (reconcileLane l slot s).pending = s.pending ∧ (reconcileLane l slot s).lmu = s.lmu ∧
    (reconcileLane l slot s).cbu = s.cbu ∧ (reconcileLane l slot s).tfs = s.tfs ∧ (reconcileLane l slot s).sck = s.sck ∧
    (reconcileLane l slot s).sts = s.sts := by
  simp only [reconcileLane]
  repeat' split
  all_goals simp

@[simp] theorem unwindQuote_keeps (l : Nat) (s : State) :
    (unwindQuote l s).pending = s.pending ∧ (unwindQuote l s).lmu = s.lmu ∧ (unwindQuote l s).cbu = s.cbu ∧
    (unwindQuote l s).tfs = s.tfs ∧ (unwindQuote l s).sck = s.sck ∧ (unwindQuote l s).sts = s.sts ∧
    (unwindQuote l s).cnu = s.cnu := by
  simp only [unwindQuote]
  repeat' split
  all_goals simp

@[simp] theorem warmLanes_keeps (s : State) :
    (warmLanes s).pending = s.pending ∧ (warmLanes s).lmu = s.lmu ∧ (warmLanes s).cbu = s.cbu ∧ (warmLanes s).tfs = s.tfs ∧
    (warmLanes s).sck = s.sck ∧ (warmLanes s).sts = s.sts ∧ (warmLanes s).cnu = s.cnu := by
  simp [warmLanes]

@[simp] theorem purgeLanes_keeps (s : State) :
    (purgeLanes s).pending = s.pending ∧ (purgeLanes s).lmu = s.lmu ∧ (purgeLanes s).cbu = s.cbu ∧
    (purgeLanes s).tfs = s.tfs ∧ (purgeLanes s).sck = s.sck ∧ (purgeLanes s).sts = s.sts ∧ (purgeLanes s).cnu = s.cnu := by
  simp [purgeLanes]

@[simp] theorem sendPoll_keeps (s : State) :
    (sendPoll s).pending = s.pending ∧ (sendPoll s).bdr = s.bdr ∧ (sendPoll s).lmu = s.lmu ∧ (sendPoll s).cbu = s.cbu ∧
    (sendPoll s).tfs = s.tfs ∧ (sendPoll s).xlu = s.xlu ∧ (sendPoll s).sck = s.sck ∧ (sendPoll s).sts = s.sts ∧
    (sendPoll s).lkc = s.lkc ∧ (sendPoll s).cnu = s.cnu := by
  simp only [sendPoll]
  repeat' split
  all_goals simp

@[simp] theorem refuseRecognition_keeps (reader : Reader) (code : DisplayCode) (s : State) :
    (refuseRecognition reader code s).pending = s.pending ∧ (refuseRecognition reader code s).bdr = s.bdr ∧
    (refuseRecognition reader code s).lmu = s.lmu ∧ (refuseRecognition reader code s).cbu = s.cbu ∧
    (refuseRecognition reader code s).tfs = s.tfs ∧ (refuseRecognition reader code s).xlu = s.xlu ∧
    (refuseRecognition reader code s).sck = s.sck ∧ (refuseRecognition reader code s).sts = s.sts ∧
    (refuseRecognition reader code s).lkc = s.lkc ∧ (refuseRecognition reader code s).cnu = s.cnu := by
  exact ⟨rfl, rfl, rfl, rfl, rfl, rfl, rfl, rfl, rfl, rfl⟩

@[simp] theorem presentAt_pending (reader : Reader) (b : BandNo) (master : State → State) (band : BandRecord → State → State)
    (s : State) (hm : ∀ t, (master t).pending = t.pending) (hb : ∀ r t, (band r t).pending = t.pending) :
    (presentAt reader b master band s).pending = s.pending := by
  simp only [presentAt]
  split
  all_goals simp [hm, hb]

@[simp] theorem presentAt_lmu (reader : Reader) (b : BandNo) (master : State → State) (band : BandRecord → State → State)
    (s : State) (hm : ∀ t, (master t).lmu = t.lmu) (hb : ∀ r t, (band r t).lmu = t.lmu) :
    (presentAt reader b master band s).lmu = s.lmu := by
  simp only [presentAt]
  split
  all_goals simp [hm, hb]

@[simp] theorem presentAt_cbu (reader : Reader) (b : BandNo) (master : State → State) (band : BandRecord → State → State)
    (s : State) (hm : ∀ t, (master t).cbu = t.cbu) (hb : ∀ r t, (band r t).cbu = t.cbu) :
    (presentAt reader b master band s).cbu = s.cbu := by
  simp only [presentAt]
  split
  all_goals simp [hm, hb]

@[simp] theorem presentAt_tfs (reader : Reader) (b : BandNo) (master : State → State) (band : BandRecord → State → State)
    (s : State) (hm : ∀ t, (master t).tfs = t.tfs) (hb : ∀ r t, (band r t).tfs = t.tfs) :
    (presentAt reader b master band s).tfs = s.tfs := by
  simp only [presentAt]
  split
  all_goals simp [hm, hb]

@[simp] theorem presentAt_xlu (reader : Reader) (b : BandNo) (master : State → State) (band : BandRecord → State → State)
    (s : State) (hm : ∀ t, (master t).xlu = t.xlu) (hb : ∀ r t, (band r t).xlu = t.xlu) :
    (presentAt reader b master band s).xlu = s.xlu := by
  simp only [presentAt]
  split
  all_goals simp [hm, hb]

@[simp] theorem presentAt_sck (reader : Reader) (b : BandNo) (master : State → State) (band : BandRecord → State → State)
    (s : State) (hm : ∀ t, (master t).sck = t.sck) (hb : ∀ r t, (band r t).sck = t.sck) :
    (presentAt reader b master band s).sck = s.sck := by
  simp only [presentAt]
  split
  all_goals simp [hm, hb]

@[simp] theorem presentAt_sts (reader : Reader) (b : BandNo) (master : State → State) (band : BandRecord → State → State)
    (s : State) (hm : ∀ t, (master t).sts = t.sts) (hb : ∀ r t, (band r t).sts = t.sts) :
    (presentAt reader b master band s).sts = s.sts := by
  simp only [presentAt]
  split
  all_goals simp [hm, hb]

@[simp] theorem presentAtLane_keeps (l : Nat) (b : BandNo) (s : State) :
    (presentAtLane l b s).pending = s.pending ∧ (presentAtLane l b s).lmu = s.lmu ∧ (presentAtLane l b s).tfs = s.tfs ∧
    (presentAtLane l b s).sck = s.sck ∧ (presentAtLane l b s).sts = s.sts := by
  simp only [presentAtLane]
  split
  all_goals simp

@[simp] theorem bankEvent_keeps (addr : Nat) (ev : StationEvent) (s : State) :
    (bankEvent addr ev s).pending = s.pending ∧ (bankEvent addr ev s).cbu = s.cbu ∧ (bankEvent addr ev s).tfs = s.tfs ∧
    (bankEvent addr ev s).xlu = s.xlu ∧ (bankEvent addr ev s).sck = s.sck ∧ (bankEvent addr ev s).sts = s.sts := by
  simp only [bankEvent]
  repeat' split
  all_goals simp

@[simp] theorem cabinEvent_keeps (addr : Nat) (ev : StationEvent) (s : State) :
    (cabinEvent addr ev s).pending = s.pending ∧ (cabinEvent addr ev s).lmu = s.lmu ∧ (cabinEvent addr ev s).tfs = s.tfs ∧
    (cabinEvent addr ev s).xlu = s.xlu ∧ (cabinEvent addr ev s).sck = s.sck ∧ (cabinEvent addr ev s).sts = s.sts := by
  simp only [cabinEvent]
  split
  all_goals simp

@[simp] theorem padEvent_keeps (addr : Nat) (ev : StationEvent) (s : State) :
    (padEvent addr ev s).pending = s.pending ∧ (padEvent addr ev s).lmu = s.lmu ∧ (padEvent addr ev s).tfs = s.tfs ∧
    (padEvent addr ev s).xlu = s.xlu ∧ (padEvent addr ev s).sck = s.sck ∧ (padEvent addr ev s).sts = s.sts := by
  simp only [padEvent]
  split
  all_goals simp

@[simp] theorem laneEvent_keeps (addr : Nat) (ev : StationEvent) (s : State) :
    (laneEvent addr ev s).pending = s.pending ∧ (laneEvent addr ev s).lmu = s.lmu ∧ (laneEvent addr ev s).tfs = s.tfs ∧
    (laneEvent addr ev s).sck = s.sck ∧ (laneEvent addr ev s).sts = s.sts := by
  simp only [laneEvent]
  split
  all_goals simp

@[simp] theorem routeEvent_keeps (addr : Nat) (ev : StationEvent) (s : State) :
    (routeEvent addr ev s).pending = s.pending ∧ (routeEvent addr ev s).tfs = s.tfs ∧ (routeEvent addr ev s).sck = s.sck ∧
    (routeEvent addr ev s).sts = s.sts := by
  simp only [routeEvent]
  split
  all_goals simp

@[simp] theorem updateStation_keeps (addr : Nat) (f : Station → Station) (s : State) :
    (updateStation addr f s).pending = s.pending ∧ (updateStation addr f s).bdr = s.bdr ∧
    (updateStation addr f s).lmu = s.lmu ∧ (updateStation addr f s).cbu = s.cbu ∧ (updateStation addr f s).tfs = s.tfs ∧
    (updateStation addr f s).xlu = s.xlu ∧ (updateStation addr f s).sck = s.sck ∧ (updateStation addr f s).sts = s.sts ∧
    (updateStation addr f s).lkc = s.lkc ∧ (updateStation addr f s).cnu = s.cnu := by
  exact ⟨rfl, rfl, rfl, rfl, rfl, rfl, rfl, rfl, rfl, rfl⟩

@[simp] theorem takeEvent_keeps (addr : Nat) (event : Option (StationEvent × Bool)) (s : State) :
    (takeEvent addr event s).pending = s.pending ∧ (takeEvent addr event s).tfs = s.tfs ∧
    (takeEvent addr event s).sck = s.sck ∧ (takeEvent addr event s).sts = s.sts := by
  simp only [takeEvent]
  repeat' split
  all_goals simp

@[simp] theorem takeRestart_keeps (addr : Nat) (flag : Bool) (s : State) :
    (takeRestart addr flag s).pending = s.pending ∧ (takeRestart addr flag s).bdr = s.bdr ∧
    (takeRestart addr flag s).lmu = s.lmu ∧ (takeRestart addr flag s).cbu = s.cbu ∧ (takeRestart addr flag s).tfs = s.tfs ∧
    (takeRestart addr flag s).xlu = s.xlu ∧ (takeRestart addr flag s).sck = s.sck ∧ (takeRestart addr flag s).sts = s.sts := by
  simp only [takeRestart]
  repeat' split
  all_goals simp

@[simp] theorem reconcileOwner_keeps (addr : Nat) (r : StatusReport) (s : State) :
    (reconcileOwner addr r s).pending = s.pending ∧ (reconcileOwner addr r s).tfs = s.tfs ∧
    (reconcileOwner addr r s).sck = s.sck ∧ (reconcileOwner addr r s).sts = s.sts := by
  simp only [reconcileOwner]
  split
  all_goals simp

@[simp] theorem regainOwner_keeps (addr : Nat) (r : StatusReport) (s : State) :
    (regainOwner addr r s).pending = s.pending ∧ (regainOwner addr r s).tfs = s.tfs ∧ (regainOwner addr r s).sck = s.sck ∧
    (regainOwner addr r s).sts = s.sts := by
  simp only [regainOwner]
  split
  all_goals simp

@[simp] theorem endStarting_keeps (addr : Nat) (s : State) :
    (endStarting addr s).pending = s.pending ∧ (endStarting addr s).bdr = s.bdr ∧ (endStarting addr s).lmu = s.lmu ∧
    (endStarting addr s).cbu = s.cbu ∧ (endStarting addr s).tfs = s.tfs ∧ (endStarting addr s).xlu = s.xlu ∧
    (endStarting addr s).sck = s.sck ∧ (endStarting addr s).sts = s.sts ∧ (endStarting addr s).cnu = s.cnu := by
  simp only [endStarting]
  split
  all_goals simp

@[simp] theorem takeStatus_keeps (addr : Nat) (r : StatusReport) (s : State) :
    (takeStatus addr r s).pending = s.pending ∧ (takeStatus addr r s).tfs = s.tfs ∧ (takeStatus addr r s).sck = s.sck ∧
    (takeStatus addr r s).sts = s.sts := by
  simp [takeStatus]

@[simp] theorem regainStation_keeps (addr : Nat) (r : StatusReport) (s : State) :
    (regainStation addr r s).pending = s.pending ∧ (regainStation addr r s).tfs = s.tfs ∧
    (regainStation addr r s).sck = s.sck ∧ (regainStation addr r s).sts = s.sts := by
  simp [regainStation]

@[simp] theorem takeOverrun_keeps (addr : Nat) (flag : Bool) (read : Option ReadKind) (s : State) :
    (takeOverrun addr flag read s).pending = s.pending ∧ (takeOverrun addr flag read s).bdr = s.bdr ∧
    (takeOverrun addr flag read s).lmu = s.lmu ∧ (takeOverrun addr flag read s).cbu = s.cbu ∧
    (takeOverrun addr flag read s).tfs = s.tfs ∧ (takeOverrun addr flag read s).xlu = s.xlu ∧
    (takeOverrun addr flag read s).sck = s.sck ∧ (takeOverrun addr flag read s).sts = s.sts ∧
    (takeOverrun addr flag read s).lkc = s.lkc ∧ (takeOverrun addr flag read s).cnu = s.cnu := by
  simp only [takeOverrun]
  split
  all_goals simp

@[simp] theorem takeStatusOf_keeps (addr : Nat) (r : Option StatusReport) (s : State) :
    (takeStatusOf addr r s).pending = s.pending ∧ (takeStatusOf addr r s).tfs = s.tfs ∧
    (takeStatusOf addr r s).sck = s.sck ∧ (takeStatusOf addr r s).sts = s.sts := by
  simp only [takeStatusOf]
  split
  all_goals simp

@[simp] theorem takeAnswer_keeps (p : Poll) (reply : PollReply) (status : Option StatusReport) (s : State) :
    (takeAnswer p reply status s).pending = s.pending ∧ (takeAnswer p reply status s).tfs = s.tfs ∧
    (takeAnswer p reply status s).sck = s.sck ∧ (takeAnswer p reply status s).sts = s.sts := by
  simp [takeAnswer]

@[simp] theorem endPoll_keeps (s : State) :
    (endPoll s).pending = s.pending ∧ (endPoll s).bdr = s.bdr ∧ (endPoll s).lmu = s.lmu ∧ (endPoll s).cbu = s.cbu ∧
    (endPoll s).tfs = s.tfs ∧ (endPoll s).xlu = s.xlu ∧ (endPoll s).sck = s.sck ∧ (endPoll s).sts = s.sts ∧
    (endPoll s).lkc = s.lkc ∧ (endPoll s).cnu = s.cnu := by
  exact ⟨rfl, rfl, rfl, rfl, rfl, rfl, rfl, rfl, rfl, rfl⟩

@[simp] theorem continueVisit_keeps (event : Bool) (s : State) :
    (continueVisit event s).pending = s.pending ∧ (continueVisit event s).bdr = s.bdr ∧
    (continueVisit event s).lmu = s.lmu ∧ (continueVisit event s).cbu = s.cbu ∧ (continueVisit event s).tfs = s.tfs ∧
    (continueVisit event s).xlu = s.xlu ∧ (continueVisit event s).sck = s.sck ∧ (continueVisit event s).sts = s.sts ∧
    (continueVisit event s).lkc = s.lkc ∧ (continueVisit event s).cnu = s.cnu := by
  exact ⟨rfl, rfl, rfl, rfl, rfl, rfl, rfl, rfl, rfl, rfl⟩

@[simp] theorem endVisit_keeps (s : State) :
    (endVisit s).pending = s.pending ∧ (endVisit s).bdr = s.bdr ∧ (endVisit s).lmu = s.lmu ∧ (endVisit s).cbu = s.cbu ∧
    (endVisit s).tfs = s.tfs ∧ (endVisit s).xlu = s.xlu ∧ (endVisit s).sck = s.sck ∧ (endVisit s).sts = s.sts ∧
    (endVisit s).lkc = s.lkc ∧ (endVisit s).cnu = s.cnu := by
  exact ⟨rfl, rfl, rfl, rfl, rfl, rfl, rfl, rfl, rfl, rfl⟩

@[simp] theorem loseOwner_keeps (addr : Nat) (s : State) :
    (loseOwner addr s).pending = s.pending ∧ (loseOwner addr s).bdr = s.bdr ∧ (loseOwner addr s).tfs = s.tfs ∧
    (loseOwner addr s).sck = s.sck ∧ (loseOwner addr s).sts = s.sts ∧ (loseOwner addr s).flm = s.flm ∧
    (loseOwner addr s).cnu = s.cnu := by
  simp only [loseOwner]
  split
  all_goals simp

@[simp] theorem loseStation_keeps (addr : Nat) (s : State) :
    (loseStation addr s).pending = s.pending ∧ (loseStation addr s).bdr = s.bdr ∧ (loseStation addr s).tfs = s.tfs ∧
    (loseStation addr s).sck = s.sck ∧ (loseStation addr s).sts = s.sts := by
  simp [loseStation]

@[simp] theorem missAnswer_keeps (addr : Nat) (s : State) :
    (missAnswer addr s).pending = s.pending ∧ (missAnswer addr s).bdr = s.bdr ∧ (missAnswer addr s).tfs = s.tfs ∧
    (missAnswer addr s).sck = s.sck ∧ (missAnswer addr s).sts = s.sts := by
  simp only [missAnswer]
  repeat' split
  all_goals simp

@[simp] theorem missedPoll_keeps (p : Poll) (s : State) :
    (missedPoll p s).pending = s.pending ∧ (missedPoll p s).bdr = s.bdr ∧ (missedPoll p s).tfs = s.tfs ∧
    (missedPoll p s).sck = s.sck ∧ (missedPoll p s).sts = s.sts := by
  simp [missedPoll]

@[simp] theorem goodAnswer_keeps (p : Poll) (reply : PollReply) (status : Option StatusReport) (s : State) :
    (goodAnswer p reply status s).pending = s.pending ∧ (goodAnswer p reply status s).tfs = s.tfs ∧
    (goodAnswer p reply status s).sck = s.sck ∧ (goodAnswer p reply status s).sts = s.sts := by
  simp only [goodAnswer]
  repeat' split
  all_goals simp

@[simp] theorem takeTimedEntry_keeps (addr : Nat) (k : EntryKey) (s : State) :
    (takeTimedEntry addr k s).pending = s.pending ∧ (takeTimedEntry addr k s).bdr = s.bdr ∧
    (takeTimedEntry addr k s).lmu = s.lmu ∧ (takeTimedEntry addr k s).cbu = s.cbu ∧ (takeTimedEntry addr k s).tfs = s.tfs ∧
    (takeTimedEntry addr k s).xlu = s.xlu ∧ (takeTimedEntry addr k s).sck = s.sck ∧ (takeTimedEntry addr k s).sts = s.sts ∧
    (takeTimedEntry addr k s).lkc = s.lkc ∧ (takeTimedEntry addr k s).cnu = s.cnu := by
  simp only [takeTimedEntry]
  repeat' split
  all_goals simp

@[simp] theorem takeEntryTimers_keeps (s : State) :
    (takeEntryTimers s).pending = s.pending ∧ (takeEntryTimers s).bdr = s.bdr ∧ (takeEntryTimers s).lmu = s.lmu ∧
    (takeEntryTimers s).cbu = s.cbu ∧ (takeEntryTimers s).tfs = s.tfs ∧ (takeEntryTimers s).xlu = s.xlu ∧
    (takeEntryTimers s).sck = s.sck ∧ (takeEntryTimers s).sts = s.sts ∧ (takeEntryTimers s).lkc = s.lkc ∧
    (takeEntryTimers s).cnu = s.cnu := by
  simp [takeEntryTimers, apply_ite]

@[simp] theorem readStation_keeps (addr : Nat) (s : State) :
    (readStation addr s).1.pending = s.pending ∧ (readStation addr s).1.bdr = s.bdr ∧ (readStation addr s).1.lmu = s.lmu ∧
    (readStation addr s).1.cbu = s.cbu ∧ (readStation addr s).1.tfs = s.tfs ∧ (readStation addr s).1.xlu = s.xlu ∧
    (readStation addr s).1.sck = s.sck ∧ (readStation addr s).1.sts = s.sts ∧ (readStation addr s).1.flm = s.flm ∧
    (readStation addr s).1.lkc = s.lkc ∧ (readStation addr s).1.cnu = s.cnu := by
  simp only [readStation]
  split
  all_goals simp [refused, done]

@[simp] theorem warmLine_keeps (s : State) :
    (warmLine s).pending = s.pending ∧ (warmLine s).bdr = s.bdr ∧ (warmLine s).lmu = s.lmu ∧ (warmLine s).cbu = s.cbu ∧
    (warmLine s).tfs = s.tfs ∧ (warmLine s).xlu = s.xlu ∧ (warmLine s).sck = s.sck ∧ (warmLine s).sts = s.sts ∧
    (warmLine s).lkc = s.lkc ∧ (warmLine s).cnu = s.cnu := by
  exact ⟨rfl, rfl, rfl, rfl, rfl, rfl, rfl, rfl, rfl, rfl⟩

@[simp] theorem purgeReads_keeps (s : State) :
    (purgeReads s).pending = s.pending ∧ (purgeReads s).bdr = s.bdr ∧ (purgeReads s).lmu = s.lmu ∧
    (purgeReads s).cbu = s.cbu ∧ (purgeReads s).tfs = s.tfs ∧ (purgeReads s).xlu = s.xlu ∧ (purgeReads s).sck = s.sck ∧
    (purgeReads s).sts = s.sts ∧ (purgeReads s).lkc = s.lkc ∧ (purgeReads s).cnu = s.cnu := by
  exact ⟨rfl, rfl, rfl, rfl, rfl, rfl, rfl, rfl, rfl, rfl⟩

@[simp] theorem watch_keeps (tag : Byte) (a : WatchArgs) (s : State) :
    (watch tag a s).1.pending = s.pending ∧ (watch tag a s).1.bdr = s.bdr ∧ (watch tag a s).1.lmu = s.lmu ∧
    (watch tag a s).1.cbu = s.cbu ∧ (watch tag a s).1.tfs = s.tfs ∧ (watch tag a s).1.xlu = s.xlu ∧
    (watch tag a s).1.sck = s.sck ∧ (watch tag a s).1.sts = s.sts ∧ (watch tag a s).1.flm = s.flm ∧
    (watch tag a s).1.cnu = s.cnu := by
  simp only [watch]
  repeat' split
  all_goals simp [refused, done]

@[simp] theorem cancelWatch_keeps (tag : Byte) (s : State) :
    (cancelWatch tag s).1.pending = s.pending ∧ (cancelWatch tag s).1.bdr = s.bdr ∧ (cancelWatch tag s).1.lmu = s.lmu ∧
    (cancelWatch tag s).1.cbu = s.cbu ∧ (cancelWatch tag s).1.tfs = s.tfs ∧ (cancelWatch tag s).1.xlu = s.xlu ∧
    (cancelWatch tag s).1.sck = s.sck ∧ (cancelWatch tag s).1.sts = s.sts ∧ (cancelWatch tag s).1.flm = s.flm ∧
    (cancelWatch tag s).1.cnu = s.cnu := by
  simp only [cancelWatch]
  split
  all_goals simp [refused, done]

@[simp] theorem takeWatchExpiry_keeps (tag : Byte) (s : State) :
    (takeWatchExpiry tag s).pending = s.pending ∧ (takeWatchExpiry tag s).bdr = s.bdr ∧
    (takeWatchExpiry tag s).lmu = s.lmu ∧ (takeWatchExpiry tag s).cbu = s.cbu ∧ (takeWatchExpiry tag s).tfs = s.tfs ∧
    (takeWatchExpiry tag s).xlu = s.xlu ∧ (takeWatchExpiry tag s).sck = s.sck ∧ (takeWatchExpiry tag s).sts = s.sts ∧
    (takeWatchExpiry tag s).flm = s.flm ∧ (takeWatchExpiry tag s).cnu = s.cnu := by
  simp only [takeWatchExpiry]
  repeat' split
  all_goals simp

@[simp] theorem takeDue_keeps (s : State) :
    (takeDue s).pending = s.pending ∧ (takeDue s).tfs = s.tfs ∧ (takeDue s).sck = s.sck ∧ (takeDue s).sts = s.sts := by
  simp [takeDue]

@[simp] theorem setCounter_keeps (n : Nat) (s : State) :
    (setCounter n s).pending = s.pending ∧ (setCounter n s).bdr = s.bdr ∧ (setCounter n s).lmu = s.lmu ∧
    (setCounter n s).cbu = s.cbu ∧ (setCounter n s).tfs = s.tfs ∧ (setCounter n s).xlu = s.xlu ∧
    (setCounter n s).sts = s.sts ∧ (setCounter n s).flm = s.flm ∧ (setCounter n s).lkc = s.lkc ∧
    (setCounter n s).cnu = s.cnu := by
  exact ⟨rfl, rfl, rfl, rfl, rfl, rfl, rfl, rfl, rfl, rfl⟩

@[simp] theorem raiseBoundary_keeps (minute : Nat) (s : State) :
    (raiseBoundary minute s).pending = s.pending ∧ (raiseBoundary minute s).bdr = s.bdr ∧
    (raiseBoundary minute s).lmu = s.lmu ∧ (raiseBoundary minute s).xlu = s.xlu ∧ (raiseBoundary minute s).sck = s.sck ∧
    (raiseBoundary minute s).sts = s.sts := by
  simp [raiseBoundary]

@[simp] theorem closeDayWith_keeps (reason : Nat → Nat → Nat → DayReason) (s : State) :
    (closeDayWith reason s).pending = s.pending ∧ (closeDayWith reason s).lmu = s.lmu ∧
    (closeDayWith reason s).tfs = s.tfs ∧ (closeDayWith reason s).xlu = s.xlu ∧ (closeDayWith reason s).sts = s.sts := by
  simp [closeDayWith]

@[simp] theorem wrapDay_keeps (s : State) :
    (wrapDay s).pending = s.pending ∧ (wrapDay s).bdr = s.bdr ∧ (wrapDay s).lmu = s.lmu ∧ (wrapDay s).cbu = s.cbu ∧
    (wrapDay s).tfs = s.tfs ∧ (wrapDay s).xlu = s.xlu ∧ (wrapDay s).sts = s.sts ∧ (wrapDay s).flm = s.flm := by
  simp only [wrapDay]
  split
  all_goals simp

@[simp] theorem dayLogic_keeps (s : State) :
    (dayLogic s).pending = s.pending ∧ (dayLogic s).lmu = s.lmu ∧ (dayLogic s).tfs = s.tfs ∧ (dayLogic s).xlu = s.xlu ∧
    (dayLogic s).sts = s.sts := by
  simp only [dayLogic]
  split
  all_goals simp

@[simp] theorem advanceSecond_keeps (s : State) :
    (advanceSecond s).pending = s.pending ∧ (advanceSecond s).lmu = s.lmu ∧ (advanceSecond s).xlu = s.xlu ∧
    (advanceSecond s).sts = s.sts := by
  simp only [advanceSecond]
  repeat' split
  all_goals simp

@[simp] theorem secondPasses_keeps (s : State) :
    (secondPasses s).pending = s.pending ∧ (secondPasses s).sts = s.sts := by
  simp [secondPasses]

@[simp] theorem runClock_keeps (n : Nat) (s : State) :
    (runClock n s).pending = s.pending ∧ (runClock n s).sts = s.sts := by
  induction n generalizing s with
  | zero => simp [runClock]
  | succ n ih => simp [runClock, ih]

@[simp] theorem adjustForward_keeps (n : Nat) (s : State) :
    (adjustForward n s).pending = s.pending ∧ (adjustForward n s).sts = s.sts := by
  induction n generalizing s with
  | zero => simp [adjustForward]
  | succ n ih => simp [adjustForward, ih]

@[simp] theorem carryTimers_keeps (f : Nat → Nat) (s : State) :
    (carryTimers f s).pending = s.pending ∧ (carryTimers f s).tfs = s.tfs ∧ (carryTimers f s).sck = s.sck ∧
    (carryTimers f s).sts = s.sts ∧ (carryTimers f s).cnu = s.cnu := by
  exact ⟨rfl, rfl, rfl, rfl, rfl⟩

@[simp] theorem clockSetTo_keeps (second : Nat) (s : State) :
    (clockSetTo second s).pending = s.pending ∧ (clockSetTo second s).sts = s.sts := by
  simp only [clockSetTo]
  split
  all_goals simp

@[simp] theorem setClock_keeps (second : Nat) (s : State) :
    (setClock second s).1.pending = s.pending ∧ (setClock second s).1.sts = s.sts := by
  simp only [setClock]
  repeat' split
  all_goals simp [refused, done]

@[simp] theorem adjustBack_keeps (second : Nat) (s : State) :
    (adjustBack second s).pending = s.pending ∧ (adjustBack second s).bdr = s.bdr ∧ (adjustBack second s).lmu = s.lmu ∧
    (adjustBack second s).xlu = s.xlu ∧ (adjustBack second s).sts = s.sts := by
  simp [adjustBack]

@[simp] theorem adjustTo_keeps (second : Nat) (s : State) :
    (adjustTo second s).pending = s.pending ∧ (adjustTo second s).sts = s.sts := by
  simp only [adjustTo]
  repeat' split
  all_goals simp

@[simp] theorem adjustClock_keeps (k : Int) (s : State) :
    (adjustClock k s).1.pending = s.pending ∧ (adjustClock k s).1.sts = s.sts := by
  simp only [adjustClock]
  repeat' split
  all_goals simp [refused, done]

@[simp] theorem readClock_keeps (s : State) :
    (readClock s).1.pending = s.pending ∧ (readClock s).1.bdr = s.bdr ∧ (readClock s).1.lmu = s.lmu ∧
    (readClock s).1.cbu = s.cbu ∧ (readClock s).1.tfs = s.tfs ∧ (readClock s).1.xlu = s.xlu ∧ (readClock s).1.sck = s.sck ∧
    (readClock s).1.sts = s.sts ∧ (readClock s).1.flm = s.flm ∧ (readClock s).1.lkc = s.lkc ∧ (readClock s).1.cnu = s.cnu := by
  exact ⟨rfl, rfl, rfl, rfl, rfl, rfl, rfl, rfl, rfl, rfl, rfl⟩

@[simp] theorem openedDay_keeps (live : List Byte) (s : State) :
    (openedDay live s).pending = s.pending ∧ (openedDay live s).bdr = s.bdr ∧ (openedDay live s).lmu = s.lmu ∧
    (openedDay live s).tfs = s.tfs ∧ (openedDay live s).xlu = s.xlu ∧ (openedDay live s).sts = s.sts ∧
    (openedDay live s).flm = s.flm := by
  exact ⟨rfl, rfl, rfl, rfl, rfl, rfl, rfl⟩

@[simp] theorem openDay_keeps (s : State) :
    (openDay s).1.pending = s.pending ∧ (openDay s).1.bdr = s.bdr ∧ (openDay s).1.lmu = s.lmu ∧ (openDay s).1.tfs = s.tfs ∧
    (openDay s).1.xlu = s.xlu ∧ (openDay s).1.sts = s.sts ∧ (openDay s).1.flm = s.flm := by
  simp only [openDay]
  repeat' split
  all_goals simp [refused, done]

@[simp] theorem closeDay_keeps (s : State) :
    (closeDay s).1.pending = s.pending ∧ (closeDay s).1.lmu = s.lmu ∧ (closeDay s).1.tfs = s.tfs ∧
    (closeDay s).1.xlu = s.xlu ∧ (closeDay s).1.sts = s.sts := by
  simp only [closeDay]
  split
  all_goals simp [refused, done]

@[simp] theorem emptyBands_keeps (s : State) :
    (emptyBands s).pending = s.pending ∧ (emptyBands s).lmu = s.lmu ∧ (emptyBands s).cbu = s.cbu ∧
    (emptyBands s).tfs = s.tfs ∧ (emptyBands s).xlu = s.xlu ∧ (emptyBands s).sck = s.sck ∧ (emptyBands s).sts = s.sts ∧
    (emptyBands s).flm = s.flm ∧ (emptyBands s).lkc = s.lkc ∧ (emptyBands s).cnu = s.cnu := by
  exact ⟨rfl, rfl, rfl, rfl, rfl, rfl, rfl, rfl, rfl, rfl⟩

@[simp] theorem purgeLockers_keeps (s : State) :
    (purgeLockers s).pending = s.pending ∧ (purgeLockers s).cbu = s.cbu ∧ (purgeLockers s).tfs = s.tfs ∧
    (purgeLockers s).xlu = s.xlu ∧ (purgeLockers s).sck = s.sck ∧ (purgeLockers s).sts = s.sts ∧
    (purgeLockers s).cnu = s.cnu := by
  simp [purgeLockers]

@[simp] theorem purgeActs_keeps (s : State) :
    (purgeActs s).pending = s.pending ∧ (purgeActs s).tfs = s.tfs ∧ (purgeActs s).sts = s.sts ∧ (purgeActs s).cnu = s.cnu := by
  simp [purgeActs]

@[simp] theorem purge_keeps (s : State) :
    (purge s).1.pending = s.pending ∧ (purge s).1.tfs = s.tfs ∧ (purge s).1.sts = s.sts := by
  simp only [purge]
  split
  all_goals simp [refused, done]

@[simp] theorem setFramer_keeps (f : Framer) (s : State) :
    (setFramer f s).pending = s.pending ∧ (setFramer f s).bdr = s.bdr ∧ (setFramer f s).lmu = s.lmu ∧
    (setFramer f s).cbu = s.cbu ∧ (setFramer f s).tfs = s.tfs ∧ (setFramer f s).xlu = s.xlu ∧ (setFramer f s).sck = s.sck ∧
    (setFramer f s).sts = s.sts ∧ (setFramer f s).flm = s.flm ∧ (setFramer f s).cnu = s.cnu := by
  exact ⟨rfl, rfl, rfl, rfl, rfl, rfl, rfl, rfl, rfl, rfl⟩

@[simp] theorem arrive_keeps (o : OrderFrame) (s : State) :
    (arrive o s).pending = s.pending ∧ (arrive o s).bdr = s.bdr ∧ (arrive o s).lmu = s.lmu ∧ (arrive o s).cbu = s.cbu ∧
    (arrive o s).tfs = s.tfs ∧ (arrive o s).xlu = s.xlu ∧ (arrive o s).sck = s.sck ∧ (arrive o s).sts = s.sts ∧
    (arrive o s).flm = s.flm := by
  simp only [arrive]
  repeat' split
  all_goals simp

@[simp] theorem takeFrame_keeps (bytes : List Byte) (s : State) :
    (takeFrame bytes s).pending = s.pending ∧ (takeFrame bytes s).bdr = s.bdr ∧ (takeFrame bytes s).lmu = s.lmu ∧
    (takeFrame bytes s).cbu = s.cbu ∧ (takeFrame bytes s).tfs = s.tfs ∧ (takeFrame bytes s).xlu = s.xlu ∧
    (takeFrame bytes s).sck = s.sck ∧ (takeFrame bytes s).sts = s.sts ∧ (takeFrame bytes s).flm = s.flm := by
  simp only [takeFrame]
  split
  all_goals simp

@[simp] theorem endFrame_keeps (cause : DiscardCause) (s : State) :
    (endFrame cause s).pending = s.pending ∧ (endFrame cause s).bdr = s.bdr ∧ (endFrame cause s).lmu = s.lmu ∧
    (endFrame cause s).cbu = s.cbu ∧ (endFrame cause s).tfs = s.tfs ∧ (endFrame cause s).xlu = s.xlu ∧
    (endFrame cause s).sck = s.sck ∧ (endFrame cause s).sts = s.sts ∧ (endFrame cause s).flm = s.flm := by
  simp only [endFrame]
  split
  all_goals simp

@[simp] theorem linkReset_keeps (s : State) :
    (linkReset s).pending = s.pending ∧ (linkReset s).bdr = s.bdr ∧ (linkReset s).lmu = s.lmu ∧ (linkReset s).cbu = s.cbu ∧
    (linkReset s).tfs = s.tfs ∧ (linkReset s).xlu = s.xlu ∧ (linkReset s).sck = s.sck ∧ (linkReset s).sts = s.sts ∧
    (linkReset s).flm = s.flm := by
  exact ⟨rfl, rfl, rfl, rfl, rfl, rfl, rfl, rfl, rfl⟩

@[simp] theorem warmOwners_keeps (s : State) :
    (warmOwners s).pending = s.pending ∧ (warmOwners s).lmu = s.lmu ∧ (warmOwners s).tfs = s.tfs ∧
    (warmOwners s).sck = s.sck ∧ (warmOwners s).sts = s.sts := by
  simp only [warmOwners]
  split
  all_goals simp

@[simp] theorem warmReset_keeps (s : State) :
    (warmReset s).pending = s.pending ∧ (warmReset s).lmu = s.lmu ∧ (warmReset s).tfs = s.tfs ∧ (warmReset s).sck = s.sck ∧
    (warmReset s).sts = s.sts := by
  simp [warmReset]

@[simp] theorem takeBreak_keeps (s : State) :
    (takeBreak s).pending = s.pending ∧ (takeBreak s).lmu = s.lmu ∧ (takeBreak s).tfs = s.tfs ∧ (takeBreak s).sck = s.sck ∧
    (takeBreak s).sts = s.sts := by
  simp only [takeBreak]
  split
  all_goals simp

@[simp] theorem readConditions_keeps (s : State) :
    (readConditions s).1.pending = s.pending ∧ (readConditions s).1.bdr = s.bdr ∧ (readConditions s).1.lmu = s.lmu ∧
    (readConditions s).1.cbu = s.cbu ∧ (readConditions s).1.tfs = s.tfs ∧ (readConditions s).1.xlu = s.xlu ∧
    (readConditions s).1.sck = s.sck ∧ (readConditions s).1.sts = s.sts ∧ (readConditions s).1.flm = s.flm ∧
    (readConditions s).1.lkc = s.lkc := by
  exact ⟨rfl, rfl, rfl, rfl, rfl, rfl, rfl, rfl, rfl, rfl⟩

@[simp] theorem setNoticeMask_keeps (mask : Nat) (s : State) :
    (setNoticeMask mask s).1.pending = s.pending ∧ (setNoticeMask mask s).1.bdr = s.bdr ∧
    (setNoticeMask mask s).1.lmu = s.lmu ∧ (setNoticeMask mask s).1.cbu = s.cbu ∧ (setNoticeMask mask s).1.tfs = s.tfs ∧
    (setNoticeMask mask s).1.xlu = s.xlu ∧ (setNoticeMask mask s).1.sck = s.sck ∧ (setNoticeMask mask s).1.sts = s.sts ∧
    (setNoticeMask mask s).1.flm = s.flm ∧ (setNoticeMask mask s).1.lkc = s.lkc := by
  simp only [setNoticeMask]
  split
  all_goals simp [refused, done]

@[simp] theorem identify_keeps (s : State) :
    (identify s).1.pending = s.pending ∧ (identify s).1.bdr = s.bdr ∧ (identify s).1.lmu = s.lmu ∧
    (identify s).1.cbu = s.cbu ∧ (identify s).1.tfs = s.tfs ∧ (identify s).1.xlu = s.xlu ∧ (identify s).1.sck = s.sck ∧
    (identify s).1.sts = s.sts ∧ (identify s).1.flm = s.flm ∧ (identify s).1.lkc = s.lkc ∧ (identify s).1.cnu = s.cnu := by
  exact ⟨rfl, rfl, rfl, rfl, rfl, rfl, rfl, rfl, rfl, rfl, rfl⟩

@[simp] theorem reset_keeps (s : State) :
    (reset s).1.pending = s.pending ∧ (reset s).1.bdr = s.bdr ∧ (reset s).1.lmu = s.lmu ∧ (reset s).1.cbu = s.cbu ∧
    (reset s).1.tfs = s.tfs ∧ (reset s).1.xlu = s.xlu ∧ (reset s).1.sck = s.sck ∧ (reset s).1.sts = s.sts ∧
    (reset s).1.flm = s.flm ∧ (reset s).1.cnu = s.cnu := by
  exact ⟨rfl, rfl, rfl, rfl, rfl, rfl, rfl, rfl, rfl, rfl⟩

@[simp] theorem siteLoad_keeps (body : List Byte) (s : State) :
    (siteLoad body s).1.pending = s.pending ∧ (siteLoad body s).1.bdr = s.bdr ∧ (siteLoad body s).1.lmu = s.lmu ∧
    (siteLoad body s).1.cbu = s.cbu ∧ (siteLoad body s).1.tfs = s.tfs ∧ (siteLoad body s).1.xlu = s.xlu ∧
    (siteLoad body s).1.sck = s.sck ∧ (siteLoad body s).1.flm = s.flm ∧ (siteLoad body s).1.lkc = s.lkc ∧
    (siteLoad body s).1.cnu = s.cnu := by
  simp only [siteLoad]
  repeat' split
  all_goals simp [refused, done]

@[simp] theorem rebuild_keeps (t : SiteTable) (s : State) :
    (rebuild t s).pending = s.pending ∧ (rebuild t s).tfs = s.tfs ∧ (rebuild t s).sck = s.sck ∧ (rebuild t s).sts = s.sts ∧
    (rebuild t s).lkc = s.lkc ∧ (rebuild t s).cnu = s.cnu := by
  exact ⟨rfl, rfl, rfl, rfl, rfl, rfl⟩

@[simp] theorem commitImage_keeps (image : List Byte) (s : State) :
    (commitImage image s).pending = s.pending ∧ (commitImage image s).tfs = s.tfs ∧ (commitImage image s).cnu = s.cnu := by
  exact ⟨rfl, rfl, rfl⟩

@[simp] theorem siteCommit_keeps (s : State) :
    (siteCommit s).1.pending = s.pending ∧ (siteCommit s).1.tfs = s.tfs ∧ (siteCommit s).1.cnu = s.cnu := by
  simp only [siteCommit]
  repeat' split
  all_goals exact ⟨rfl, rfl, rfl⟩

end Sys2Proof.Machine
end

