-- ==== Sys2Proof/Laws/State.lean ====
section
/-!
SUPPORT. One lemma for each field that an update of the state writes: what the field holds afterwards. The fields it leaves
alone are in Laws/Frames.lean.
-/

namespace Sys2Proof.Machine

/-! ## The present second and the tables read from other fields -/

theorem State.now_eq (s : State) : s.now = s.sck.counter := rfl

theorem State.table_eq (s : State) : s.table = s.sts.site.getD emptyTable := rfl

theorem State.configured_eq (s : State) : s.configured = s.sts.site.isSome := rfl

/-! ## The written fields of the primitive operations -/

@[simp] theorem updateBand_bdr (b : BandNo) (f : BandRecord → BandRecord) (s : State) :
    (updateBand b f s).bdr = s.bdr.update b f := rfl

@[simp] theorem setLink_bdr (b : BandNo) (link : Option CabinLink) (s : State) :
    (setLink b link s).bdr = s.bdr.update b (fun r => { r with link := link }) := rfl

@[simp] theorem freeBand_bdr (b : BandNo) (s : State) : (freeBand b s).bdr = s.bdr.free b := rfl

@[simp] theorem putLocker_lmu (n : Nat) (l : Locker) (s : State) : (putLocker n l s).lmu = s.lmu.put n l := rfl

@[simp] theorem putLocker_lkc (n : Nat) (l : Locker) (s : State) :
    (putLocker n l s).lkc = meetWhen (differs ((s.lmu.find n).map (·.state)) l.state) (.locker n) l.state.code s := rfl

@[simp] theorem putCabin_cbu (n : Nat) (c : Cabin) (s : State) : (putCabin n c s).cbu = s.cbu.put n c := rfl

@[simp] theorem putCabin_lkc (n : Nat) (c : Cabin) (s : State) :
    (putCabin n c s).lkc = meetWhen (differs ((s.cbu.find n).map (·.state)) c.state) (.cabin n) c.state.code s := rfl

@[simp] theorem putLane_xlu (n : Nat) (e : Lane) (s : State) : (putLane n e s).xlu = s.xlu.put n e := rfl

@[simp] theorem putLane_lkc (n : Nat) (e : Lane) (s : State) :
    (putLane n e s).lkc = meetWhen (differs ((s.xlu.find n).map (·.state)) e.state) (.lane n) e.state.code s := rfl

@[simp] theorem moveLocker_lmu (n : Nat) (l : Locker) (s : State) : (moveLocker n l s).lmu = s.lmu.put n l := rfl

@[simp] theorem moveCabin_cbu (n : Nat) (c : Cabin) (s : State) : (moveCabin n c s).cbu = s.cbu.put n c := rfl

@[simp] theorem moveLane_xlu (n : Nat) (e : Lane) (s : State) : (moveLane n e s).xlu = s.xlu.put n e := rfl

@[simp] theorem setHealth_flm (addr : Nat) (h : Health) (s : State) :
    (setHealth addr h s).flm = s.flm.update addr (fun st => { st with health := h }) := rfl

@[simp] theorem writeEntry_flm (addr : Nat) (k : EntryKey) (v : EntryValue) (s : State) :
    (writeEntry addr k v s).flm = s.flm.update addr (fun st => st.write k v) := rfl

@[simp] theorem playOnce_flm (addr : Nat) (p : OneShot) (s : State) :
    (playOnce addr p s).flm = s.flm.update addr (fun st => st.oneShot p) := rfl

@[simp] theorem updateStation_flm (addr : Nat) (f : Station → Station) (s : State) :
    (updateStation addr f s).flm = s.flm.update addr f := rfl

@[simp] theorem setQueue_cbu (g : Nat) (f : List QueueEntry → List QueueEntry) (s : State) :
    (setQueue g f s).cbu = s.cbu.updateGroup g (fun k => { k with queue := f k.queue }) := rfl

@[simp] theorem placeAnswer_lkc (a : Answer) (s : State) : (placeAnswer a s).lkc = s.lkc.place a := rfl

@[simp] theorem raiseNotice_cnu (c : NoticeContent) (s : State) : (raiseNotice c s).cnu = s.cnu.latch c.cls := rfl

@[simp] theorem popOrder_lkc (s : State) : (popOrder s).lkc = { s.lkc with orders := s.lkc.orders.tail } := rfl

@[simp] theorem setFramer_lkc (f : Framer) (s : State) : (setFramer f s).lkc = { s.lkc with framer := f } := rfl

@[simp] theorem setCounter_sck (n : Nat) (s : State) : (setCounter n s).sck = { s.sck with counter := n } := rfl

@[simp] theorem Conditions.latch_mask (c : Conditions) (k : NoticeClass) : (c.latch k).mask = c.mask := rfl

@[simp] theorem Conditions.latch_bits (c : Conditions) (k : NoticeClass) : (c.latch k).bits = c.bits ||| (1#10 <<< k.code) := rfl

/-! ## The link controller -/

@[simp] theorem LinkController.choose_answers (l : LinkController) : l.choose.answers = l.answers := by
  unfold LinkController.choose
  (repeat' split) <;> simp_all

@[simp] theorem LinkController.choose_orders (l : LinkController) : l.choose.orders = l.orders := by
  unfold LinkController.choose
  (repeat' split) <;> rfl

@[simp] theorem LinkController.choose_watches (l : LinkController) : l.choose.watches = l.watches := by
  unfold LinkController.choose
  (repeat' split) <;> rfl

@[simp] theorem LinkController.choose_hold (l : LinkController) : l.choose.hold = l.hold := by
  unfold LinkController.choose
  (repeat' split) <;> rfl

@[simp] theorem LinkController.choose_resetPhase (l : LinkController) : l.choose.resetPhase = l.resetPhase := by
  unfold LinkController.choose
  (repeat' split) <;> rfl

theorem LinkController.choose_notices (l : LinkController) :
    l.choose.notices = l.notices ∨ l.choose.notices = l.notices.tail := by
  unfold LinkController.choose
  (repeat' split) <;> simp_all

@[simp] theorem LinkController.start_answers (l : LinkController) : l.start.answers = l.answers := by
  unfold LinkController.start; split <;> simp

@[simp] theorem LinkController.start_orders (l : LinkController) : l.start.orders = l.orders := by
  unfold LinkController.start; split <;> simp

@[simp] theorem LinkController.start_watches (l : LinkController) : l.start.watches = l.watches := by
  unfold LinkController.start; split <;> simp

@[simp] theorem LinkController.start_hold (l : LinkController) : l.start.hold = l.hold := by
  unfold LinkController.start; split <;> simp

@[simp] theorem LinkController.start_resetPhase (l : LinkController) : l.start.resetPhase = l.resetPhase := by
  unfold LinkController.start; split <;> simp

theorem LinkController.start_notices (l : LinkController) :
    l.start.notices = l.notices ∨ l.start.notices = l.notices.tail := by
  unfold LinkController.start
  split
  · exact l.choose_notices
  · exact .inl rfl

@[simp] theorem LinkController.place_answers (l : LinkController) (a : Answer) : (l.place a).answers = l.answers ++ [a] := by
  simp [LinkController.place]

@[simp] theorem LinkController.place_orders (l : LinkController) (a : Answer) : (l.place a).orders = l.orders := by
  simp [LinkController.place]

@[simp] theorem LinkController.place_watches (l : LinkController) (a : Answer) : (l.place a).watches = l.watches := by
  simp [LinkController.place]

@[simp] theorem LinkController.place_resetPhase (l : LinkController) (a : Answer) : (l.place a).resetPhase = l.resetPhase := by
  simp [LinkController.place]

theorem LinkController.place_notices (l : LinkController) (a : Answer) :
    (l.place a).notices = l.notices ∨ (l.place a).notices = l.notices.tail := by
  simpa [LinkController.place] using LinkController.start_notices { l with answers := l.answers ++ [a] }

@[simp] theorem LinkController.offer_answers (l : LinkController) (n : Notice) : (l.offer n).answers = l.answers := by
  unfold LinkController.offer; split <;> simp

@[simp] theorem LinkController.offer_orders (l : LinkController) (n : Notice) : (l.offer n).orders = l.orders := by
  unfold LinkController.offer; split <;> simp

@[simp] theorem LinkController.offer_watches (l : LinkController) (n : Notice) : (l.offer n).watches = l.watches := by
  unfold LinkController.offer; split <;> simp

@[simp] theorem LinkController.offer_resetPhase (l : LinkController) (n : Notice) : (l.offer n).resetPhase = l.resetPhase := by
  unfold LinkController.offer; split <;> simp

end Sys2Proof.Machine
end

