-- ==== Sys2Proof/Laws/Tables.lean ====
section
/-!
SUPPORT. What each write of a table does to every entry of it: the written entry holds what was written, and every other
entry reads as before.
-/

namespace Sys2Proof.Machine

/-! ## Band register -/

theorem BandRegister.find_update (r : BandRegister) (b x : BandNo) (f : BandRecord → BandRecord)
    (hf : ∀ y, (f y).number = y.number) :
    (r.update b f).find x = if x = b then (r.find x).map f else r.find x := by
  simp only [BandRegister.find, BandRegister.update]
  induction r.bands with
  | nil => simp
  | cons y ys ih =>
    simp only [List.map_cons, List.find?_cons]
    by_cases hy : y.number = b
    · by_cases hx : x = b
      · subst hx; simp [hy, hf]
      · have h2 : ¬ b = x := fun h => hx h.symm
        simp [hy, hf, hx, h2] at ih ⊢
        exact ih
    · by_cases hx : x = b
      · subst hx; simp [hy] at ih ⊢; exact ih
      · by_cases h3 : y.number = x
        · simp [h3, hx]
        · simp [hy, h3, hx] at ih ⊢; exact ih

theorem BandRegister.update_length (r : BandRegister) (b : BandNo) (f : BandRecord → BandRecord) :
    (r.update b f).bands.length = r.bands.length := by simp [BandRegister.update]

@[simp] theorem BandRegister.update_parties (r : BandRegister) (b : BandNo) (f : BandRecord → BandRecord) :
    (r.update b f).parties = r.parties := rfl

@[simp] theorem BandRegister.update_masters (r : BandRegister) (b : BandNo) (f : BandRecord → BandRecord) :
    (r.update b f).masters = r.masters := rfl

/-! ## Locker map -/

theorem lockerNumber_bank (n : Nat) : lockerNumber (lockerBank n) (lockerDoor n) = n := by
  simp only [lockerNumber, lockerBank, lockerDoor, Config.doorsPerBank]; omega

theorem lockerBank_number (b d : Nat) (h : d < 24) : lockerBank (lockerNumber b d) = b := by
  simp only [lockerNumber, lockerBank, Config.doorsPerBank]; omega

theorem lockerDoor_number (b d : Nat) (h : d < 24) : lockerDoor (lockerNumber b d) = d := by
  simp only [lockerNumber, lockerDoor, Config.doorsPerBank]; omega

/-- A locker is named by its bank and its door (R24). -/
theorem same_locker (m n : Nat) (hb : lockerBank m = lockerBank n) (hd : lockerDoor m = lockerDoor n) : m = n := by
  rw [← lockerNumber_bank m, ← lockerNumber_bank n, hb, hd]

theorem Bank.put_lockers (b : Bank) (d : Nat) (l : Locker) : (b.put d l).lockers = b.lockers.set d l := by
  unfold Bank.put
  split
  · next h => rw [List.set_eq_of_length_le]; simpa using h
  · rfl

theorem LockerMap.find_put_self (m : LockerMap) (n : Nat) (l : Locker) :
    (m.put n l).find n = (m.find n).map (fun _ => l) := by
  simp only [LockerMap.find, LockerMap.put, List.getElem?_modify]
  cases h : m.banks[lockerBank n]? with
  | none => simp
  | some b =>
    simp only [Option.map_eq_map, Option.map_some, Option.bind_some, Bank.put_lockers, List.getElem?_set, if_true]
    cases hd : b.lockers[lockerDoor n]? with
    | none =>
      have : ¬ lockerDoor n < b.lockers.length := by simpa using hd
      simp [this]
    | some x =>
      have : lockerDoor n < b.lockers.length := (List.getElem?_eq_some_iff.mp hd).1
      simp [this]

theorem LockerMap.find_put_other (m : LockerMap) (n x : Nat) (l : Locker) (hx : x ≠ n) : (m.put n l).find x = m.find x := by
  simp only [LockerMap.find, LockerMap.put, List.getElem?_modify]
  by_cases hb : lockerBank n = lockerBank x
  · have hd : lockerDoor n ≠ lockerDoor x := fun h => hx (same_locker x n hb.symm h.symm)
    cases h : m.banks[lockerBank x]? with
    | none => simp
    | some b => simp [hb, Bank.put_lockers, hd]
  · simp [hb]

/-- A bank's count follows a write of one of its lockers (R27). -/
theorem Bank.put_countsVacant (b : Bank) (d : Nat) (l : Locker) (h : b.CountsVacant) : (b.put d l).CountsVacant := by
  have count : ∀ (ls : List Locker) (d : Nat) (old : Locker), ls[d]? = some old →
      ((ls.set d l).filter (fun l => l.state = .vacant)).length + old.vacantCount
        = (ls.filter (fun l => l.state = .vacant)).length + l.vacantCount := by
    intro ls
    induction ls with
    | nil => intro d old h; simp at h
    | cons y ys ih =>
      intro d old h
      cases d with
      | zero =>
        simp only [List.getElem?_cons_zero, Option.some.injEq] at h
        subst h
        by_cases h1 : y.state = .vacant <;> by_cases h2 : l.state = .vacant <;> simp [Locker.vacantCount, h1, h2]
      | succ d =>
        simp only [List.getElem?_cons_succ] at h
        have := ih d old h
        by_cases h1 : y.state = .vacant <;> simp [h1] <;> omega
  unfold Bank.put
  split
  · exact h
  · next old ho =>
    have := count b.lockers d old ho
    simp only [Bank.CountsVacant] at h ⊢
    omega

theorem LockerMap.put_lengths (m : LockerMap) (n : Nat) (l : Locker) :
    (m.put n l).banks.map (fun b => b.lockers.length) = m.banks.map (fun b => b.lockers.length) := by
  apply List.ext_getElem?
  intro i
  simp only [LockerMap.put, List.getElem?_map, List.getElem?_modify]
  cases m.banks[i]? with
  | none => rfl
  | some b => by_cases h : lockerBank n = i <;> simp [h, Bank.put_lockers]

/-! ## Cabin unit, exit lane unit -/

theorem CabinUnit.find_put (u : CabinUnit) (c x : Nat) (e : Cabin) :
    (u.put c e).find x = if c = x then (u.find x).map (fun _ => e) else u.find x := by
  simp only [CabinUnit.find, CabinUnit.put, List.getElem?_set]
  by_cases h : c = x
  · subst h
    by_cases hl : c < u.cabins.length
    · simp [hl]
    · simp [hl]
  · simp [h]

@[simp] theorem CabinUnit.put_groups (u : CabinUnit) (c : Nat) (e : Cabin) : (u.put c e).groups = u.groups := rfl

@[simp] theorem CabinUnit.put_length (u : CabinUnit) (c : Nat) (e : Cabin) : (u.put c e).cabins.length = u.cabins.length := by
  simp [CabinUnit.put]

@[simp] theorem CabinUnit.updateGroup_cabins (u : CabinUnit) (g : Nat) (f : Group → Group) :
    (u.updateGroup g f).cabins = u.cabins := rfl

@[simp] theorem CabinUnit.updateGroup_length (u : CabinUnit) (g : Nat) (f : Group → Group) :
    (u.updateGroup g f).groups.length = u.groups.length := by simp [CabinUnit.updateGroup]

theorem CabinUnit.group_updateGroup (u : CabinUnit) (g x : Nat) (f : Group → Group) :
    (u.updateGroup g f).group x = if g = x then (u.group x).map f else u.group x := by
  simp only [CabinUnit.group, CabinUnit.updateGroup, List.getElem?_modify]
  by_cases h : g = x <;> simp [h]

theorem LaneUnit.find_put (u : LaneUnit) (c x : Nat) (e : Lane) :
    (u.put c e).find x = if c = x then (u.find x).map (fun _ => e) else u.find x := by
  simp only [LaneUnit.find, LaneUnit.put, List.getElem?_set]
  by_cases h : c = x
  · subst h
    by_cases hl : c < u.lanes.length
    · simp [hl]
    · simp [hl]
  · simp [h]

@[simp] theorem LaneUnit.put_length (u : LaneUnit) (c : Nat) (e : Lane) : (u.put c e).lanes.length = u.lanes.length := by
  simp [LaneUnit.put]

/-! ## Field line -/

theorem FieldLine.find_update (f : FieldLine) (a x : Nat) (g : Station → Station) (hg : ∀ st, (g st).addr = st.addr) :
    (f.update a g).find x = if x = a then (f.find x).map g else f.find x := by
  simp only [FieldLine.find, FieldLine.update]
  induction f.stations with
  | nil => simp
  | cons y ys ih =>
    simp only [List.map_cons, List.find?_cons]
    by_cases hy : y.addr = a
    · by_cases hx : x = a
      · subst hx; simp [hy, hg]
      · have h2 : ¬ a = x := fun h => hx h.symm
        simp [hy, hg, hx, h2] at ih ⊢
        exact ih
    · by_cases hx : x = a
      · subst hx; simp [hy] at ih ⊢; exact ih
      · by_cases h3 : y.addr = x
        · simp [h3, hx]
        · simp [hy, h3, hx] at ih ⊢; exact ih

theorem FieldLine.update_addresses (f : FieldLine) (a : Nat) (g : Station → Station) (hg : ∀ st, (g st).addr = st.addr) :
    (f.update a g).stations.map (·.addr) = f.stations.map (·.addr) := by
  simp only [FieldLine.update, List.map_map]
  apply List.map_congr_left
  intro st _
  by_cases h : st.addr = a <;> simp [h, hg]

@[simp] theorem FieldLine.update_visit (f : FieldLine) (a : Nat) (g : Station → Station) : (f.update a g).visit = f.visit := rfl

@[simp] theorem FieldLine.update_inFlight (f : FieldLine) (a : Nat) (g : Station → Station) :
    (f.update a g).inFlight = f.inFlight := rfl

@[simp] theorem Station.write_addr (st : Station) (k : EntryKey) (v : EntryValue) : (st.write k v).addr = st.addr := rfl

@[simp] theorem Station.oneShot_addr (st : Station) (p : OneShot) : (st.oneShot p).addr = st.addr := by
  unfold Station.oneShot; split <;> rfl

/-! ## Orders -/

/-- An order that is taken: its owner acts on the state it has left, and its answer is placed (R154). -/
theorem runOrder_taken (k : OrderKind) (tag : Byte) (body : List Byte) (owner : State → Owned) (s : State)
    (h : Taken k tag body s) : runOrder k tag body owner s = settleOwned tag (owner (popOrder s)) := by
  obtain ⟨⟨ho, hp, hr⟩, hl, hc⟩ := h
  have hd : canDispatch s = true := by simp [canDispatch, hp, hr, Config.answerPlaces]
  have hcfg : (popOrder s).configured = s.configured := rfl
  have hex : examineOrder k tag body owner (popOrder s) = settleOwned tag (owner (popOrder s)) := by
    have hc' : ((popOrder s).configured || k.takenUnconfigured) = true := by
      rw [hcfg]; rcases hc with h | h <;> simp [h]
    rw [examineOrder, if_pos hl, if_pos hc']
  have hf : ({ kind := k.code, tag := tag, body := body } : OrderFrame) = orderFrame k tag body := rfl
  simp only [runOrder, dispatchOrder, hf]
  rcases ho with ho | ho
  · have hpop : popOrder s = s := by simp [popOrder, ho]; cases s; cases ‹LinkController›; simp_all
    rw [if_neg (by simp [ho]), if_pos ho, if_pos hd, ← hex, hpop]
  · rw [if_pos ho, if_pos hd, hex]

end Sys2Proof.Machine
end

