-- ==== Sys2Proof/Tests/Slice0.lean ====
section
/-!
SUPPORT. The model's own tests: ill-formed commands that the checks of WellFormed refuse, worked cases and figures taken from
the spec, and for every statement with hypotheses a state and operands that meet them together (`witness_<statement>…`).
-/

namespace Sys2Proof.Tests
open Sys2Proof Sys2Proof.Machine

-- One theorem at a time: proofs that wait for the kernel side by side hold one thread each.
set_option Elab.async false

/-! ## A small village: one mirrored bank of 8 doors, two cabins of group 0, one lane, one master band -/

/-- The site table of the village. -/
def table : SiteTable :=
  { generation := 3, openWindow := 8, repeatWindow := 2, serviceInterval := 400
    banks := [{ doors := 8, mirrored := true, retention := .visit, pitch := 0 }]
    cabins := [{ group := 0, pitch := 0 }, { group := 0, pitch := 0 }]
    groups := List.replicate 4
      { offerWindow := 90, cleaningTime := 120, occupancyLimit := 30, abandonTime := 180, callPad := true, pitch := 0 }
    lanes := [{ quoteWindow := 300, passWindow := 8, pitch := 0 }]
    masters := [0x99#40] }

/-- The tariff of the worked cases of spec 05 section 5; class 1 has two lockers, every group and the staff right. -/
def tariff : List Byte :=
  withCheckValue
    (writeSegment
      (writeSegment
        (writeSegment (List.replicate 142 0) 0 ([7, 0, 3, 0] ++ u16Bytes 0 ++ u16Bytes 960 ++ u16Bytes 1200))
        20 (u16Bytes 320 ++ u16Bytes 480 ++ u16Bytes 400))
      84 ([2, 0x1F, 10, 15] ++ u16Bytes 900 ++ u16Bytes 24))
    142

/-- A band record as ISSUE BAND leaves it. -/
def record (slot : Nat) (b : BandNo) : BandRecord :=
  { slot := slot, number := b, state := .inside, cls := 1, entryMinute := 500, paidMinutes := 120, party := none,
    lockers := [], link := none, overstay := 0, quote := none, replacedBy := none, lastPresentation := none }

/-- The village in an Open day at 10:00:00, with the records given. -/
def village (bands : List BandRecord) : State :=
  let s := rebuild table State.reset
  { s with
    sck := { counter := 36000, clockValid := true, day := .opened, openMinute := some 480, wrapped := false }
    sts := { s.sts with site := some table }
    tfs := { s.tfs with live := some tariff }
    bdr := { s.bdr with bands := bands } }

/-- The village with one band, 2B40. -/
def open1 : State := village [record 0 0x2B40#40]

/-- A state with its day Closed. -/
def closed (s : State) : State := { s with sck := { s.sck with day := .closed } }

/-- A state with one order in its buffer. -/
def queued (k : OrderKind) (tag : Byte) (body : List Byte) (s : State) : State :=
  { s with lkc := { s.lkc with orders := [orderFrame k tag body] } }

/-- A state with a locker in another state. -/
def withLocker (n : Nat) (f : Locker → Locker) (s : State) : State :=
  match s.lmu.find n with
  | none => s
  | some l => { s with lmu := s.lmu.put n (f l) }

/-- A state with a cabin in another state. -/
def withCabin (n : Nat) (f : Cabin → Cabin) (s : State) : State :=
  match s.cbu.find n with
  | none => s
  | some c => { s with cbu := s.cbu.put n (f c) }

/-- A state with a lane in another state. -/
def withLane (n : Nat) (f : Lane → Lane) (s : State) : State :=
  match s.xlu.find n with
  | none => s
  | some e => { s with xlu := s.xlu.put n (f e) }

/-- The state a command leaves. -/
def after (c : Instr) (s : State) : State :=
  match exec c s with
  | .next t => t
  | _ => s

/-- Cabin 0 offered to 2B40 until the present second. -/
def offered : State :=
  withCabin 0
    (fun c => { c with state := .offered, band := some 0x2B40#40, ticketShown := some 40, offerExpiry := some 36000,
                       offerMisses := some 0, offerJoin := some 35900 })
    (withCabin 1 (fun c => { c with state := .outOfService })
      (village [{ record 0 0x2B40#40 with link := some (.offered 0) }]))

/-- Cabin 0 occupied by 2B40, two minutes overstayed. -/
def occupied : State :=
  withCabin 0
    (fun c => { c with state := .occupied, band := some 0x2B40#40, entryExpiry := some 36000, counter := -2,
                       overstayFlag := true, doorOpen := true, doorOpenSince := some 35820 })
    (village [{ record 0 0x2B40#40 with link := some (.holding 0) }])

/-- Lane 0 holding 2B40 for 1.21 until the present second. -/
def quoted : State :=
  withLane 0
    (fun e => { e with state := .holding, band := some 0x2B40#40, quoteAmount := some 121, quoteExpiry := some 36000 })
    (village [{ record 0 0x2B40#40 with state := .quoted, quote := some { lane := 0, amount := 121, expiry := 36000 } }])

/-- Band 51A0 waits in group 0. -/
def oneWaits (s : State) : State :=
  { s with
    cbu := s.cbu.updateGroup 0 (fun k => { k with queue := [{ band := 0x51A0#40, ticket := 7, join := 35000, misses := 0 }] })
    bdr := { s.bdr with bands := s.bdr.bands ++ [{ record 1 0x51A0#40 with link := some (.queued 0 7) }] } }

/-- A band waits, no cabin of its group is Free, and the band has a record. -/
def headWaits (s : State) : Bool :=
  (s.cbu.queue 0).map (·.band) = [0x51A0#40] && (s.cbu.lowestFree 0).isNone && (s.bdr.find 0x51A0#40).isSome

/-- A state at a second of day. -/
def atSecond (x : Nat) (s : State) : State := { s with sck := { s.sck with counter := x } }

/-- Cabin 0 occupied by 2B40, in its last minute or with the minutes given. -/
def minutesLeft (k : Int) : State := withCabin 0 (fun c => { c with counter := k, overstayFlag := false }) occupied

/-- Locker 0 in a state, with a holder or without. -/
def door0 (st : LockerState) (holder : Option BandNo) : State :=
  withLocker 0 (fun l => { l with state := st, holder := holder }) open1

/-- The queue of group 0 full, its tail 601F with ticket 32 in the band table. -/
def fullQueue (s : State) : State :=
  { s with
    cbu := s.cbu.updateGroup 0 (fun k => { k with
      queue := (List.range 32).map (fun i => { band := BitVec.ofNat 40 (0x6000 + i), ticket := i + 1, join := 35000, misses := 0 }) })
    bdr := { s.bdr with bands := s.bdr.bands ++ [{ record 1 0x601F#40 with link := some (.queued 0 32) }] } }

/-- Group 0 at a next ticket. -/
def ticketAt (n : Nat) (s : State) : State := { s with cbu := s.cbu.updateGroup 0 (fun k => { k with nextTicket := n }) }

/-- The village without a cleaning time. -/
def noCleaning (s : State) : State :=
  { s with sts := { s.sts with site := some { table with groups := table.groups.map (fun g => { g with cleaningTime := 0 }) } } }

/-- 51A0, of class 0: no locker, no group and no staff right. -/
def stranger : BandRecord := { record 1 0x51A0#40 with cls := 0 }

/-! ## Ill-formed commands are refused -/

theorem test_wf_frame : (Instr.frameReceived [0xC5, 3, 1]).wf = false := by decide
theorem test_wf_length : (Instr.frameLengthOutOfRange 3).wf = false ∧ (Instr.frameLengthOutOfRange 250).wf = false
    ∧ (Instr.frameLengthOutOfRange 251).wf = true := by decide
theorem test_wf_unknown_kind : (Instr.unknownOrder 0x29 1 [0]).wf = false ∧ (Instr.unknownOrder 0x2A 1 [0]).wf = true := by decide
theorem test_wf_empty_body : (Instr.readClock 1 []).wf = false := by decide
theorem test_wf_long_body : (Instr.siteLoad 1 (List.replicate 249 0)).wf = false := by decide +kernel
theorem test_wf_direction : (Instr.lockerServiceOut 1 [0, 0, 1]).wf = false ∧ (Instr.lockerServiceIn 1 [0, 0, 0]).wf = false
    ∧ (Instr.cabinServiceOut 1 [0, 1]).wf = false ∧ (Instr.cabinServiceIn 1 [0, 0]).wf = false := by decide
theorem test_wf_indexes : (Instr.openingExpiry 768).wf = false ∧ (Instr.offerExpiry 48).wf = false
    ∧ (Instr.quoteExpiry 4).wf = false := by decide
theorem test_wf_timed_entry : (Instr.desiredEntryExpiry 33 (.bolt 1)).wf = false
    ∧ (Instr.desiredEntryExpiry 84 .gate).wf = false := by decide
theorem test_wf_reply :
    (Instr.pollAnswer
      { event := none, overrun := false, restart := false
        status := some (.lockBank (List.replicate 25 { isOpen := false, locked := false })) }).wf = false := by decide

/-! ## Figures and worked cases of the spec -/

/-- R173. -/
theorem test_check_value :
    crc [0x31#8, 0x32#8, 0x33#8, 0x34#8, 0x35#8, 0x36#8, 0x37#8, 0x38#8, 0x39#8] = 0x29B1#16 := by decide +kernel

/-- R25: bank 12, mirrored, of 20 doors. -/
theorem test_mirrored_bank : lockerNumber 12 (mirrorDoor true 20 0) = 307 ∧ lockerNumber 12 (mirrorDoor true 20 19) = 288 := by
  decide

/-- The working and charge of a class 1 band of 120 paid minutes against the tariff of spec 05 section 5. -/
def worked (entry overstay minute : Nat) (wrapped : Bool) : List Nat :=
  let r := { record 0 0x2B40#40 with entryMinute := entry, overstay := overstay }
  let w := settlementWorking tariff wrapped minute r
  [w.minute, w.stay, w.overstay, w.units, w.timeSum, w.cabinSum, w.total, w.rounded, settlementCharge tariff w r]

/-- Spec 05 5.02 to 5.08: cases 1 to 4. -/
theorem test_settlement_cases :
    worked 820 7 1001 false = [1001, 181, 51, 4, 1760, 168, 1928, 121, 121]
    ∧ worked 820 7 905 false = [905, 85, 0, 0, 0, 168, 168, 11, 11]
    ∧ worked 1230 0 20 true = [1439, 209, 79, 6, 2400, 0, 2400, 150, 150]
    ∧ worked 480 40 1170 false = [1170, 690, 560, 38, 14400, 960, 15360, 960, 900] := by decide +kernel

/-- Spec 05 5.10: a clock set back. -/
theorem test_settlement_set_back : worked 603 0 599 false = [599, 0, 0, 0, 0, 0, 0, 0, 0] := by decide +kernel

/-- Spec 02 9.02, 9.03: a claim at the reader of a mirrored bank (physical 7 is door 0), then an opening for 8 s. -/
theorem test_claim_mirrored :
    ((routeEvent 1 (.bandPresented 7 0x2B40#40) open1).lmu.find 0).map (fun l => (l.state, l.holder))
      = some (.held, some 0x2B40#40)
    ∧ (routeEvent 1 (.bandPresented 7 0x2B40#40) open1).lmu.banks.map (·.freeCount) = [7] := by decide +kernel

/-- R32, R33: an opening by a band in Single ends the binding when the door opens. -/
theorem test_single_given_up :
    let held := withLocker 0 (fun l => { l with state := .held, holder := some 0x2B40#40, claimRetention := some .single })
      (village [{ record 0 0x2B40#40 with lockers := [0] }])
    let opening := routeEvent 1 (.bandPresented 7 0x2B40#40) held
    let t := routeEvent 1 (.doorChanged 7 true) opening
    (opening.lmu.find 0).bind (·.openingExpiry) = some 36008
      ∧ (t.lmu.find 0).map (fun l => (l.state, l.holder)) = some (.vacant, none)
      ∧ (t.bdr.find 0x2B40#40).map (·.lockers) = some [] := by decide +kernel

/-- Spec 03 9.05: a first miss is appended at the tail, and the cabin is offered to the new head. -/
theorem test_miss_requeued :
    let s := { offered with
      bdr := { offered.bdr with bands := offered.bdr.bands ++ [{ record 1 0x2B41#40 with link := some (.queued 0 41) }] }
      cbu := offered.cbu.updateGroup 0 (fun g => { g with
        queue := [{ band := 0x2B41#40, ticket := 41, join := 35950, misses := 0 }] }) }
    let t := after (.offerExpiry 0) s
    (t.cbu.queue 0).map (fun e => (e.band, e.ticket, e.misses)) = [(0x2B40#40, 40, 1)]
      ∧ (t.cbu.find 0).map (fun c => (c.state, c.ticketShown, c.offerExpiry)) = some (.offered, some 41, some 36090) := by
  decide +kernel

/-- R54: after ticket 99 comes 1, and a ticket held is passed by. -/
theorem test_tickets : ticketAfter 99 = 1 ∧ firstFreeTicket [99, 1] 99 99 = 2 := by decide

/-- R127: spec 07, the time remaining is unchanged across midnight. -/
theorem test_carry : carryTimer 86390 10 5 = 25 := by decide

/-! ## Witnesses: the hypotheses of each statement met together, clause by clause -/

/-- Whether the order of a kind, put at the head of the buffer, is taken. -/
def takes (k : OrderKind) (tag : Byte) (body : List Byte) (s : State) : Bool :=
  decide (TakenFromBuffer k tag body (queued k tag body s))

theorem takes_taken (k : OrderKind) (tag : Byte) (body : List Byte) (s : State) (h : takes k tag body s = true) :
    TakenFromBuffer k tag body (queued k tag body s) := of_decide_eq_true h

theorem witness_StepRunsFrontCommand : (step { open1 with pending := [.readClock 7 [0]] }) = exec (.readClock 7 [0]) open1 := rfl

theorem witness_SecondsAndBoundariesPass :
    open1.pending = [] ∧ open1.sck.counter < 86400 ∧ (atSecond 86399 open1).sck.counter < 86400 ∧ open1.bdr.bands ≠ []
      ∧ open1.sck.counter % 60 ≠ 59
      ∧ ((atSecond 36059 open1).sck.counter % 60 = 59 ∧ (atSecond 36059 open1).sck.counter ≠ 86399)
      ∧ (atSecond 86399 open1).sck.counter % 60 = 59
      ∧ (((minutesLeft 1).cbu.find 0).map (fun c => (c.acting, c.state, c.counter)) = some (.occupied, .occupied, 1)
        ∧ ((minutesLeft 1).flm.find 33).isSome = true)
      ∧ ((minutesLeft (-1440)).cbu.find 0).map (·.counter) = some (-1440)
      ∧ (∀ c ∈ (minutesLeft 2).cbu.cabins, c.acting = .occupied → c.counter ≠ 1)
      ∧ ((loseCabin 0 (minutesLeft 1)).cbu.find 0).map (fun c => (c.acting, c.state)) = some (.occupied, .unreachable) := by
  decide +kernel

/-- R56, R67: the minute boundary that brings an occupied cabin to 0 writes its bolt, its lamp and its display. -/
theorem test_overstay_written :
    let s := withCabin 0 (fun c => { c with entryExpiry := none, doorOpenSince := none }) (minutesLeft 1)
    ((after .minuteBoundary (atSecond 36059 s)).flm.find 33).map
        (fun st => (st.image.filter (fun e => e.dirty)).map (fun e => (e.key, e.value)))
      = some [(.standing, .standing .blank), (.bolt 0, .bolt .locked), (.lamp 0, .lamp .fastFlash)] := by decide +kernel

/-- A visit of four polls keeps within them. -/
theorem witness_VisitWithinFour :
    VisitWithinFour { open1 with flm := { open1.flm with visit := some { addr := 1, polls := 4, again := false } } } := by
  rintro v ⟨rfl⟩
  exact ⟨by decide, by decide⟩

/-- The invariants that every step keeps hold of the village, which takes a step. -/
theorem witness_StepKeeps :
    ClockInRange open1 ∧ CountersInRange occupied ∧ FreeCountsHold open1 ∧ LinkWithinCapacity open1
      ∧ QueuesWithinCapacity open1 ∧ BandTableGood open1 ∧ ImagesGood open1 ∧ TablesMatchSite open1
      ∧ step open1 = .next (secondPasses open1) ∧ step occupied = .next (secondPasses occupied) := by
  unfold ClockInRange CountersInRange FreeCountsHold LinkWithinCapacity QueuesWithinCapacity BandTableGood ImagesGood
    TablesMatchSite Bank.CountsVacant
  exact ⟨by decide +kernel, by decide +kernel, by decide +kernel, by decide +kernel, by decide +kernel, by decide +kernel,
    by decide +kernel, by decide +kernel, rfl, rfl⟩

theorem witness_FramesReadBack :
    1 ≤ ([0#8] : List Byte).length ∧ (List.replicate 248 0xFF#8).length ≤ 248 ∧ 1 ≤ (List.replicate 248 0xFF#8).length := by
  decide +kernel

theorem witness_OrderBodiesReadBack :
    (255 < 256 ∧ 65535 < 65536) ∧ ((4294967295 : Nat) < 4294967296) ∧ ((-32768 : Int) ≤ -32768 ∧ (32767 : Int) < 32768)
      ∧ ((∀ c ∈ List.replicate 8 255, c < 256) ∧ (List.replicate 8 255).length ≤ 8)
      ∧ (List.replicate 247 0#8).length ≤ 247 ∧ (List.replicate 246 0#8).length ≤ 246
      ∧ OrderKind.cancelWatch ∈ [OrderKind.readBank, .cancelWatch] := by decide +kernel

/-! ### The site link -/

/-- A frame of READ CONDITIONS, and one whose check differs. -/
def goodFrame : List Byte := frameBytes 0x22 7 [0]
def badFrame : List Byte := [0xC5, 3, 0x22, 7, 0, 0, 0]

/-- A link with four orders waiting, and one with eight answers. -/
def fullBuffer (s : State) : State :=
  { s with lkc := { s.lkc with orders := List.replicate 4 (orderFrame .readClock 1 [0]) } }
def fullAnswers (s : State) : State :=
  { s with lkc := { s.lkc with answers := List.replicate 8 (plainAnswer 1 .done), tx := .answer } }

/-- A link whose framer and transmitter stand as given, with notices waiting. -/
def framed (f : Framer) (s : State) : State := { s with lkc := { s.lkc with framer := f } }
def sending (tx : Transmitter) (s : State) : State := { s with lkc := { s.lkc with tx := tx } }
def waiting (notices : List Notice) (s : State) : State := { s with lkc := { s.lkc with notices := notices } }
def linkNotice : Notice := { content := .link .gap 10 254, second := 10 }
def dayNotice : Notice := { content := .dayEvent .linkReset, second := 10 }
def masked (s : State) : State := { s with cnu := { s.cnu with mask := 0 } }

theorem witness_FrameReceivedTaken :
    open1.lkc.framer ≠ .awaitingMark ∧ isFrame goodFrame = true ∧ isFrame badFrame = true
      ∧ frameCheckMatches goodFrame = true ∧ frameCheckMatches badFrame = false ∧ open1.lkc.orders.length < 4
      ∧ (fullBuffer open1).lkc.framer ≠ .awaitingMark ∧ 4 ≤ (fullBuffer open1).lkc.orders.length
      ∧ (fullBuffer open1).lkc.placesUsed < 8 ∧ 8 ≤ (fullBuffer (fullAnswers open1)).lkc.placesUsed := by decide +kernel

theorem witness_DiscardReportedUnderLink :
    (∃ n ∈ (waiting [linkNotice] open1).lkc.notices, n.isLink = true)
      ∧ ((waiting [linkNotice] open1).lkc.notices.filter Notice.isLink).length ≤ 1
      ∧ (∀ n ∈ (waiting (List.replicate 32 dayNotice) open1).lkc.notices, n.isLink = false)
      ∧ open1.cnu.mask.getLsbD 7 = true ∧ (masked open1).cnu.mask.getLsbD 7 = false
      ∧ 32 ≤ (waiting (List.replicate 32 dayNotice) open1).lkc.notices.length
      ∧ (waiting [dayNotice] (sending (.notice dayNotice false) open1)).lkc.notices.length < 32
      ∧ (sending (.notice dayNotice false) open1).lkc.tx ≠ .idle
      ∧ ((waiting [dayNotice] open1).lkc.answers = [] ∧ (waiting [dayNotice] open1).lkc.hold = false)
      ∧ (framed .inFrame open1).lkc.framer = .inFrame ∧ (framed .hunting open1).lkc.framer = .hunting
      ∧ (2#8).toNat < 3 ∧ 250 < (251#8).toNat
      ∧ isFrame badFrame = true ∧ frameCheckMatches badFrame = false
      ∧ 4 ≤ (fullBuffer (fullAnswers open1)).lkc.orders.length ∧ 8 ≤ (fullBuffer (fullAnswers open1)).lkc.placesUsed := by
  decide +kernel

theorem witness_LineFollowedAndBreakResets :
    (framed .hunting open1).lkc.framer = .hunting ∧ (framed .awaitingMark open1).lkc.framer = .awaitingMark
      ∧ open1.lkc.framer ≠ .awaitingMark ∧ open1.lkc.resetPhase ≠ .answering
      ∧ (after (.reset 7 [0]) open1).lkc.framer ≠ .awaitingMark
      ∧ (after (.reset 7 [0]) open1).lkc.resetPhase = .answering := by decide +kernel

/-- The answer to RESET has been sent: the warm reset is due. -/
def resetDue (s : State) : State := { s with lkc := { s.lkc with resetPhase := .due } }

theorem witness_ResetAndWarmReset :
    takes .reset 7 [0] open1
      ∧ (after .transmissionEnd (after (.reset 7 [0]) open1)).lkc.resetPhase = .due
      ∧ (after .transmissionEnd (after (.reset 7 [0]) open1)).configured = true
      ∧ ((offered.cbu.find 0).map (fun c => (c.acting, c.offeredEntry, c.group))
          = some (.offered, some { band := 0x2B40#40, ticket := 40, join := 35900, misses := 0 }, 0)
        ∧ (offered.bdr.find 0x2B40#40).isSome = true ∧ 0 < offered.cbu.groups.length ∧ (offered.cbu.queue 0).length < 32)
      ∧ ((resetDue offered).lkc.resetPhase = .due ∧ (resetDue offered).configured = true
        ∧ (∀ c ∈ (resetDue offered).cbu.cabins, c.acting = .offered → c.band ≠ none ∧ c.group < (resetDue offered).cbu.groups.length)
        ∧ (∀ g ∈ List.range 4, (resetDue offered).cbu.queue g = []) ∧ (resetDue offered).cbu.lowestFree 0 = none
        ∧ standingOffers 0 (resetDue offered) = [(0, 0)] ∧ standingOffers 1 (resetDue offered) = [])
      ∧ ((resetDue State.reset).lkc.resetPhase = .due ∧ (resetDue State.reset).configured = false)
      ∧ ((quoted.xlu.find 0).map (fun e => (e.acting, e.band)) = some (.holding, some 0x2B40#40)
        ∧ (quoted.bdr.find 0x2B40#40).isSome = true) := by decide +kernel

theorem witness_TransmitterChooses :
    ((fullAnswers open1).lkc.tx = .answer ∧ (fullAnswers open1).lkc.answers.length = 8)
      ∧ ((sending (.notice dayNotice false) open1).lkc.tx ≠ .idle
        ∧ ((sending (.notice dayNotice false) open1).lkc.tx = .answer
          → (sending (.notice dayNotice false) open1).lkc.answers.length = 1)
        ∧ (sending (.notice dayNotice false) open1).lkc.answers = [])
      ∧ ((after (.readClock 7 [0]) open1).lkc.tx = .answer ∧ (after (.readClock 7 [0]) open1).lkc.answers.length = 1)
      ∧ ((waiting [dayNotice] open1).lkc.tx = .idle ∧ (waiting [dayNotice] open1).lkc.answers = []
        ∧ (waiting [dayNotice] open1).lkc.notices = [dayNotice] ∧ (waiting [dayNotice] open1).lkc.hold = false)
      ∧ (after .noticeHoldAsserted (sending (.notice dayNotice false) open1)).lkc.hold = true
      ∧ (sending (.notice dayNotice true) (fullAnswers open1)).lkc.answers ≠ [] := by decide +kernel

/-- R155: an answer that waits at the end of a notice is sent next. -/
theorem test_answer_after_notice :
    (after .transmissionEnd (sending (.notice dayNotice true) (waiting [dayNotice] (fullAnswers open1)))).lkc.tx = .answer := by
  decide +kernel

theorem witness_NoticeRaised :
    (masked open1).cnu.mask.getLsbD (NoticeContent.dayEvent .linkReset).cls.code = false
      ∧ open1.cnu.mask.getLsbD (NoticeContent.service 0 400).cls.code = true
      ∧ 32 ≤ (waiting (List.replicate 32 dayNotice) open1).lkc.notices.length
      ∧ ((waiting (List.replicate 31 dayNotice) (sending .answer open1)).lkc.notices.length < 32
        ∧ (waiting (List.replicate 31 dayNotice) (sending .answer open1)).lkc.tx ≠ .idle) := by decide +kernel

theorem witness_OrdersRefusedOrHeldAtDispatch :
    (namesOrder 0x2A = false
      ∧ Dispatched { kind := 0x2A, tag := 7, body := [0] }
          { open1 with lkc := { open1.lkc with orders := [{ kind := 0x2A, tag := 7, body := [0] }] } })
      ∧ (orderFields (.setClock 7 [0]) = some (.setClock, 7, [0])
        ∧ Dispatched (orderFrame .setClock 7 [0]) (queued .setClock 7 [0] open1)
        ∧ OrderKind.setClock.bodyLengthOk ([0#8] : List Byte).length = false)
      ∧ (orderFields (.lockerServiceOut 7 [0, 0, 0]) = some (.lockerService, 7, [0, 0, 0])
        ∧ (Instr.lockerServiceOut 7 [0, 0, 0]).wf = true
        ∧ Dispatched (orderFrame .lockerService 7 [0, 0, 0]) (queued .lockerService 7 [0, 0, 0] State.reset)
        ∧ OrderKind.lockerService.bodyLengthOk ([0#8, 0#8, 0#8] : List Byte).length = true ∧ State.reset.configured = false
        ∧ OrderKind.lockerService.takenUnconfigured = false)
      ∧ ((queued .readClock 7 [0] (fullAnswers open1)).lkc.orders.head? = some (orderFrame .readClock 7 [0])
        ∧ 8 ≤ (queued .readClock 7 [0] (fullAnswers open1)).lkc.placesUsed)
      ∧ (queued .readClock 7 [0] (after (.reset 7 [0]) open1)).lkc.resetPhase ≠ .none := by decide +kernel

/-! ### Band orders -/

/-- A party of six and one of two. -/
def parties : List Party :=
  [{ number := 0, members := [0x2B40#40] }, { number := 255, members := [1#40, 2#40, 3#40, 4#40, 5#40] }]

/-- The village with those parties. -/
def withParties (s : State) : State := { s with bdr := { s.bdr with parties := parties } }

theorem witness_IssueBandCreatesARecord :
    (takes .issueBand 7 (issueBody ⟨0x51A0#40, 7, 1441, 0xFFFF⟩) open1 ∧ open1.sck.day = .opened
      ∧ invalidBand 0x51A0#40 = false ∧ open1.bdr.find 0x51A0#40 = none ∧ open1.bdr.master 0x51A0#40 = none
      ∧ open1.bdr.bands.length < 2048 ∧ partyChoiceOf 0xFFFF = .alone)
      ∧ (takes .issueBand 7 (issueBody ⟨0x51A0#40, 1, 1440, 0xFFFE⟩) (withParties open1) ∧ partyChoiceOf 0xFFFE = .new
        ∧ (withParties open1).bdr.parties.length < 256 ∧ (withParties open1).bdr.freeParty = 1)
      ∧ (takes .issueBand 7 (issueBody ⟨0x51A0#40, 1, 0, 255⟩) (withParties open1) ∧ partyChoiceOf 255 = .join 255
        ∧ ((withParties open1).bdr.party 255).map (·.members.length) = some 5) := by decide +kernel

/-- 2B40 in another state, with a link. -/
def oneBand (st : BandState) (link : Option CabinLink) : State := village [{ record 0 0x2B40#40 with state := st, link := link }]

/-- 2B40 leads party 4, in which 51A0 follows. -/
def inParty (s : State) : State :=
  { s with
    bdr := { s.bdr with
      bands := s.bdr.bands.map (fun r => { r with party := some 4 })
      parties := [{ number := 4, members := [0x2B40#40, 0x51A0#40] }] } }

theorem witness_BarAndForgetBand :
    (takes .barBand 7 (bandBody 0x2B40#40) open1 ∧ (open1.bdr.find 0x2B40#40).map (·.state) = some .inside)
      ∧ (takes .barBand 7 (bandBody 0x2B40#40) (oneBand .inside (some (.queued 0 40)))
        ∧ (oneBand .inside (some (.queued 0 40))).bdr.find 0x2B40#40
            = some { record 0 0x2B40#40 with link := some (.queued 0 40) })
      ∧ (oneBand .inside (some (.holding 1))).bdr.find 0x2B40#40 = some { record 0 0x2B40#40 with link := some (.holding 1) }
      ∧ (takes .barBand 7 (bandBody 0x2B40#40) offered
        ∧ (offered.bdr.find 0x2B40#40).bind (·.link) = some (.offered 0) ∧ offered.cbu.queue 0 = []
        ∧ (offered.cbu.find 0).map (fun c => (c.state, c.group)) = some (.offered, 0))
      ∧ (takes .barBand 7 (bandBody 0x2B40#40) (oneWaits offered) ∧ headWaits (oneWaits offered) = true
        ∧ ((oneWaits offered).cbu.find 0).map (fun c => (c.state, c.group)) = some (.offered, 0))
      ∧ ((oneBand .barred none).bdr.find 0x2B40#40).map (·.state) = some .barred
      ∧ (quoted.bdr.find 0x2B40#40).map (·.state) = some .quoted
      ∧ (takes .forgetBand 7 (bandBody 0x2B40#40) (oneBand .barred none)
        ∧ (oneBand .barred none).bdr.find 0x2B40#40 = some { record 0 0x2B40#40 with state := .barred })
      ∧ (takes .forgetBand 7 (bandBody 0x2B40#40) open1 ∧ open1.bdr.find 0x2B40#40 = some (record 0 0x2B40#40))
      ∧ (takes .forgetBand 7 (bandBody 0x2B40#40) (inParty (oneBand .barred none))
        ∧ ((inParty (oneBand .barred none)).bdr.find 0x2B40#40).map (fun r => (r.state, r.lockers, r.link, r.party))
            = some (.barred, [], none, some 4))
      ∧ ((oneBand .barred (some (.holding 0))).bdr.find 0x2B40#40).bind (·.link) ≠ none := by decide +kernel

/-- R19: a band freed leaves its party, whose next member leads. -/
theorem test_forgotten_leaves_party :
    (after (.forgetBand 7 (bandBody 0x2B40#40)) (inParty (oneBand .barred none))).bdr.parties
      = [{ number := 4, members := [0x51A0#40] }] := by decide +kernel

/-- 2B40 holding locker 0. -/
def holder : State :=
  withLocker 0 (fun l => { l with state := .held, holder := some 0x2B40#40, claimRetention := some .visit })
    (village [{ record 0 0x2B40#40 with lockers := [0] }])

theorem witness_ReplaceBandMovesTheTenancy :
    takes .replaceBand 7 (replaceBody 0x2B40#40 0x7C3E#40) holder
      ∧ (holder.bdr.find 0x2B40#40).map (fun r => (r.state, r.lockers, r.link, r.replacedBy)) = some (.inside, [0], none, none)
      ∧ invalidBand 0x7C3E#40 = false ∧ holder.bdr.find 0x7C3E#40 = none ∧ holder.bdr.master 0x7C3E#40 = none
      ∧ holder.bdr.bands.length < 2048 ∧ (holder.lmu.find 0).isSome = true ∧ (holder.lmu.find 1).isSome = true
      ∧ (takes .replaceBand 7 (replaceBody 0x2B40#40 0x7C3E#40) (oneBand .inside (some (.queued 0 40)))
        ∧ (oneBand .inside (some (.queued 0 40))).bdr.find 0x2B40#40
            = some { record 0 0x2B40#40 with link := some (.queued 0 40) })
      ∧ (takes .replaceBand 7 (replaceBody 0x2B40#40 0x7C3E#40) offered
        ∧ (offered.bdr.find 0x2B40#40).bind (·.link) = some (.offered 0) ∧ (offered.cbu.find 0).isSome = true)
      ∧ (takes .replaceBand 7 (replaceBody 0x2B40#40 0x7C3E#40) occupied
        ∧ (occupied.bdr.find 0x2B40#40).bind (·.link) = some (.holding 0)) := by
  decide +kernel

theorem witness_InvalidBandNumbersRefused :
    (takes .issueBand 7 (issueBody ⟨0#40, 1, 0, 0xFFFF⟩) open1
      ∧ bandAt (issueBody ⟨0#40, 1, 0, 0xFFFF⟩) 0 = 0#40 ∧ open1.sck.day = .opened)
      ∧ (takes .replaceBand 7 (replaceBody 0x2B40#40 0xFFFFFFFFFF#40) open1
        ∧ bandAt (replaceBody 0x2B40#40 0xFFFFFFFFFF#40) 5 = 0xFFFFFFFFFF#40
        ∧ open1.bdr.find 0x2B40#40 = some (record 0 0x2B40#40)) := by decide +kernel

theorem witness_TableReadsReport :
    (takes .readBand 7 (bandBody 0x2B40#40) open1 ∧ (open1.bdr.find 0x2B40#40).isSome = true)
      ∧ takes .listBands 7 (listBody 3 2047) open1
      ∧ (takes .readLocker 7 (lockerBody 7) open1 ∧ (open1.lmu.find 7).isSome = true)
      ∧ (takes .readBank 7 (byteBody 0) open1 ∧ (open1.lmu.banks[0]?).isSome = true ∧ (open1.table.banks[0]?).isSome = true)
      ∧ (takes .readCabin 7 (byteBody 1) open1 ∧ (open1.cbu.find 1).isSome = true)
      ∧ (takes .readQueue 7 (pairBody 3 32) open1 ∧ (open1.cbu.group 3).isSome = true) := by decide +kernel

/-! ### Lockers -/

theorem witness_LockerTapsAndDoors :
    ((open1.lmu.find 0).map (fun l => (l.state, l.doorOpen, l.staffOnly)) = some (.vacant, false, false)
      ∧ open1.sck.day = .opened ∧ (record 0 0x2B40#40).state = .inside
      ∧ (record 0 0x2B40#40).lockers.length < tariffAllowance open1.liveBank (record 0 0x2B40#40).cls)
      ∧ tariffStaffRight open1.liveBank 1 = true
      ∧ (holder.lmu.find 0).map (·.state) = some .held
      ∧ ((door0 .orphaned none).lmu.find 0).map (·.state) = some .orphaned
      ∧ ((holder.lmu.find 0).map (fun l => (l.state, l.holder)) = some (.held, some (record 0 0x2B40#40).number)
        ∧ ((door0 .opening (some 0x2B40#40)).lmu.find 0).map (fun l => (l.state, l.holder)) = some (.opening, some 0x2B40#40)
        ∧ ((door0 .opened (some 0x2B40#40)).lmu.find 0).map (fun l => (l.state, l.holder)) = some (.opened, some 0x2B40#40)
        ∧ (withParties open1).bdr.sameParty 0x2B40#40 1#40 = false) := by decide +kernel

/-- The bank of the village Lost, its lockers remembering what they were. -/
def lost (s : State) : State := overBank 0 loseLocker s

theorem witness_ReleaseLockerAndClearForced :
    (takes .releaseLocker 7 (lockerBody 0) open1 ∧ (open1.lmu.find 0).map Locker.acting = some .vacant)
      ∧ ((lost (door0 .outOfService none)).lmu.find 0).map Locker.acting = some .outOfService
      ∧ (takes .releaseLocker 7 (lockerBody 0) holder ∧ (holder.lmu.find 0).map Locker.acting = some .held)
      ∧ (takes .releaseLocker 7 (lockerBody 0) (lost holder)
        ∧ ((lost holder).lmu.find 0).map (fun l => (l.state, l.acting)) = some (.unreachable, .held))
      ∧ (takes .clearForced 7 (lockerBody 0) (door0 .forced (some 0x2B40#40))
        ∧ ((door0 .forced (some 0x2B40#40)).lmu.find 0).map (·.state) = some .forced
        ∧ ((door0 .forced none).lmu.find 0).map (·.holder) = some none)
      ∧ (takes .clearForced 7 (lockerBody 0) holder ∧ (holder.lmu.find 0).map (·.state) ≠ some .forced) := by decide +kernel

theorem witness_LockerRefusals :
    ((closed open1).lmu.find 0).map (·.state) = some .vacant ∧ (closed open1).sck.day = .closed
      ∧ ((quoted.lmu.find 0).map (·.state) = some .vacant ∧ quoted.sck.day = .opened
        ∧ (quoted.bdr.find 0x2B40#40).map (·.state) = some .quoted)
      ∧ (tariffStaffRight open1.liveBank stranger.cls = false ∧ tariffAllowance open1.liveBank stranger.cls = 0
        ∧ ((withLocker 0 (fun l => { l with staffOnly := true }) open1).lmu.find 0).map (fun l => (l.state, l.staffOnly))
          = some (.vacant, true)
        ∧ ((withLocker 0 (fun l => { l with doorOpen := true }) open1).lmu.find 0).map (fun l => (l.state, l.doorOpen, l.staffOnly))
          = some (.vacant, true, false))
      ∧ ((holder.lmu.find 0).map (fun l => (l.state, l.holder)) = some (.held, some 0x2B40#40)
        ∧ 0x2B40#40 ≠ stranger.number ∧ holder.bdr.sameParty 0x2B40#40 stranger.number = false)
      ∧ (∀ st ∈ [LockerState.forced, .orphaned, .outOfService, .opened, .opening],
          ((door0 st none).lmu.find 0).map (·.state) = some st)
      ∧ ((lost holder).lmu.find 0).map (·.state) = some .unreachable
      ∧ (open1.flm.find 1).map (fun st => ((st.value (.flash 0)).isSome, (st.value .sounder).isSome, st.alarm))
          = some (true, true, false) := by decide +kernel

/-- Two Forced lockers of bank 0, the sounder on Alarm. -/
def twoForced : State :=
  let s := withLocker 1 (fun l => { l with state := .forced }) (door0 .forced (some 0x2B40#40))
  { s with flm := s.flm.update 1 (fun st => st.setAlarm true) }

theorem witness_MasterAtLocker :
    (∀ st ∈ [LockerState.vacant, .opened, .outOfService, .opening], ((door0 st none).lmu.find 0).map (·.state) = some st)
      ∧ (((door0 .forced none).lmu.find 0).map (fun l => (l.state, l.holder)) = some (.forced, none)
        ∧ (door0 .forced none).lmu.countIn 0 .forced = 1 ∧ ((door0 .forced none).flm.find 1).isSome = true)
      ∧ ((twoForced.lmu.find 0).map (fun l => (l.state, l.holder)) = some (.forced, some 0x2B40#40)
        ∧ 1 < twoForced.lmu.countIn 0 .forced ∧ (twoForced.flm.find 1).map (·.alarm) = some true) := by decide +kernel

theorem witness_LockerServiceSetsTheMark :
    (takes .lockerService 7 (lockerServiceBody 0 0) holder ∧ (holder.lmu.find 0).map (·.state) = some .held
      ∧ byteAt (lockerServiceBody 0 0) 2 = 0)
      ∧ (takes .lockerService 7 (lockerServiceBody 0 1) (lost (door0 .outOfService none))
        ∧ byteAt (lockerServiceBody 0 1) 2 = 1
        ∧ ((lost (door0 .outOfService none)).lmu.find 0).bind (·.remembered) = some .outOfService) := by decide +kernel

theorem witness_LockerAttributesLoaded :
    (takes .resetUseCount 7 (lockerBody 7) open1 ∧ (open1.lmu.find 7).isSome = true)
      ∧ (takes .lockerWindowLoad 7 (windowBody ⟨0, 0, 0, 23, 2, 1, 0⟩) open1
        ∧ windowOutOfRange (windowArgs (windowBody ⟨0, 0, 0, 23, 2, 1, 0⟩)) open1.lmu.banks.length = false
        ∧ inWindow (windowArgs (windowBody ⟨0, 0, 0, 23, 2, 1, 0⟩)) 7 = true
        ∧ inWindow (windowArgs (windowBody ⟨0, 0, 0, 23, 2, 1, 0⟩)) 24 = false)
      ∧ (takes .lockerWindowLoad 7 (windowBody ⟨0, 0, 0, 0, 1, 2, 2⟩) (lost (door0 .outOfService none))
        ∧ windowOutOfRange (windowArgs (windowBody ⟨0, 0, 0, 0, 1, 2, 2⟩)) 1 = false
        ∧ inWindow (windowArgs (windowBody ⟨0, 0, 0, 0, 1, 2, 2⟩)) 0 = true
        ∧ ((lost (door0 .outOfService none)).lmu.find 0).map (fun l => (l.state, l.remembered))
          = some (.unreachable, some .outOfService))
      ∧ (takes .lockerWindowLoad 7 (windowBody ⟨0, 1, 0, 23, 2, 1, 0⟩) open1
        ∧ windowOutOfRange (windowArgs (windowBody ⟨0, 1, 0, 23, 2, 1, 0⟩)) open1.lmu.banks.length = true) := by decide +kernel

/-- R43's example: of four lockers whose retention a load sets, one already as asked is not counted; in-service no marks the
held one pending and takes a Vacant one out. -/
theorem test_window_counts :
    let s := withLocker 3 (fun l => { l with retention := .single }) open1
    (after (.lockerWindowLoad 7 (windowBody ⟨0, 0, 0, 3, 2, 0, 2⟩)) s).lkc.answers.getLast? = some (doneAnswer 7 (.windowCount 3))
      ∧ ((after (.lockerWindowLoad 7 (windowBody ⟨0, 0, 0, 1, 0, 2, 2⟩)) holder).lmu.banks.map
          (fun b => (b.lockers.take 2).map (fun l => (l.state, l.pendingOut)))) = [[(.held, true), (.outOfService, false)]] := by
  decide +kernel

/-! ### Cabins -/

/-- Both cabins of the village in a state. -/
def cabins (st : CabinState) (s : State) : State :=
  withCabin 0 (fun c => { c with state := st }) (withCabin 1 (fun c => { c with state := st }) s)

theorem witness_JoinsPlaceTheBand :
    (takes .cabinAssign 7 (assignBody 0x2B40#40 0) (cabins .cleaning open1)
      ∧ (cabins .cleaning open1).cbu.emptyGroup 0 = false ∧ (cabins .cleaning open1).cbu.lowestFree 0 = none
      ∧ (cabins .cleaning open1).sck.day = .opened ∧ 0 < (cabins .cleaning open1).cbu.groups.length
      ∧ ((cabins .cleaning open1).bdr.find 0x2B40#40).map (fun r => (r.state, r.link)) = some (.inside, none)
      ∧ ((cabins .cleaning open1).cbu.queue 0).length < 32)
      ∧ (takes .cabinAssign 7 (assignBody 0x2B40#40 0) open1 ∧ open1.cbu.lowestFree 0 = some 0
        ∧ (open1.cbu.find 0).isSome = true ∧ open1.cbu.queue 0 = [])
      ∧ (open1.bdr.find (record 0 0x2B40#40).number = some (record 0 0x2B40#40) ∧ open1.sck.day = .opened
        ∧ open1.cbu.emptyGroup 0 = false ∧ tariffGroupAccess open1.liveBank (record 0 0x2B40#40).cls 0 = true)
      ∧ (open1.cbu.emptyGroup 3 = true ∧ (closed open1).sck.day = .closed) := by decide +kernel

theorem witness_TicketsHeld :
    ((oneWaits (ticketAt 7 open1)).cbu.group 0).map (fun k => (k.nextTicket, k.queue.map (·.ticket))) = some (7, [7])
      ∧ (oneWaits (ticketAt 7 open1)).cbu.TicketHeld 0 7 ∧ ¬(oneWaits (ticketAt 7 open1)).cbu.TicketHeld 0 8
      ∧ ((ticketAt 99 open1).cbu.group 0).map (fun k => (k.nextTicket, k.queue.length)) = some (99, 0)
      ∧ ¬(ticketAt 99 open1).cbu.TicketHeld 0 99 ∧ (ticketAt 99 open1).cbu.cabins.length ≤ 48 := by
  unfold CabinUnit.TicketHeld
  decide +kernel

theorem witness_JoinRefusals :
    (takes .cabinAssign 7 (assignBody 0x2B40#40 0) (closed open1) ∧ (closed open1).sck.day = .closed)
      ∧ (takes .cabinAssign 7 (assignBody 0x2B40#40 4) open1 ∧ takes .cabinAssign 7 (assignBody 0x2B40#40 3) open1
        ∧ open1.cbu.emptyGroup 3 = true)
      ∧ (takes .cabinAssign 7 (assignBody 0x77#40 0) open1 ∧ open1.bdr.find 0x77#40 = none)
      ∧ (takes .cabinAssign 7 (assignBody 0x2B40#40 0) quoted ∧ (quoted.bdr.find 0x2B40#40).map (·.state) = some .quoted)
      ∧ (takes .cabinAssign 7 (assignBody 0x2B40#40 0) (oneBand .barred none)
        ∧ ((oneBand .barred none).bdr.find 0x2B40#40).map (·.state) = some .barred)
      ∧ (takes .cabinAssign 7 (assignBody 0x2B40#40 0) offered
        ∧ (offered.bdr.find 0x2B40#40).map (fun r => (r.state, r.link)) = some (.inside, some (.offered 0)))
      ∧ (takes .cabinAssign 7 (assignBody 0x2B40#40 0) (fullQueue open1) ∧ 32 ≤ ((fullQueue open1).cbu.queue 0).length
        ∧ ((fullQueue open1).bdr.find 0x2B40#40).map (fun r => (r.state, r.link)) = some (.inside, none)
        ∧ (fullQueue open1).cbu.emptyGroup 0 = false)
      ∧ (tariffGroupAccess open1.liveBank stranger.cls 0 = false ∧ tariffGroupAccess open1.liveBank 1 0 = true
        ∧ (occupied.bdr.find 0x2B40#40).map (·.link) = some (some (.holding 0))
        ∧ ((oneWaits open1).bdr.find 0x51A0#40).map (·.link) = some (some (.queued 0 7)))
      ∧ (open1.flm.find 81).map (fun st => ((st.value (.flash 0)).isSome, (st.value .sounder).isSome, st.alarm))
          = some (true, true, false) := by decide +kernel

/-- R54: the join that is given ticket 99 leaves 1 as the next. -/
theorem test_ticket_99 :
    let t := after (.cabinAssign 7 (assignBody 0x2B40#40 0)) (ticketAt 99 (cabins .cleaning open1))
    t.lkc.answers.getLast? = some (doneAnswer 7 (.assigned 99 (.position 1))) ∧ (t.cbu.group 0).map (·.nextTicket) = some 1 := by
  decide +kernel

theorem witness_CabinLimitAndCleaned :
    (takes .setCabinLimit 7 (pairBody 3 120) open1 ∧ takes .setCabinLimit 7 (pairBody 3 5) open1)
      ∧ (takes .setCabinLimit 7 (pairBody 4 120) open1 ∧ takes .setCabinLimit 7 (pairBody 0 121) open1)
      ∧ (takes .cleaned 7 (byteBody 0) (cabins .cleaning open1)
        ∧ ((cabins .cleaning open1).cbu.find 0).map (fun c => (c.acting, c.group)) = some (.cleaning, 0)
        ∧ (cabins .cleaning open1).cbu.queue 0 = [])
      ∧ (takes .cleaned 7 (byteBody 0) (oneWaits (cabins .cleaning open1))
        ∧ ((oneWaits (cabins .cleaning open1)).cbu.find 0).map (fun c => (c.state, c.group, c.pendingOut)) = some (.cleaning, 0, false)
        ∧ headWaits (oneWaits (cabins .cleaning open1)) = true)
      ∧ (takes .cleaned 7 (byteBody 0) open1 ∧ (open1.cbu.find 0).map Cabin.acting ≠ some .cleaning) := by decide +kernel

theorem witness_CabinServiceTakesOutAndPutsIn :
    (takes .cabinService 7 (pairBody 0 0) occupied ∧ (occupied.cbu.find 0).map Cabin.acting = some .occupied)
      ∧ (takes .cabinService 7 (pairBody 1 1) offered ∧ (offered.cbu.find 1).map (fun c => (c.acting, c.group))
          = some (.outOfService, 0) ∧ offered.cbu.queue 0 = [])
      ∧ (takes .cabinService 7 (pairBody 1 1) (oneWaits offered) ∧ headWaits (oneWaits offered) = true
        ∧ ((oneWaits offered).cbu.find 1).map (fun c => (c.state, c.group)) = some (.outOfService, 0))
      ∧ (takes .cabinService 7 (pairBody 0 0) offered ∧ (offered.cbu.find 0).map Cabin.offeredEntry
          = some (some { band := 0x2B40#40, ticket := 40, join := 35900, misses := 0 })
        ∧ (offered.cbu.find 0).map Cabin.acting = some .offered ∧ (offered.bdr.find 0x2B40#40).isSome = true
        ∧ 0 < offered.cbu.groups.length ∧ (offered.cbu.queue 0).length < 32 ∧ offered.cbu.lowestFree 0 = none) := by
  decide +kernel

theorem witness_RestoreToFullQueue :
    takes .cabinService 7 (pairBody 0 0) (fullQueue offered)
      ∧ ((fullQueue offered).cbu.find 0).map (fun c => (c.acting, c.offeredEntry, c.group))
          = some (.offered, some { band := 0x2B40#40, ticket := 40, join := 35900, misses := 0 }, 0)
      ∧ 32 ≤ ((fullQueue offered).cbu.queue 0).length
      ∧ ((fullQueue offered).cbu.queue 0).getLast? = some { band := 0x601F#40, ticket := 32, join := 35000, misses := 0 }
      ∧ ((fullQueue offered).bdr.find 0x2B40#40).isSome = true ∧ ((fullQueue offered).bdr.find 0x601F#40).isSome = true
      ∧ (fullQueue offered).cbu.lowestFree 0 = none
      ∧ ((sending .answer (fullQueue offered)).cnu.mask.getLsbD 2 = true
        ∧ (sending .answer (fullQueue offered)).lkc.notices.length < 32
        ∧ (sending .answer (fullQueue offered)).lkc.tx ≠ .idle)
      ∧ (masked (fullQueue offered)).cnu.mask.getLsbD 2 = false := by decide +kernel

/-- R58 (c): the tail of a full queue is displaced by the restored band, and CallMissed is latched. -/
theorem test_tail_displaced :
    let t := after (.cabinServiceOut 7 (pairBody 0 0)) (fullQueue offered)
    ((t.cbu.queue 0).length, (t.cbu.queue 0).head?.map (·.band), (t.cbu.queue 0).getLast?.map (·.band))
        = (32, some 0x2B40#40, some 0x601E#40)
      ∧ (t.bdr.find 0x601F#40).map (·.link) = some none ∧ t.cnu.bits.getLsbD 2 = true := by decide +kernel

theorem witness_CabinUseAndRelease :
    (occupied.cbu.find 0).map (fun c => (c.state, c.band, c.pendingOut)) = some (.occupied, some 0x2B40#40, false)
      ∧ (occupied.bdr.find 0x2B40#40).isSome = true
      ∧ ((offered.cbu.find 0).map (fun c => (c.state, c.band, c.group)) = some (.offered, some 0x2B40#40, 0)
        ∧ (record 0 0x2B40#40).state = .inside ∧ (offered.cbu.group 0).isSome = true
        ∧ (offered.bdr.find 0x2B40#40).isSome = true)
      ∧ (occupied.cbu.find 0).map (fun c => (c.state, c.entryExpiry)) = some (.occupied, some 36000)
      ∧ ((after (.entryExpiry 0) occupied).cbu.find 0).map (fun c => (c.state, c.band, c.entryExpiry))
          = some (.occupied, some 0x2B40#40, none)
      ∧ (after (.entryExpiry 0) occupied).cbu.queue 0 = []
      ∧ ((loseCabin 0 occupied).cbu.find 0).map (·.state) = some .unreachable := by decide +kernel

/-- Cabin 0 occupied by 2B40, the cabin beside it out of service, no cleaning time, and 51A0 waiting. -/
def occupiedWaited : State := noCleaning (oneWaits (withCabin 1 (fun c => { c with state := .outOfService }) occupied))

theorem witness_CabinRefusalsAndMasters :
    ((loseCabin 0 occupied).cbu.find 0).map (·.state) = some .unreachable
      ∧ ((quoted.cbu.find 0).map (·.state) = some .free ∧ (quoted.bdr.find 0x2B40#40).map (·.state) = some .quoted)
      ∧ (offered.cbu.find 1).map (·.state) = some .outOfService
      ∧ (open1.cbu.find 0).map (·.state) = some .free
      ∧ ((offered.cbu.find 0).map (fun c => (c.state, c.band)) = some (.offered, some 0x2B40#40)
        ∧ 0x2B40#40 ≠ stranger.number ∧ offered.bdr.sameParty 0x2B40#40 stranger.number = false)
      ∧ (open1.flm.find 33).map (fun st => ((st.value (.flash 0)).isSome, (st.value .sounder).isSome, (st.value (.bolt 0)).isSome,
          st.alarm)) = some (true, true, true, false)
      ∧ ((occupied.cbu.find 0).map (fun c => (c.state, c.band, c.group)) = some (.occupied, some 0x2B40#40, 0)
        ∧ (occupied.bdr.find 0x2B40#40).isSome = true ∧ (groupSetting occupied 0).cleaningTime ≠ 0)
      ∧ ((occupiedWaited.cbu.find 0).map (fun c => (c.state, c.band, c.group, c.pendingOut))
            = some (.occupied, some 0x2B40#40, 0, false)
        ∧ (groupSetting occupiedWaited 0).cleaningTime = 0 ∧ headWaits occupiedWaited = true)
      ∧ (((cabins .cleaning open1).cbu.find 0).map (fun c => (c.state, c.group)) = some (.cleaning, 0)
        ∧ (cabins .cleaning open1).cbu.queue 0 = [] ∧ headWaits (oneWaits (cabins .cleaning open1)) = true) := by decide +kernel

/-- R70: a door of an occupied cabin that closes makes door-open since absent; the event of a POLL_ANSWER reaches it. -/
theorem test_cabin_door_closes :
    ((routeEvent 33 (.doorChanged 0 false) occupied).cbu.find 0).map (fun c => (c.doorOpen, c.doorOpenSince))
      = some (false, none) := by decide +kernel

/-! ### Tariff and settlement -/

/-- A standby bank in a load state. -/
def loaded (image : List Byte) (l : LoadState) (s : State) : State := { s with tfs := { s.tfs with standby := image, load := l } }

theorem tariff_length : tariff.length = 142 := withCheckValue_length _ _ (by decide) (by decide +kernel)

theorem tariff_good : tariffImageGood tariff = true := by
  have h1 : checkValueMatches tariff 142 = true := withCheckValue_matches _ _ (by decide) (by decide +kernel)
  have h2 : tariffStructureGood tariff = true := by decide +kernel
  simp [tariffImageGood, Config.tariffBytes, h1, h2]

theorem witness_TariffLoadedAndCommitted :
    (takes .tariffLoad 7 (tariffLoadBody 141 [1]) open1 ∧ byteAt (tariffLoadBody 141 [1]) 0 = 141)
      ∧ (takes .tariffLoad 7 (tariffLoadBody 141 [1, 2]) open1 ∧ takes .tariffLoad 7 (tariffLoadBody 142 [1]) open1
        ∧ takes .tariffLoad 7 [0] open1)
      ∧ (takes .tariffCommit 7 [0] (loaded tariff .loading open1) ∧ tariffImageGood tariff = true)
      ∧ takes .tariffCommit 7 [0] (loaded tariff .empty open1)
      ∧ (takes .tariffCommit 7 [0] (loaded [] .loading open1) ∧ tariffImageGood [] = false) ∧ tariff.length = 142 :=
  ⟨by decide +kernel, by decide +kernel, ⟨by decide +kernel, tariff_good⟩, by decide +kernel, by decide +kernel, tariff_length⟩

theorem witness_TariffSwapsAndStoreWritesEnd :
    ((loaded tariff .complete open1).tfs.load = .complete ∧ (loaded tariff .complete open1).sck.counter < 86400)
      ∧ (open1.tfs.load ≠ .complete ∧ open1.sck.counter < 86400)
      ∧ (atSecond 86399 (loaded tariff .complete open1)).sck.counter < 86400 := by decide +kernel

theorem witness_TariffAndClockReadsReport :
    takes .readTariff 7 (byteBody 0) open1 ∧ takes .readTariff 7 (byteBody 1) open1 ∧ takes .readTariff 7 (byteBody 2) open1
      ∧ (takes .quotePreview 7 (bandBody 0x2B40#40) open1 ∧ invalidBand 0x2B40#40 = false
        ∧ (open1.bdr.find 0x2B40#40).isSome = true ∧ open1.tfs.live = some tariff)
      ∧ takes .readClock 7 [0] open1 ∧ takes .identify 7 [0] State.reset :=
  ⟨by decide +kernel, by decide +kernel, by decide +kernel, ⟨by decide +kernel, by decide +kernel, by decide +kernel, rfl⟩,
    by decide +kernel, by decide +kernel⟩

theorem witness_SettlementChargesByTheRules :
    ((settlementWorking tariff false 499 (record 0 1)).minute < (record 0 1).entryMinute)
      ∧ (record 0 1).entryMinute ≤ (settlementWorking tariff false 500 (record 0 1)).minute
      ∧ (record 0 1).paidMinutes + tariffGrace tariff 1 < (settlementWorking tariff false 631 (record 0 1)).stay
      ∧ ((settlementWorking tariff false 631 (record 0 1)).units = 1 ∧ 0 < tariffBandCount tariff
        ∧ tariffStart tariff 0 ≤ 500 + 120 + tariffGrace tariff 1 + 0 * tariffUnit tariff 1
        ∧ ∀ k, 0 < k → k < tariffBandCount tariff →
            500 + 120 + tariffGrace tariff 1 + 0 * tariffUnit tariff 1 < tariffStart tariff k)
      ∧ (settlementWorking tariff false 630 (record 0 1)).stay = (record 0 1).paidMinutes + tariffGrace tariff 1
      ∧ tariffUnit tariff 1 = 15 ∧ (settlementWorking tariff false 631 (record 0 1)).overstay = 1 := by
  refine ⟨by decide +kernel, by decide +kernel, by decide +kernel,
    ⟨by decide +kernel, by decide +kernel, by decide +kernel, fun k h0 h => ?_⟩, by decide +kernel, by decide +kernel,
    by decide +kernel⟩
  have h3 : tariffBandCount tariff = 3 := by decide +kernel
  have hk : k = 1 ∨ k = 2 := by omega
  rcases hk with rfl | rfl <;> decide +kernel

theorem witness_TotalsRoundedHalfUp : 8 ≤ 1928 % 16 ∧ 1927 % 16 ≤ 7 ∧ 1 ≤ 7 ∧ 188675265 ≤ 188740800 := by decide

/-! ### Exit lanes -/

/-- Lane 0 Passing until the present second. -/
def passing : State :=
  withLane 0 (fun e => { e with state := .passing, band := some 0x2B40#40, cause := some .paid, passExpiry := some 36000 }) open1

theorem witness_LaneInsertionsAndEvents :
    ((open1.xlu.find 0).map (·.state) = some .idle ∧ open1.bdr.find 0x2B40#40 = some (record 0 0x2B40#40)
      ∧ open1.tfs.live = some tariff
      ∧ settlementCharge tariff (settlementWorking tariff false 600 (record 0 0x2B40#40)) (record 0 0x2B40#40) = 0)
      ∧ settlementCharge tariff (settlementWorking tariff false 600 { record 0 0x2B40#40 with overstay := 7 })
          { record 0 0x2B40#40 with overstay := 7 } = 11
      ∧ ((passing.xlu.find 0).map (·.state) = some .passing ∧ passing.cnu.mask.getLsbD 4 = true
        ∧ (sending .answer passing).lkc.tx ≠ .idle ∧ (sending .answer passing).lkc.notices.length < 32)
      ∧ (masked open1).xlu.find 0 = open1.xlu.find 0 :=
  ⟨⟨by decide +kernel, by decide +kernel, rfl, by decide +kernel⟩, by decide +kernel, by decide +kernel, by decide +kernel⟩

theorem witness_LaneRefusalsAndMaster :
    ((quoted.xlu.find 0).map (·.state) = some .holding ∧ ((loseLane 0 open1).xlu.find 0).map (·.state) = some .unreachable)
      ∧ (passing.xlu.find 0).map (·.state) = some .passing ∧ (open1.xlu.find 0).map (·.state) = some .idle
      ∧ ({ record 0 0x2B40#40 with lockers := [3] }).lockers = 3 :: []
      ∧ (occupied.bdr.find 0x2B40#40).map (fun r => (r.state, r.lockers, r.link)) = some (.inside, [], some (.holding 0))
      ∧ (open1.flm.find 85).map (fun st => ((st.value .slotAction).isSome, (st.value .standing).isSome, (st.value .gate).isSome,
          (st.value .sounder).isSome, st.alarm)) = some (true, true, true, true, false) := by decide +kernel

theorem witness_AssessmentWithdraws :
    (((oneWaits open1).xlu.find 0).map (·.state) = some .idle
      ∧ (oneWaits open1).bdr.find 0x51A0#40 = some { record 1 0x51A0#40 with link := some (.queued 0 7) })
      ∧ ((offered.xlu.find 0).map (·.state) = some .idle
        ∧ offered.bdr.find 0x2B40#40 = some { record 0 0x2B40#40 with link := some (.offered 0) }
        ∧ (offered.cbu.find 0).map (fun c => (c.state, c.group)) = some (.offered, 0) ∧ offered.cbu.queue 0 = [])
      ∧ (((loseCabin 0 offered).cbu.find 0).map (·.state) = some .unreachable ∧ (loseCabin 0 offered).cbu.lowestFree 0 = none)
      ∧ (headWaits (oneWaits offered) = true ∧ (∀ x ∈ (oneWaits offered).cbu.queue 0, x.band ≠ 0x2B40#40)
        ∧ (oneWaits offered).bdr.find 0x2B40#40 = some { record 0 0x2B40#40 with link := some (.offered 0) }) := by decide +kernel

/-- The lane of the village Lost. -/
def lostLane (s : State) : State := loseLane 0 s

/-- The lane of the village, whose last quote of 2B40 expired. -/
def expiredLane : State := withLane 0 (fun e => { e with lastExpiry := some (0x2B40#40, 35999) }) open1

theorem witness_PaidSettlesAQuote :
    (takes .paid 7 (paidBody ⟨0, 0x2B40#40, 121⟩) quoted
      ∧ (quoted.xlu.find 0).map (fun e => (e.state, e.band, e.quoteAmount)) = some (.holding, some 0x2B40#40, some 121)
      ∧ (quoted.bdr.find 0x2B40#40).isSome = true)
      ∧ takes .paid 7 (paidBody ⟨0, 0x2B40#40, 120⟩) quoted
      ∧ (takes .paid 7 (paidBody ⟨0, 0x2B40#40, 121⟩) (lostLane quoted)
        ∧ ((lostLane quoted).xlu.find 0).map (fun e => (e.state, e.acting, e.quoteExpiry))
            = some (.unreachable, .holding, some 36000))
      ∧ (takes .paid 7 (paidBody ⟨0, 0x2B40#40, 121⟩) expiredLane
        ∧ (expiredLane.xlu.find 0).map (fun e => (e.acting, e.lastExpiry)) = some (.idle, some (0x2B40#40, 35999)))
      ∧ takes .paid 7 (paidBody ⟨0, 0x2B41#40, 121⟩) expiredLane := by decide +kernel

theorem witness_QuoteCancelledOrRead :
    (takes .cancelQuote 7 (byteBody 0) quoted
      ∧ (quoted.xlu.find 0).map (fun e => (e.acting, e.band, e.quoteAmount)) = some (.holding, some 0x2B40#40, some 121)
      ∧ (quoted.bdr.find 0x2B40#40).isSome = true)
      ∧ (takes .cancelQuote 7 (byteBody 0) open1 ∧ (open1.xlu.find 0).map Lane.acting = some .idle)
      ∧ takes .readLane 7 (byteBody 0) open1 := by decide +kernel

/-! ### Timers -/

/-- Locker 0 in Opening until the present second. -/
def opening : State := withLocker 0 (fun l => { l with state := .opening, openingExpiry := some 36000 }) holder

/-- Cabin 0 in Cleaning until the present second. -/
def cleaning : State := withCabin 0 (fun c => { c with state := .cleaning, cleaningExpiry := some 36000 }) open1

/-- A watch of locker 0 that expires at the present second, and one of the door's station. -/
def watched : State :=
  { open1 with
    lkc := { open1.lkc with
      watches := [{ tag := 9, target := .locker 0, states := [1], untilIn := true, expiry := 36000 }] } }

theorem witness_TimerCommandsRunTheClock :
    openingExpiryOf 0 opening = some 36000 ∧ cabinTimer 0 .offered (·.offerExpiry) offered = some 36000
      ∧ cabinTimer 0 .occupied (·.entryExpiry) occupied = some 36000
      ∧ cabinTimer 0 .cleaning (·.cleaningExpiry) cleaning = some 36000 ∧ abandonTimer 0 occupied = some 36000
      ∧ laneTimer 0 .holding (·.quoteExpiry) quoted = some 36000 ∧ laneTimer 0 .passing (·.passExpiry) passing = some 36000
      ∧ (watched.lkc.watches.find? (fun w => w.tag = 9)).map (·.expiry) = some 36000
      ∧ entryTimer 1 (timedKey (.bolt 0)) (moveLocker 0 (((opening.lmu.find 0)).getD (freshLocker ⟨8, true, .visit, 0⟩)) opening)
          = some 36000
      ∧ (openingExpiryOf 0 open1 = none ∧ cabinTimer 0 .offered (·.offerExpiry) open1 = none
        ∧ cabinTimer 0 .occupied (·.entryExpiry) open1 = none ∧ cabinTimer 0 .cleaning (·.cleaningExpiry) open1 = none
        ∧ abandonTimer 0 open1 = none ∧ laneTimer 0 .holding (·.quoteExpiry) open1 = none
        ∧ laneTimer 0 .passing (·.passExpiry) open1 = none ∧ open1.lkc.watches = []
        ∧ entryTimer 1 (timedKey (.bolt 0)) open1 = none) := by decide +kernel

theorem witness_OpeningAndLaneWindowsEnd :
    (opening.lmu.find 0).map (fun l => (l.acting, l.openingExpiry)) = some (.opening, some opening.sck.counter)
      ∧ ((quoted.xlu.find 0).map (fun e => (e.acting, e.quoteExpiry, e.band))
          = some (.holding, some quoted.sck.counter, some 0x2B40#40) ∧ (quoted.bdr.find 0x2B40#40).isSome = true)
      ∧ (passing.xlu.find 0).map (fun e => (e.acting, e.passExpiry)) = some (.passing, some passing.sck.counter) := by
  decide +kernel

theorem witness_OfferMissed :
    (offered.cbu.find 0).map (fun c => (c.state, c.offerExpiry, c.offeredEntry, c.offerMisses))
        = some (.offered, some offered.sck.counter,
            some { band := 0x2B40#40, ticket := 40, join := 35900, misses := 0 }, some 0)
      ∧ (offered.bdr.find 0x2B40#40).isSome = true ∧ 0 < offered.cbu.groups.length ∧ offered.cbu.queue 0 = []
      ∧ offered.cbu.lowestFree 0 = none
      ∧ ((withCabin 0 (fun c => { c with offerMisses := some 1 }) offered).cbu.find 0).map (·.offerMisses) = some (some 1)
      ∧ headWaits (oneWaits offered) = true := by
  decide +kernel

theorem witness_CabinTimersEnd :
    (occupied.cbu.find 0).map (fun c => (c.acting, c.entryExpiry)) = some (.occupied, some occupied.sck.counter)
      ∧ ((cleaning.cbu.find 0).map (fun c => (c.acting, c.cleaningExpiry)) = some (.cleaning, some cleaning.sck.counter)
        ∧ cleaning.cbu.queue 0 = [])
      ∧ (headWaits (oneWaits (withCabin 1 (fun c => { c with state := .occupied }) cleaning)) = true
        ∧ ((oneWaits (withCabin 1 (fun c => { c with state := .occupied }) cleaning)).cbu.find 0).map
            (fun c => (c.state, c.cleaningExpiry, c.pendingOut)) = some (.cleaning, some cleaning.sck.counter, false))
      ∧ ((occupied.cbu.find 0).map (fun c => (c.state, c.doorOpenSince, c.band, c.group))
          = some (.occupied, some 35820, some 0x2B40#40, 0)
        ∧ (35820 + (groupSetting occupied 0).abandonTime) % 86400 = occupied.sck.counter
        ∧ (occupied.bdr.find 0x2B40#40).isSome = true ∧ occupied.cbu.queue 0 = []) := by decide +kernel

/-- R62, R63: the cabin that the end of its cleaning makes Free is offered to the band that waits. -/
theorem test_cleaned_cabin_offered :
    ((after (.cleaningExpiry 0) (oneWaits (withCabin 1 (fun c => { c with state := .occupied }) cleaning))).cbu.find 0).map
        (fun c => (c.state, c.band, c.offerExpiry)) = some (.offered, some 0x51A0#40, some 36090) := by decide +kernel

/-! ### Site clock and day -/

/-- The village in a Closed day with no band. -/
def shut : State := closed (village [])

/-- A state with its day Closed and no band record. -/
def bandless (s : State) : State := closed { s with bdr := { s.bdr with bands := [] } }

theorem witness_SetClockCarriesTheTimers :
    (takes .setClock 7 (setClockBody 86399) shut ∧ shut.bdr.bands = [] ∧ shut.sck.day = .closed)
      ∧ takes .setClock 7 (setClockBody 86400) shut
      ∧ (takes .setClock 7 (setClockBody 0) open1 ∧ open1.configured = true ∧ open1.sck.day = .opened)
      ∧ 86399 < 86400
      ∧ ((moveLocker 0 (((opening.lmu.find 0)).getD (freshLocker ⟨8, true, .visit, 0⟩)) shut).flm.find 1).bind
            (fun st => st.value (timedKey (.bolt 0))) = some (.bolt (.unlockedUntil 36000))
      ∧ takes .setClock 7 (setClockBody 0)
          (moveLocker 0 (((opening.lmu.find 0)).getD (freshLocker ⟨8, true, .visit, 0⟩)) shut)
      ∧ (takes .setClock 7 (setClockBody 86399) (loaded tariff .complete shut) ∧ 86399 / 60 ≠ shut.sck.counter / 60
        ∧ (loaded tariff .complete shut).tfs.load = .complete ∧ shut.tfs.load ≠ .complete
        ∧ (∀ c ∈ shut.cbu.cabins, c.acting = .occupied → c.counter ≠ 1))
      ∧ (takes .setClock 7 (setClockBody 36059) (loaded tariff .complete shut) ∧ 36059 / 60 = shut.sck.counter / 60)
      ∧ (takes .setClock 7 (setClockBody 86399) (bandless (minutesLeft 1)) ∧ (bandless (minutesLeft 1)).bdr.bands = []
        ∧ (bandless (minutesLeft 1)).sck.day = .closed
        ∧ ((bandless (minutesLeft 1)).cbu.find 0).map (fun c => (c.state, c.counter)) = some (.occupied, 1)
        ∧ (((bandless (minutesLeft 1)).flm.find 33).bind (fun st => st.value (.bolt 0))).isSome = true) := by decide +kernel

/-- R86, R126 (c), R127: SET CLOCK into another minute brings the swap of a Complete bank; within the minute none. -/
theorem test_set_clock_boundary :
    (after (.setClock 7 (setClockBody 36060)) (loaded tariff .complete shut)).tfs.load = .empty
      ∧ (after (.setClock 7 (setClockBody 36059)) (loaded tariff .complete shut)).tfs.load = .complete := by decide +kernel

theorem witness_AdjustClockMovesTheCounter :
    (takes .adjustClock 7 (adjustBody (-300)) open1 ∧ s16At (adjustBody (-300)) 0 = -300 ∧ open1.sck.counter < 86400
      ∧ open1.sck.clockValid = true)
      ∧ (takes .adjustClock 7 (adjustBody 301) open1 ∧ s16At (adjustBody 301) 0 = 301)
      ∧ (takes .adjustClock 7 (adjustBody (-1)) (rebuild table { State.reset with sts := open1.sts })
        ∧ (rebuild table { State.reset with sts := open1.sts }).sck.counter = 0)
      ∧ takes .adjustClock 7 (adjustBody 300) (rebuild table { State.reset with sts := open1.sts })
      ∧ (takes .adjustClock 7 (adjustBody 20) (atSecond 35990 (loaded tariff .complete opening))
        ∧ 36010 / 60 ≠ (atSecond 35990 open1).sck.counter / 60
        ∧ (loaded tariff .complete opening).tfs.load = .complete
        ∧ (opening.lmu.find 0).map (fun l => (l.acting, l.openingExpiry)) = some (.opening, some 36000))
      ∧ (takes .adjustClock 7 (adjustBody 10) (atSecond 35990 opening) ∧ takes .adjustClock 7 (adjustBody 9) (atSecond 35990 opening))
      ∧ (takes .adjustClock 7 (adjustBody 10) (atSecond 35990 quoted)
        ∧ (quoted.xlu.find 0).map (fun e => (e.acting, e.quoteExpiry, e.band)) = some (.holding, some 36000, some 0x2B40#40))
      ∧ (takes .adjustClock 7 (adjustBody (-300)) (minutesLeft 3)
        ∧ ((minutesLeft 3).cbu.find 0).map (fun c => (c.acting, c.counter)) = some (.occupied, 3)
        ∧ ((minutesLeft 3).cbu.find 1).map Cabin.acting = some .free)
      ∧ takes .adjustClock 7 (adjustBody 0) (minutesLeft 3)
      ∧ ((atSecond 35998 open1).sck.counter + 1) % 60 ≠ 0 ∧ ((atSecond 35999 open1).sck.counter + 1) % 60 = 0 := by
  decide +kernel

/-- R126, R128: a clock set back by five minutes takes five minutes of an occupied cabin; set forward, it meets the timers
between. -/
theorem test_clock_adjusted :
    ((after (.adjustClock 7 (adjustBody (-300))) (minutesLeft 3)).cbu.find 0).map (fun c => (c.counter, c.overstayFlag))
        = some (-2, true)
      ∧ ((after (.adjustClock 7 (adjustBody 20)) (atSecond 35990 opening)).lmu.find 0).map (fun l => (l.state, l.openingExpiry))
        = some (.held, none) := by decide +kernel

theorem witness_DayOpensAndCloses :
    (takes .openDay 7 [0] shut ∧ shut.sck.clockValid = true ∧ shut.tfs.live.isSome = true ∧ shut.bdr.bands = [])
      ∧ (takes .openDay 7 [0] open1 ∧ open1.sck.day = .opened)
      ∧ (takes .openDay 7 [0] { shut with sck := resetClock })
      ∧ (takes .openDay 7 [0] { shut with tfs := emptyTariff neverWritten })
      ∧ (takes .openDay 7 [0] (closed open1) ∧ (closed open1).bdr.bands ≠ [])
      ∧ (takes .closeDay 7 [0] open1 ∧ takes .closeDay 7 [0] shut)
      ∧ (takes .closeDay 7 [0] (oneWaits offered)
        ∧ ((oneWaits offered).cbu.find 0).map (fun c => (c.acting, c.band)) = some (.offered, some 0x2B40#40)
        ∧ ((oneWaits offered).cbu.queue 0).map (·.band) = [0x51A0#40]
        ∧ ((oneWaits offered).bdr.find 0x51A0#40).map (·.link) = some (some (.queued 0 7)))
      ∧ (takes .closeDay 7 [0] (loseCabin 0 offered)
        ∧ ((loseCabin 0 offered).cbu.find 0).map (fun c => (c.state, c.acting)) = some (.unreachable, .offered))
      ∧ (takes .closeDay 7 [0] occupied ∧ (occupied.bdr.find 0x2B40#40).map (·.link) = some (some (.holding 0))) := by
  decide +kernel

/-- R75: CLOSE DAY withdraws the offers and clears the queues; the bands keep no link. -/
theorem test_offers_withdrawn :
    (after (.closeDay 7 [0]) (oneWaits offered)).bdr.bands.map (·.link) = [none, none] := by decide +kernel

theorem witness_PurgeClearsTheTenancy :
    (takes .purge 7 [0] (closed holder) ∧ (closed holder).sck.day = .closed
      ∧ ((closed holder).lmu.find 0).map (·.state) = some .held
      ∧ ((closed holder).lmu.find 1).map (·.state) = some .vacant ∧ ((closed holder).cbu.find 0).map Cabin.acting = some .free)
      ∧ ((closed (door0 .forced (some 0x2B40#40))).lmu.find 0).map (·.state) = some .forced
      ∧ ((lost holder).lmu.find 0).map (fun l => (l.state, l.remembered)) = some (.unreachable, some .held)
      ∧ (quoted.xlu.find 0).map Lane.acting = some .holding ∧ (occupied.cbu.find 0).map Cabin.acting = some .occupied
      ∧ ((closed holder).bdr.bands ≠ [] ∧ takes .purge 7 [0] shut ∧ shut.sck.day = .closed ∧ shut.bdr.bands = [])
      ∧ (takes .purge 7 [0] open1 ∧ open1.sck.day = .opened) := by decide +kernel

/-- R51, R135: a locker Forced without a holder before PURGE is counted with those left so. -/
theorem test_purge_counts_forced :
    (after (.purge 7 [0]) (closed (door0 .forced none))).lkc.answers.getLast?
      = some (doneAnswer 7 (.purged 1 0 0 1 0)) := by decide +kernel

/-! ### Field line -/

/-- A station of the village changed. -/
def station (a : Nat) (f : Station → Station) (s : State) : State := updateStation a f s

/-- Bank 0 Answering, with a poll in flight to it. -/
def polled : State :=
  after .poll (station 1 (fun st => { st with health := .answering, statusDue := none }) open1)

/-- Bank 0 Answering, every entry marked dirty. -/
def manyDirty : State :=
  station 1 (fun st => { st with health := .answering, statusDue := none, image := st.image.map (fun e => { e with dirty := true }) })
    open1

/-- A visit that stands after its polls. -/
def visiting (addr polls : Nat) (again : Bool) : State :=
  { open1 with flm := { open1.flm with visit := some { addr := addr, polls := polls, again := again } } }

theorem witness_PollSent :
    open1.flm.inFlight = none ∧ open1.flm.nextVisit = some { addr := 1, polls := 1, again := false }
      ∧ (open1.flm.find 1).isSome = true ∧ (open1.flm.find 1).map (·.statusDue) = some (some .clearing)
      ∧ (manyDirty.flm.inFlight = none ∧ manyDirty.flm.nextVisit = some { addr := 1, polls := 1, again := false }
        ∧ (manyDirty.flm.find 1).map (fun st => (st.health, st.statusDue)) = some (.answering, none)
        ∧ (manyDirty.flm.find 1).map (fun st => (st.image.any (fun e => e.carried), (st.image.filter (fun e => e.dirty)).length))
            = some (false, 25))
      ∧ polled.flm.inFlight.isSome = true
      ∧ (polled.flm.visit = some { addr := 1, polls := 1, again := false }
        ∧ polled.flm.nextVisit = some { addr := 33, polls := 1, again := false })
      ∧ (visiting 1 3 true).flm.nextVisit = some { addr := 1, polls := 4, again := false }
      ∧ (visiting 85 4 false).flm.nextVisit = some { addr := 1, polls := 1, again := false }
      ∧ freshStations table ≠ [] ∧ 35999 < 86400 := by decide +kernel

/-- R25, R139: the twelve entries that a poll carries, their doors under the physical indexes of a mirrored bank. -/
theorem test_twelve_carried :
    (after .poll manyDirty).flm.inFlight.map (fun p => (p.sent.length, p.sent.map (fun e => e.1)))
      = some (12, [.sounder, .bolt 7, .lamp 7, .flash 7, .bolt 6, .lamp 6, .flash 6, .bolt 5, .lamp 5, .flash 5, .bolt 4, .lamp 4]) := by decide +kernel

theorem witness_PollAnswersTaken :
    (polled.flm.inFlight.map (fun p => (p.addr, p.read)) = some (1, none)
      ∧ (polled.flm.find 1).map (·.health) = some .answering)
      ∧ (polled.flm.find 1).map (fun st => (st.lastBit, st.restartSeen)) = some (none, false)
      ∧ (polled.flm.find 1).map (fun st => (st.image.filter (·.carried)).map (·.key)) = some [.sounder]
      ∧ ((after .poll open1).flm.inFlight.map (fun p => (p.addr, p.read)) = some (1, some .clearing)
        ∧ ((after .poll open1).flm.find 1).map (·.health) = some .starting
        ∧ reportFits (.lockBank (List.replicate 8 { isOpen := false, locked := false })) (after .poll open1).table 1 = true) := by
  decide +kernel

/-- R139, R141: the event of a POLL_ANSWER reaches its owner: a claim at the reader of door 0; the same event bit again is
a repeat. -/
theorem test_answer_brings_event :
    let reply : PollReply := { event := some (.bandPresented 7 0x2B40#40, true), overrun := false, restart := false, status := none }
    ((after (.pollAnswer reply) polled).lmu.find 0).map (fun l => (l.state, l.holder)) = some (.held, some 0x2B40#40)
      ∧ ((after (.pollAnswer reply) (station 1 (fun st => { st with lastBit := some true }) polled)).lmu.find 0).map (·.state)
        = some .vacant := by decide +kernel

/-- A poll in flight to a station that has missed two answers. -/
def thirdMiss (a : Nat) (s : State) : State :=
  after .poll
    (station a (fun st => { st with missCount := 2 })
      { s with flm := { s.flm with visit := some { addr := a - 1, polls := 1, again := false } } })

theorem witness_MissedAnswersCounted :
    (polled.flm.inFlight.map (·.addr) = some 1 ∧ (polled.flm.find 1).map (·.missCount) = some 0)
      ∧ ((station 1 (fun st => { st with missCount := 2 }) polled).flm.find 1).map (fun st => (st.missCount, st.health))
          = some (2, .answering)
      ∧ (∀ b ∈ polled.lmu.banks, b.lockers.length ≤ 24)
      ∧ (kindOf 1 = .lockBank ∧ kindOf 33 = .cabinUnit ∧ kindOf 81 = .callPad ∧ kindOf 85 = .laneUnit)
      ∧ ((thirdMiss 33 occupied).flm.inFlight.map (·.addr) = some 33 ∧ (thirdMiss 81 open1).flm.inFlight.map (·.addr) = some 81
        ∧ (thirdMiss 85 quoted).flm.inFlight.map (·.addr) = some 85) := by decide +kernel

/-- R142 (c): the third miss of a cabin door unit makes its cabin Unreachable, Occupied remembered. -/
theorem test_third_miss_cabin :
    ((after (.missedAnswer .noAnswer) (thirdMiss 33 occupied)).cbu.find 0).map (fun c => (c.state, c.remembered, c.band))
      = some (.unreachable, some .occupied, some 0x2B40#40) := by decide +kernel

/-- The bolt of locker 0 unlocked until the present second. -/
def timedBolt : State :=
  { station 1 (fun st => st.write (.bolt 0) (.bolt (.unlockedUntil 36000))) open1 with
    lmu := { banks := open1.lmu.banks.map (fun b => { b with awaitingFirst := false }) } }

theorem witness_TimedEntriesExpire :
    (timedBolt.flm.find 1).bind (fun st => st.value (timedKey (.bolt 0))) = some (.bolt (.unlockedUntil 36000))
      ∧ (EntryValue.bolt (.unlockedUntil 36000)).expiry = some timedBolt.sck.counter ∧ marksWrites 1 timedBolt = true
      ∧ takes .readStation 7 (byteBody 88) open1 ∧ takes .readStation 7 (byteBody 1) open1 := by decide +kernel

/-! ### Presentations and status reads -/

/-- The village where 2B40 was last presented at a reader. -/
def seenAt (r : Reader) (x : Nat) : State := village [{ record 0 0x2B40#40 with lastPresentation := some (r, x) }]

theorem witness_PresentationsRecognised :
    (readerOf open1.table 1 7 = some ⟨1, 0⟩ ∧ readerOf open1.table 1 8 = none ∧ readerOf open1.table 33 0 = some ⟨33, 0⟩
      ∧ readerOf open1.table 81 0 = some ⟨81, 0⟩ ∧ readerOf open1.table 85 0 = some ⟨85, 0⟩)
      ∧ (open1.bdr.master 0x99#40 = some { number := 0x99#40, lastPresentation := none })
      ∧ (open1.bdr.master 0x77#40 = none ∧ open1.bdr.find 0x77#40 = none)
      ∧ (open1.bdr.master 0x2B40#40 = none ∧ open1.bdr.find 0x2B40#40 = some (record 0 0x2B40#40))
      ∧ (oneBand .barred none).bdr.find 0x2B40#40 = some { record 0 0x2B40#40 with state := .barred } := by decide +kernel

/-- A repeat 1 s after the last presentation, and a presentation at the end of the window of 2 s. -/
theorem witness_Suppressed :
    Suppressed (some (⟨33, 0⟩, 35999)) ⟨33, 0⟩ (seenAt ⟨33, 0⟩ 35999)
      ∧ ¬Suppressed (some (⟨33, 0⟩, 35998)) ⟨33, 0⟩ (seenAt ⟨33, 0⟩ 35998) := by
  refine ⟨⟨35999, rfl, by decide +kernel⟩, ?_⟩
  rintro ⟨x, hx, h⟩
  obtain rfl : 35998 = x := by simpa using hx
  revert h
  decide +kernel

/-- A status read in flight to the station at an address. -/
def readOf (addr : Nat) (s : State) : State :=
  after .poll { s with flm := { s.flm with visit := some { addr := addr - 1, polls := 1, again := false } } }

/-- Bank 0 with a status read in flight, and the same with the bank Lost. -/
def readInFlight : State := after .poll open1
def lostInFlight (s : State) : State := after .poll (station 1 (fun st => { st with health := .lost }) (lost s))

/-- The eight doors of the bank, closed and unlocked. -/
def doorsClosed : List DoorReading := List.replicate 8 { isOpen := false, locked := false }

theorem witness_StatusReadsReconcile :
    (readInFlight.flm.inFlight.map (fun p => (p.addr, p.read)) = some (1, some .clearing)
      ∧ (readInFlight.flm.find 1).map (·.health) = some .starting
      ∧ reportFits (.lockBank doorsClosed) readInFlight.table 1 = true ∧ bankDoors readInFlight.table 1 = 8
      ∧ bankMirrored readInFlight.table 1 = true ∧ (readInFlight.lmu.find 0).map (·.state) = some .vacant
      ∧ doorsClosed[7]? = some { isOpen := false, locked := false })
      ∧ ((lostInFlight holder).flm.inFlight.map (fun p => (p.addr, p.read)) = some (1, some .clearing)
        ∧ ((lostInFlight holder).flm.find 1).map (·.health) = some .lost
        ∧ ((lostInFlight holder).lmu.find 0).map (fun l => (l.state, l.remembered)) = some (.unreachable, some .held))
      ∧ ((readOf 33 occupied).flm.inFlight.map (fun p => (p.addr, p.read)) = some (33, some .clearing)
        ∧ reportFits (.cabin { isOpen := true, locked := false }) (readOf 33 occupied).table 33 = true)
      ∧ ((readOf 85 quoted).flm.inFlight.map (fun p => (p.addr, p.read)) = some (85, some .clearing)
        ∧ reportFits (.lane none false true) (readOf 85 quoted).table 85 = true)
      ∧ ((loseLane 0 quoted).xlu.find 0).map (fun e => (e.state, e.remembered)) = some (.unreachable, some .holding)
      ∧ ((loseCabin 0 occupied).cbu.find 0).map (fun c => (c.state, c.remembered)) = some (.unreachable, some .occupied) := by
  decide +kernel

/-- R47: door 0 of a mirrored bank of 8, found open at the physical index 7 while its locker is Held, is Forced. -/
theorem test_reconcile_mirrored :
    let reply : PollReply :=
      { event := none, overrun := false, restart := false
        status := some (.lockBank (doorsClosed.set 7 { isOpen := true, locked := false })) }
    ((after (.pollAnswer reply) (lostInFlight holder)).lmu.find 0).map (fun l => (l.state, l.doorOpen, l.holder))
      = some (.forced, true, some 0x2B40#40) := by decide +kernel

/-! ### Link controller, site table -/

theorem witness_ConditionsReadAndMasked :
    takes .readConditions 7 [0] open1 ∧ takes .setNoticeMask 7 (maskBody 1023) open1
      ∧ takes .setNoticeMask 7 (maskBody 1024) open1
      ∧ (masked open1).cnu.mask.getLsbD (NoticeContent.service 0 400).cls.code = false
      ∧ open1.cnu.mask.getLsbD (NoticeContent.service 0 400).cls.code = true := by decide +kernel

/-- WATCH of locker 0 until in Held, and until in Vacant, for 3,600 s. -/
def untilHeld : List Byte := watchBody ⟨0, 0, 0, 3600, [1]⟩
def untilVacant : List Byte := watchBody ⟨0, 0, 0, 1, [0]⟩

/-- Four watches open. -/
def fourWatches : State :=
  { open1 with
    lkc := { open1.lkc with
      watches := [1#8, 2#8, 3#8, 4#8].map
        (fun t => { tag := t, target := .lane 0, states := [2], untilIn := true, expiry := 40000 }) } }

theorem witness_WatchesOpenedAndClosed :
    (takes .watch 9 untilHeld open1 ∧ targetOf 0 0 open1 = some (.locker 0)
      ∧ (watchArgs untilHeld).outOfRange (.locker 0) = false ∧ open1.lkc.watching 9 = false
      ∧ (watchArgs untilHeld).states.contains (targetCode (.locker 0) open1) = false ∧ open1.lkc.watches.length < 4)
      ∧ (takes .watch 9 untilHeld watched ∧ watched.lkc.watching 9 = true)
      ∧ (takes .watch 9 untilVacant open1
        ∧ (watchArgs untilVacant).states.contains (targetCode (.locker 0) open1)
            = decide ((watchArgs untilVacant).polarity = 0))
      ∧ (takes .watch 9 untilHeld fourWatches ∧ 4 ≤ fourWatches.lkc.watches.length ∧ fourWatches.lkc.watching 9 = false)
      ∧ (takes .cancelWatch 7 [9] watched ∧ (watched.lkc.watches.find? (fun x => x.tag = 9)).isSome = true)
      ∧ (takes .cancelWatch 7 [8] watched ∧ watched.lkc.watches.find? (fun x => x.tag = 8) = none)
      ∧ (watched.lkc.watches.find? (fun x => x.tag = 9)).map (·.expiry) = some watched.sck.counter := by decide +kernel

/-- Locker 0 in Opening until the present second, with a watch of it until it is in Held. -/
def openingWatched : State := { opening with lkc := watched.lkc }

theorem witness_ChangesMeetWatches :
    ((open1.lmu.find 0).isSome = true ∧ (open1.cbu.find 0).isSome = true ∧ (open1.xlu.find 0).isSome = true
      ∧ (open1.flm.find 1).isSome = true)
      ∧ ((openingWatched.lmu.find 0).map (fun l => (l.state, l.holder, l.openingExpiry))
          = some (.opening, some 0x2B40#40, some openingWatched.sck.counter)
        ∧ (∃ w ∈ openingWatched.lkc.watches, w.target = .locker 0 ∧ w.meets LockerState.held.code = true)) := by
  decide +kernel

/-- R161: the end of the opening window answers the watch, with the state reached and the second. -/
theorem test_watch_met :
    (after (.openingExpiry 0) openingWatched).lkc.answers
      = [{ tag := 9, code := .done, clamped := false, body := .watchMet LockerState.held.code 36000 }] := by decide +kernel

/-- A site image of one bank of 8 doors and one lane that passes R168. -/
def siteImage : List Byte :=
  withCheckValue
    (writeSegment (writeSegment (List.replicate 346 0) 0 ([0x24, 0x0A, 1, 0, 1, 0, 1, 0] ++ [8, 2, 0, 0])) 16 [8, 0, 0]) 346

/-- A part that is Unconfigured, with a staging area. -/
def staged (image : List Byte) : State := { State.reset with sts := { State.reset.sts with staging := image } }

theorem siteImage_good : siteImageGood siteImage = true := by
  have h1 : checkValueMatches siteImage 346 = true := withCheckValue_matches _ _ (by decide) (by decide +kernel)
  have h2 : siteStructureGood siteImage = true := by decide +kernel
  simp [siteImageGood, Config.siteBytes, h1, h2]

theorem witness_SiteLoadedAndCommitted :
    (takes .siteLoad 7 (siteLoadBody 345 [1]) State.reset ∧ State.reset.configured = false)
      ∧ (takes .siteLoad 7 (siteLoadBody 0 [1]) open1 ∧ open1.configured = true ∧ open1.sck.day = .opened)
      ∧ (takes .siteLoad 7 (siteLoadBody 346 [1]) State.reset ∧ takes .siteLoad 7 (siteLoadBody 345 [1, 2]) State.reset)
      ∧ (takes .siteCommit 7 [0] (staged siteImage) ∧ siteImageGood (staged siteImage).sts.staging = true)
      ∧ (takes .siteCommit 7 [0] (staged []) ∧ siteImageGood (staged []).sts.staging = false) :=
  ⟨by decide +kernel, by decide +kernel, by decide +kernel, ⟨by decide +kernel, siteImage_good⟩, by decide +kernel⟩

/-- The village with both copies of its store good. -/
def kept : State :=
  { open1 with
    sts := { open1.sts with store := { bytes := siteImage, writing := false } }
    tfs := { open1.tfs with store := { bytes := tariff, writing := false } } }

theorem witness_ColdResetStartsAfresh :
    (kept.sts.store.writing = false ∧ siteImageGood kept.sts.store.bytes = true)
      ∧ (kept.tfs.store.writing = false ∧ tariffImageGood kept.tfs.store.bytes = true)
      ∧ siteImageGood open1.sts.store.bytes = false ∧ tariffImageGood open1.tfs.store.bytes = false :=
  ⟨⟨rfl, siteImage_good⟩, ⟨rfl, tariff_good⟩, by decide +kernel, by decide +kernel⟩

end Sys2Proof.Tests
end

/-! The band table through every operation (R1): the slots and numbers of its records. -/
namespace Sys2Proof.Machine

/-! ## The slots and numbers of the records -/

/-- The slot and the number of every record, in the table's order. -/
def BandRegister.keys (r : BandRegister) : List (Nat × BandNo) := r.bands.map (fun x => (x.slot, x.number))

/-- R1 of a list of slots and numbers. -/
def KeysGood (k : List (Nat × BandNo)) : Prop :=
  k.length ≤ 2048 ∧ (k.map (·.2)).Nodup ∧ (k.map (·.1)).Pairwise (· < ·)

theorem bandTableGood_iff (s : State) : BandTableGood s ↔ KeysGood s.bdr.keys := by
  simp [BandTableGood, KeysGood, BandRegister.keys, Function.comp_def]

theorem KeysGood.sublist {k l : List (Nat × BandNo)} (h : KeysGood l) (hs : k.Sublist l) : KeysGood k := by
  obtain ⟨hlen, hnum, hslot⟩ := h
  exact ⟨hs.length_le.trans hlen, hnum.sublist (hs.map _), hslot.sublist (hs.map _)⟩

/-- A band table whose records are among those of a good one is good. -/
theorem BandTableGood.of_sublist {s t : State} (h : BandTableGood s) (hs : t.bdr.keys.Sublist s.bdr.keys) :
    BandTableGood t :=
  (bandTableGood_iff t).mpr (((bandTableGood_iff s).mp h).sublist hs)

@[simp] theorem BandRegister.keys_update (r : BandRegister) (b : BandNo) (f : BandRecord → BandRecord)
    (hs : ∀ x, (f x).slot = x.slot) (hn : ∀ x, (f x).number = x.number) : (r.update b f).keys = r.keys := by
  simp only [BandRegister.keys, BandRegister.update, List.map_map]
  refine List.map_congr_left fun x _ => ?_
  by_cases hx : x.number = b <;> simp [hx, hs, hn]

theorem BandRegister.keys_free (r : BandRegister) (b : BandNo) : (r.free b).keys.Sublist r.keys := by
  simpa [BandRegister.free, BandRegister.keys, BandRegister.leaveParty] using List.filter_sublist.map _

/-! ## Folds -/

theorem foldl_keys {α : Type} (f : State → α → State) (l : List α) (s : State)
    (h : ∀ t a, (f t a).bdr.keys = t.bdr.keys) : (l.foldl f s).bdr.keys = s.bdr.keys := by
  induction l generalizing s with
  | nil => rfl
  | cons a l ih => simp [ih, h]

theorem overCabins_keys (f : Nat → State → State) (s : State) (h : ∀ n t, (f n t).bdr.keys = t.bdr.keys) :
    (overCabins f s).bdr.keys = s.bdr.keys := foldl_keys _ _ _ fun t n => h n t

theorem overGroups_keys (f : Nat → State → State) (s : State) (h : ∀ n t, (f n t).bdr.keys = t.bdr.keys) :
    (overGroups f s).bdr.keys = s.bdr.keys := foldl_keys _ _ _ fun t n => h n t

theorem overLanes_keys (f : Nat → State → State) (s : State) (h : ∀ n t, (f n t).bdr.keys = t.bdr.keys) :
    (overLanes f s).bdr.keys = s.bdr.keys := foldl_keys _ _ _ fun t n => h n t

theorem overBank_keys (b : Nat) (f : State → Nat → State) (s : State) (h : ∀ t n, (f t n).bdr.keys = t.bdr.keys) :
    (overBank b f s).bdr.keys = s.bdr.keys := foldl_keys _ _ _ h

/-! ## Cabins -/

@[simp] theorem dropLocker_keys (holder : Option BandNo) (n : Nat) (s : State) :
    (dropLocker holder n s).bdr.keys = s.bdr.keys := by unfold dropLocker; split <;> simp

@[simp] theorem appendEntry_keys (g : Nat) (e : QueueEntry) (s : State) :
    (appendEntry g e s).bdr.keys = s.bdr.keys := by simp [appendEntry]

@[simp] theorem joinQueue_keys (g : Nat) (b : BandNo) (s : State) : (joinQueue g b s).bdr.keys = s.bdr.keys := by
  simp [joinQueue]

@[simp] theorem displaceTail_keys (g : Nat) (announce : Bool) (s : State) :
    (displaceTail g announce s).bdr.keys = s.bdr.keys := by
  unfold displaceTail; (repeat' split) <;> simp

@[simp] theorem restoreHead_keys (g : Nat) (e : QueueEntry) (announce : Bool) (s : State) :
    (restoreHead g e announce s).bdr.keys = s.bdr.keys := by simp [restoreHead]

@[simp] theorem makeOffer_keys (g n : Nat) (e : QueueEntry) (s : State) : (makeOffer g n e s).bdr.keys = s.bdr.keys := by
  unfold makeOffer; split <;> simp

@[simp] theorem allocateUpTo_keys (k g : Nat) (s : State) : (allocateUpTo k g s).bdr.keys = s.bdr.keys := by
  induction k generalizing s with
  | zero => rfl
  | succ k ih => unfold allocateUpTo; split <;> simp [ih]

@[simp] theorem allocate_keys (g : Nat) (s : State) : (allocate g s).bdr.keys = s.bdr.keys := allocateUpTo_keys _ g s

@[simp] theorem withdrawBand_keys (b : BandNo) (s : State) : (withdrawBand b s).bdr.keys = s.bdr.keys := by
  unfold withdrawBand; (repeat' split) <;> simp

@[simp] theorem acceptOffer_keys (n : Nat) (c : Cabin) (s : State) : (acceptOffer n c s).bdr.keys = s.bdr.keys := by
  unfold acceptOffer; cases c.band <;> simp

@[simp] theorem releaseCabin_keys (n : Nat) (c : Cabin) (s : State) : (releaseCabin n c s).bdr.keys = s.bdr.keys := by
  unfold releaseCabin; cases c.band <;> simp

@[simp] theorem allocateIfFree_keys (n : Nat) (s : State) : (allocateIfFree n s).bdr.keys = s.bdr.keys := by
  unfold allocateIfFree; (repeat' split) <;> simp

@[simp] theorem presentAtPad_keys (g : Nat) (r : BandRecord) (s : State) : (presentAtPad g r s).bdr.keys = s.bdr.keys := by
  unfold presentAtPad; (repeat' split) <;> simp

@[simp] theorem presentAtCabin_keys (n : Nat) (r : BandRecord) (s : State) :
    (presentAtCabin n r s).bdr.keys = s.bdr.keys := by
  unfold presentAtCabin; (repeat' split) <;> simp

@[simp] theorem masterAtCabin_keys (n : Nat) (s : State) : (masterAtCabin n s).bdr.keys = s.bdr.keys := by
  unfold masterAtCabin; (repeat' split) <;> simp

@[simp] theorem missOffer_keys (n : Nat) (c : Cabin) (e : QueueEntry) (s : State) :
    (missOffer n c e s).bdr.keys = s.bdr.keys := by
  unfold missOffer; simp; split <;> simp

@[simp] theorem takeOfferExpiry_keys (n : Nat) (s : State) : (takeOfferExpiry n s).bdr.keys = s.bdr.keys := by
  unfold takeOfferExpiry; (repeat' split) <;> simp

@[simp] theorem takeCleaningExpiry_keys (n : Nat) (s : State) : (takeCleaningExpiry n s).bdr.keys = s.bdr.keys := by
  unfold takeCleaningExpiry; (repeat' split) <;> simp

@[simp] theorem takeAbandonment_keys (n : Nat) (s : State) : (takeAbandonment n s).bdr.keys = s.bdr.keys := by
  unfold takeAbandonment; (repeat' split) <;> simp [abandonCabin]

@[simp] theorem emptyQueue_keys (g : Nat) (s : State) : (emptyQueue g s).bdr.keys = s.bdr.keys := by
  simp [emptyQueue, foldl_keys]

@[simp] theorem closeOffer_keys (n : Nat) (s : State) : (closeOffer n s).bdr.keys = s.bdr.keys := by
  unfold closeOffer; (repeat' split) <;> simp

@[simp] theorem closeCabins_keys (s : State) : (closeCabins s).bdr.keys = s.bdr.keys := by
  simp [closeCabins, overGroups_keys, overCabins_keys]

@[simp] theorem regainCabin_keys (n : Nat) (door : DoorReading) (s : State) :
    (regainCabin n door s).bdr.keys = s.bdr.keys := by simp [regainCabin]

@[simp] theorem unwindOffer_keys (n : Nat) (s : State) : (unwindOffer n s).bdr.keys = s.bdr.keys := by
  unfold unwindOffer; (repeat' split) <;> simp

@[simp] theorem unwindGroup_keys (g : Nat) (s : State) : (unwindGroup g s).bdr.keys = s.bdr.keys := by
  unfold unwindGroup; exact foldl_keys _ _ _ fun t x => by simp

@[simp] theorem warmCabins_keys (s : State) : (warmCabins s).bdr.keys = s.bdr.keys := by
  simp [warmCabins, restoreOffers, overGroups_keys]

@[simp] theorem cabinAssign_keys (b : BandNo) (g : Nat) (s : State) : (cabinAssign b g s).1.bdr.keys = s.bdr.keys := by
  unfold cabinAssign; (repeat' split) <;> simp [refused, done]

@[simp] theorem cleaned_keys (n : Nat) (s : State) : (cleaned n s).1.bdr.keys = s.bdr.keys := by
  unfold cleaned; (repeat' split) <;> simp [refused, done]

@[simp] theorem cabinOut_keys (n : Nat) (c : Cabin) (s : State) : (cabinOut n c s).bdr.keys = s.bdr.keys := by
  unfold cabinOut; (repeat' split) <;> simp

@[simp] theorem cabinIn_keys (n : Nat) (c : Cabin) (s : State) : (cabinIn n c s).bdr.keys = s.bdr.keys := by
  unfold cabinIn; split <;> simp

@[simp] theorem cabinService_keys (n d : Nat) (s : State) : (cabinService n d s).1.bdr.keys = s.bdr.keys := by
  unfold cabinService; (repeat' split) <;> simp [refused, done]

/-! ## Lockers -/

@[simp] theorem vacate_keys (n : Nat) (l : Locker) (s : State) : (vacate n l s).bdr.keys = s.bdr.keys := by
  simp [vacate]

@[simp] theorem claimLocker_keys (n : Nat) (l : Locker) (b : BandNo) (s : State) :
    (claimLocker n l b s).bdr.keys = s.bdr.keys := by
  unfold claimLocker; dsimp only; split <;> simp

@[simp] theorem openedInWindow_keys (n : Nat) (l : Locker) (s : State) : (openedInWindow n l s).bdr.keys = s.bdr.keys := by
  unfold openedInWindow; (repeat' split) <;> simp

@[simp] theorem clearLocker_keys (n : Nat) (l : Locker) (s : State) : (clearLocker n l s).bdr.keys = s.bdr.keys := by
  unfold clearLocker; (repeat' split) <;> simp

@[simp] theorem presentAtLocker_keys (n : Nat) (r : BandRecord) (s : State) :
    (presentAtLocker n r s).bdr.keys = s.bdr.keys := by
  unfold presentAtLocker; (repeat' split) <;> simp

@[simp] theorem masterAtLocker_keys (n : Nat) (s : State) : (masterAtLocker n s).bdr.keys = s.bdr.keys := by
  unfold masterAtLocker; (repeat' split) <;> simp

@[simp] theorem lockerDoorEvent_keys (n : Nat) (isOpen : Bool) (s : State) :
    (lockerDoorEvent n isOpen s).bdr.keys = s.bdr.keys := by
  unfold lockerDoorEvent; dsimp only; (repeat' split) <;> simp

@[simp] theorem releaseLocker_keys (n : Nat) (s : State) : (releaseLocker n s).1.bdr.keys = s.bdr.keys := by
  unfold releaseLocker; (repeat' split) <;> simp [refused, done]

@[simp] theorem clearForced_keys (n : Nat) (s : State) : (clearForced n s).1.bdr.keys = s.bdr.keys := by
  unfold clearForced; (repeat' split) <;> simp [refused, done]

@[simp] theorem treatLocker_keys (n : Nat) (l : Locker) (s : State) : (treatLocker n l s).bdr.keys = s.bdr.keys := by
  unfold treatLocker; (repeat' split) <;> simp

@[simp] theorem reconcileBank_keys (b : Nat) (doors : List DoorReading) (s : State) :
    (reconcileBank b doors s).bdr.keys = s.bdr.keys := by
  have hone : ∀ t n, (reconcileLocker doors t n).bdr.keys = t.bdr.keys := fun t n => by
    unfold reconcileLocker; split <;> simp
  simp [reconcileBank, overBank_keys, hone]

@[simp] theorem regainBank_keys (b : Nat) (doors : List DoorReading) (s : State) :
    (regainBank b doors s).bdr.keys = s.bdr.keys := by simp [regainBank]

@[simp] theorem purgeLocker_keys (s : State) (n : Nat) : (purgeLocker s n).bdr.keys = s.bdr.keys := by
  unfold purgeLocker; (repeat' split) <;> simp

/-! ## Lanes -/

@[simp] theorem quoteBand_keys (l : Nat) (e : Lane) (b : BandNo) (amount : Nat) (w : Working) (s : State) :
    (quoteBand l e b amount w s).bdr.keys = s.bdr.keys := by simp [quoteBand]

@[simp] theorem unquote_keys (b : Option BandNo) (s : State) : (unquote b s).bdr.keys = s.bdr.keys := by
  unfold unquote; split <;> simp

@[simp] theorem endQuote_keys (l : Nat) (e : Lane) (last : Option (BandNo × Nat)) (s : State) :
    (endQuote l e last s).bdr.keys = s.bdr.keys := by simp [endQuote]

@[simp] theorem giveBackQuote_keys (l : Nat) (e : Lane) (last : Option (BandNo × Nat)) (s : State) :
    (giveBackQuote l e last s).bdr.keys = s.bdr.keys := by
  unfold giveBackQuote; dsimp only; split <;> simp

@[simp] theorem takeQuoteExpiry_keys (l : Nat) (s : State) : (takeQuoteExpiry l s).bdr.keys = s.bdr.keys := by
  unfold takeQuoteExpiry; (repeat' split) <;> simp

@[simp] theorem cancelQuote_keys (l : Nat) (s : State) : (cancelQuote l s).1.bdr.keys = s.bdr.keys := by
  unfold cancelQuote; (repeat' split) <;> simp [refused, done]

@[simp] theorem regainLane_keys (l : Nat) (slot : Option BandNo) (s : State) :
    (regainLane l slot s).bdr.keys = s.bdr.keys := by
  unfold regainLane; split
  · rfl
  · dsimp only; simp; split <;> simp

@[simp] theorem reconcileLane_keys (l : Nat) (slot : Option BandNo) (s : State) :
    (reconcileLane l slot s).bdr.keys = s.bdr.keys := by
  unfold reconcileLane; dsimp only; (repeat' split) <;> simp

@[simp] theorem unwindQuote_keys (l : Nat) (s : State) : (unwindQuote l s).bdr.keys = s.bdr.keys := by
  unfold unwindQuote; (repeat' split) <;> simp

theorem collectBand_keys (l : Nat) (e : Lane) (b : BandNo) (cause : PassCause) (s : State) :
    (collectBand l e b cause s).bdr.keys.Sublist s.bdr.keys := by
  simpa [collectBand] using s.bdr.keys_free b

theorem assessBand_keys (l : Nat) (e : Lane) (r : BandRecord) (s : State) :
    (assessBand l e r s).bdr.keys.Sublist s.bdr.keys := by
  unfold assessBand
  dsimp only
  split
  · simpa using collectBand_keys l { e with lastExpiry := none } r.number .collected (withdrawBand r.number s)
  · simp

theorem insertAtIdle_keys (l : Nat) (e : Lane) (b : BandNo) (seen : Recognised) (s : State) :
    (insertAtIdle l e b seen s).bdr.keys.Sublist s.bdr.keys := by
  unfold insertAtIdle; (repeat' split) <;> simp [assessBand_keys]

theorem insertBand_keys (l : Nat) (b : BandNo) (seen : Recognised) (s : State) :
    (insertBand l b seen s).bdr.keys.Sublist s.bdr.keys := by
  unfold insertBand
  (repeat' split) <;> simp
  simpa using insertAtIdle_keys l _ b seen (putLane l _ s)

theorem paid_keys (a : PaidArgs) (s : State) : (paid a s).1.bdr.keys.Sublist s.bdr.keys := by
  unfold paid paidAgainst; dsimp only; (repeat' split) <;> simp [refused, done, collectBand_keys]

/-! ## Presentations, events and answers -/

@[simp] theorem BandRegister.keys_stampMaster (r : BandRegister) (b : BandNo) (reader : Reader) (stamp : Nat) :
    (r.stampMaster b reader stamp).keys = r.keys := rfl

@[simp] theorem recognise_keys (reader : Reader) (b : BandNo) (s : State) : (recognise reader b s).1.bdr.keys = s.bdr.keys := by
  unfold recognise; (repeat' split) <;> simp

theorem presentAt_keys (reader : Reader) (b : BandNo) (master : State → State) (band : BandRecord → State → State) (s : State)
    (hm : ∀ t, (master t).bdr.keys = t.bdr.keys) (hb : ∀ r t, (band r t).bdr.keys = t.bdr.keys) :
    (presentAt reader b master band s).bdr.keys = s.bdr.keys := by
  unfold presentAt; dsimp only; split <;> simp [hm, hb]

theorem presentAtLane_keys (l : Nat) (b : BandNo) (s : State) : (presentAtLane l b s).bdr.keys.Sublist s.bdr.keys := by
  unfold presentAtLane; dsimp only; split
  · simp
  · exact (insertBand_keys _ _ _ _).trans (by simp)

theorem routeEvent_keys (addr : Nat) (ev : StationEvent) (s : State) :
    (routeEvent addr ev s).bdr.keys.Sublist s.bdr.keys := by
  unfold routeEvent
  split
  case h_1 => cases ev <;> simp only [bankEvent] <;> (try split) <;> simp [presentAt_keys]
  case h_2 => cases ev <;> simp [cabinEvent, presentAt_keys]
  case h_3 => cases ev <;> simp [padEvent, presentAt_keys]
  case h_4 => cases ev <;> simp [laneEvent, presentAtLane_keys]

theorem takeEvent_keys (addr : Nat) (event : Option (StationEvent × Bool)) (s : State) :
    (takeEvent addr event s).bdr.keys.Sublist s.bdr.keys := by
  unfold takeEvent
  (repeat' split)
  · simp
  · simp
  · exact (routeEvent_keys _ _ _).trans (by simp)

@[simp] theorem reconcileOwner_keys (addr : Nat) (r : StatusReport) (s : State) :
    (reconcileOwner addr r s).bdr.keys = s.bdr.keys := by cases r <;> simp [reconcileOwner]

@[simp] theorem regainOwner_keys (addr : Nat) (r : StatusReport) (s : State) :
    (regainOwner addr r s).bdr.keys = s.bdr.keys := by cases r <;> simp [regainOwner]

@[simp] theorem takeStatusOf_keys (addr : Nat) (r : Option StatusReport) (s : State) :
    (takeStatusOf addr r s).bdr.keys = s.bdr.keys := by cases r <;> simp [takeStatusOf, takeStatus]

@[simp] theorem regainStation_keys (addr : Nat) (r : StatusReport) (s : State) :
    (regainStation addr r s).bdr.keys = s.bdr.keys := by simp [regainStation]

theorem goodAnswer_keys (p : Poll) (reply : PollReply) (status : Option StatusReport) (s : State) :
    (goodAnswer p reply status s).bdr.keys.Sublist s.bdr.keys := by
  unfold goodAnswer
  (repeat' split) <;> simp
  simpa [takeAnswer] using takeEvent_keys p.addr reply.event
    (takeRestart p.addr reply.restart (updateStation p.addr (fun st => st.answered (endPoll s).now) (endPoll s)))

/-! ## The band orders that add no record -/

@[simp] theorem barBand_keys (b : BandNo) (s : State) : (barBand b s).1.bdr.keys = s.bdr.keys := by
  unfold barBand; (repeat' split) <;> simp [refused, done]

theorem forgetBand_keys (b : BandNo) (s : State) : (forgetBand b s).1.bdr.keys.Sublist s.bdr.keys := by
  unfold forgetBand; (repeat' split) <;> simp [refused, done, BandRegister.keys_free]

/-! ## The clock -/

@[simp] theorem takeDue_keys (s : State) : (takeDue s).bdr.keys = s.bdr.keys := by
  simp [takeDue, overLanes_keys, overCabins_keys]

@[simp] theorem advanceSecond_keys (s : State) : (advanceSecond s).bdr.keys = s.bdr.keys := by
  have hclose : ∀ t, (dayLogic t).bdr.keys = t.bdr.keys := fun t => by
    unfold dayLogic; split <;> simp [closeDayWith]
  unfold advanceSecond; (repeat' split) <;> simp [hclose]

@[simp] theorem secondPasses_keys (s : State) : (secondPasses s).bdr.keys = s.bdr.keys := by simp [secondPasses]

@[simp] theorem runClock_keys (n : Nat) (s : State) : (runClock n s).bdr.keys = s.bdr.keys := by
  induction n generalizing s with
  | zero => rfl
  | succ n ih => simp [runClock, ih]

theorem runToTimer_keys (timer : Option Nat) (act : State → State) (s : State)
    (h : ∀ t, (act t).bdr.keys = t.bdr.keys) : (runToTimer timer act s).bdr.keys = s.bdr.keys := by
  cases timer <;> simp [runToTimer, h]

@[simp] theorem carryTimers_keys (f : Nat → Nat) (s : State) : (carryTimers f s).bdr.keys = s.bdr.keys := by
  simp [carryTimers, BandRegister.keys, BandRecord.carry, Function.comp_def]

@[simp] theorem setClock_keys (second : Nat) (s : State) : (setClock second s).1.bdr.keys = s.bdr.keys := by
  have hset : (clockSetTo second s).bdr.keys = s.bdr.keys := by
    unfold clockSetTo; dsimp only; split <;> simp
  unfold setClock; (repeat' split) <;> simp [refused, done, hset]

@[simp] theorem adjustForward_keys (n : Nat) (s : State) : (adjustForward n s).bdr.keys = s.bdr.keys := by
  induction n generalizing s with
  | zero => rfl
  | succ n ih => simp [adjustForward, ih]

@[simp] theorem adjustClock_keys (k : Int) (s : State) : (adjustClock k s).1.bdr.keys = s.bdr.keys := by
  have hto : ∀ second, (adjustTo second s).bdr.keys = s.bdr.keys := fun second => by
    unfold adjustTo; (repeat' split) <;> simp
  unfold adjustClock; dsimp only; (repeat' split) <;> simp [refused, done, hto]

@[simp] theorem closeDay_keys (s : State) : (closeDay s).1.bdr.keys = s.bdr.keys := by
  unfold closeDay; split <;> simp [refused, done, closeDayWith]

theorem purge_keys (s : State) : (purge s).1.bdr.keys.Sublist s.bdr.keys := by
  unfold purge
  split
  · simp [refused]
  · have hacts : (purgeActs s).bdr.keys = [] := by
      have hempty : ∀ t, (emptyBands t).bdr.keys = [] := fun t => rfl
      simp [purgeActs, purgeLockers, foldl_keys, overCabins, hempty]
    simp [done, hacts]

/-! ## The link controller and start-up -/

@[simp] theorem warmReset_keys (s : State) : (warmReset s).bdr.keys = s.bdr.keys := by
  have hown : ∀ t, (warmOwners t).bdr.keys = t.bdr.keys := fun t => by
    unfold warmOwners; split <;> simp [warmLanes, overLanes_keys]
  simp [warmReset, hown]

@[simp] theorem takeBreak_keys (s : State) : (takeBreak s).bdr.keys = s.bdr.keys := by
  unfold takeBreak; dsimp only; split <;> simp

theorem coldReset_keys (straps : BitVec 2) (s : State) : (coldReset straps s).bdr.keys = [] := by
  unfold coldReset; dsimp only; split <;> rfl

@[simp] theorem siteCommit_keys (s : State) : (siteCommit s).1.bdr.keys = s.bdr.keys := by
  unfold siteCommit; (repeat' split) <;> simp [refused, commitImage, rebuild, BandRegister.keys]

/-! ## The two orders that create a record -/

/-- The first gap of a rising list is not in it. -/
theorem firstGap_notMem (l : List Nat) (n : Nat) (h : l.Pairwise (· < ·)) (hn : ∀ x ∈ l, n ≤ x) : firstGap n l ∉ l := by
  have hge : ∀ (l : List Nat) (n : Nat), n ≤ firstGap n l := fun l => by
    induction l with
    | nil => exact fun n => le_rfl
    | cons x xs ih => intro n; unfold firstGap; split; exacts [(Nat.le_succ n).trans (ih _), le_rfl]
  induction l generalizing n with
  | nil => simp
  | cons x xs ih =>
    obtain ⟨hx, hxs⟩ := List.pairwise_cons.mp h
    unfold firstGap
    split
    · next hxn =>
      subst hxn
      have := hge xs (x + 1)
      exact List.not_mem_cons_of_ne_of_not_mem (by omega) (ih (x + 1) hxs fun y hy => hx y hy)
    · next hxn =>
      have hnx := hn x (by simp)
      intro hmem
      rcases List.mem_cons.mp hmem with h' | h'
      · exact hxn h'.symm
      · have := hx n h'; omega

theorem BandRegister.freeSlot_notMem (r : BandRegister) (h : KeysGood r.keys) : r.freeSlot ∉ r.keys.map (·.1) := by
  have hmap : r.bands.map (·.slot) = r.keys.map (·.1) := by simp [BandRegister.keys]
  rw [BandRegister.freeSlot, hmap]
  exact firstGap_notMem _ 0 h.2.2 fun x _ => Nat.zero_le x

theorem insertRecord_perm (x : BandRecord) (l : List BandRecord) : (insertRecord x l).Perm (x :: l) := by
  induction l with
  | nil => exact .refl _
  | cons y ys ih =>
    unfold insertRecord
    split
    · exact .refl _
    · exact (ih.cons y).trans (.swap x y ys)

theorem insertRecord_pairwise (x : BandRecord) (l : List BandRecord) (h : (l.map (·.slot)).Pairwise (· < ·))
    (hx : x.slot ∉ l.map (·.slot)) : ((insertRecord x l).map (·.slot)).Pairwise (· < ·) := by
  induction l with
  | nil => simp [insertRecord]
  | cons y ys ih =>
    obtain ⟨hy, hys⟩ := List.pairwise_cons.mp h
    obtain ⟨hxy, hxs⟩ := List.ne_and_not_mem_of_not_mem_cons hx
    unfold insertRecord
    split
    · next hlt =>
      refine List.pairwise_cons.mpr ⟨fun z hz => ?_, h⟩
      rcases List.mem_cons.mp hz with rfl | hz
      · exact hlt
      · exact hlt.trans (hy z hz)
    · next hlt =>
      refine List.pairwise_cons.mpr ⟨fun z hz => ?_, ih hys hxs⟩
      rcases List.mem_cons.mp (((insertRecord_perm x ys).map _).mem_iff.mp hz) with rfl | hz
      · dsimp only at hxy hlt ⊢; omega
      · exact hy z hz

/-- A record of a new number in an unused slot leaves the table good while it has room (R1). -/
theorem BandRegister.keysGood_add (r : BandRegister) (x : BandRecord) (h : KeysGood r.keys) (hlen : r.bands.length < 2048)
    (hn : r.find x.number = none) (hs : x.slot ∉ r.keys.map (·.1)) : KeysGood (r.add x).keys := by
  obtain ⟨-, hnum, hslot⟩ := h
  have hp := insertRecord_perm x r.bands
  have hmap : r.keys.map (·.1) = r.bands.map (·.slot) := by simp [BandRegister.keys]
  refine ⟨?_, ?_, ?_⟩
  · simpa [BandRegister.keys, BandRegister.add, hp.length_eq] using hlen
  · have hnew : ∀ y ∈ r.bands, y.number ≠ x.number := by simpa [BandRegister.find] using hn
    have hnum' : (r.bands.map (·.number)).Nodup := by simpa [BandRegister.keys, Function.comp_def] using hnum
    have : ((x :: r.bands).map (·.number)).Nodup :=
      List.nodup_cons.mpr ⟨fun hm => by obtain ⟨y, hy, hyx⟩ := List.mem_map.mp hm; exact hnew y hy hyx, hnum'⟩
    simpa [BandRegister.keys, BandRegister.add, Function.comp_def] using (hp.map _).nodup_iff.mpr this
  · rw [hmap] at hslot hs
    simpa [BandRegister.keys, BandRegister.add, Function.comp_def] using insertRecord_pairwise x r.bands hslot hs

theorem issueBand_bandTable (a : IssueArgs) (s : State) (h : BandTableGood s) : BandTableGood (issueBand a s).1 := by
  have hadd : ∀ r : BandRegister, r.bands = s.bdr.bands → s.bdr.find a.band = none → s.bdr.bands.length < 2048 →
      ∀ minute party, BandTableGood { s with bdr := r.add (issuedRecord a s.bdr.freeSlot minute party) } :=
    fun r hr hf hl minute party => by
      have hk : r.keys = s.bdr.keys := by simp [BandRegister.keys, hr]
      rw [bandTableGood_iff] at h ⊢
      refine r.keysGood_add _ (hk ▸ h) (hr ▸ hl) ?_ (hk ▸ s.bdr.freeSlot_notMem h)
      rw [BandRegister.find, hr]; exact hf
  have hjoin : (joinParty (partyChoiceOf a.choice) a.band s.bdr).1.bands = s.bdr.bands := by
    unfold joinParty; split <;> rfl
  unfold issueBand
  dsimp only
  split; · exact h
  split; · exact h
  split; · exact h
  next hnew =>
  split; · exact h
  next hroom =>
  simp only [Bool.or_eq_true, not_or, Option.not_isSome_iff_eq_none] at hnew
  simp only [Config.maxBands, not_le] at hroom
  have hcreate := hadd _ hjoin hnew.1 hroom
  split
  · split
    · exact h
    · split
      · exact h
      · exact hcreate _ _
  · split
    · exact h
    · exact hcreate _ _
  · exact hcreate _ _

theorem BandRegister.keysGood_replace (r : BandRegister) (old : BandRecord) (new : BandNo) (h : KeysGood r.keys)
    (hnew : r.find new = none) (hlen : r.bands.length < 2048) : KeysGood (r.replace old new).keys := by
  unfold BandRegister.replace
  dsimp only
  generalize hr' : ({ r with parties := _ } : BandRegister) = r'
  have hb : r'.bands = r.bands := by rw [← hr']
  have hk : (r'.update old.number (fun x => replacedRecord x new)).keys = r.keys := by
    rw [BandRegister.keys_update r' old.number (fun x => replacedRecord x new) (fun _ => rfl) (fun _ => rfl),
      BandRegister.keys, BandRegister.keys, hb]
  have hf : (r'.update old.number (fun x => replacedRecord x new)).find new = none := by
    have hf : r'.find new = none := by rw [BandRegister.find, hb]; exact hnew
    rw [BandRegister.find_update r' old.number new (fun x => replacedRecord x new) (fun _ => rfl), hf]
    simp
  refine BandRegister.keysGood_add _ _ (hk ▸ h) ?_ hf (hk ▸ r.freeSlot_notMem h)
  rw [BandRegister.update_length, hb]; exact hlen

theorem replaceBand_bandTable (old new : BandNo) (s : State) (h : BandTableGood s) : BandTableGood (replaceBand old new s).1 := by
  have hrehold : ∀ u : State, ∀ l : List Nat, (l.foldl (rehold new) u).bdr = u.bdr := fun u l => by simp
  unfold replaceBand
  split; · exact h
  next r hr =>
  split; · exact h
  split; · exact h
  split; · exact h
  split; · exact h
  next hnew =>
  split; · exact h
  next hroom =>
  simp only [Bool.or_eq_true, not_or, Option.not_isSome_iff_eq_none] at hnew
  simp only [Config.maxBands, not_le] at hroom
  simpa [bandTableGood_iff, done, hrehold] using
    s.bdr.keysGood_replace r new ((bandTableGood_iff s).mp h) hnew.1 hroom

/-! ## The step -/

/-- An order keeps the band table good when its owner does: its dispatch and its answer leave the register alone. -/
theorem runOrder_bandTable (k : OrderKind) (tag : Byte) (body : List Byte) (owner : State → Owned) (s : State)
    (ho : ∀ u, BandTableGood u → BandTableGood (owner u).1) (h : BandTableGood s) :
    BandTableGood (runOrder k tag body owner s) := by
  have hex : ∀ u, BandTableGood u → BandTableGood (examineOrder k tag body owner u) := fun u hu => by
    unfold examineOrder settleOwned
    (repeat' split)
    · exact ho u hu
    · exact ho u hu
    · exact hu
    · exact hu
  unfold runOrder dispatchOrder
  (repeat' split)
  · exact hex _ h
  · exact h
  · exact hex _ h
  · exact h
  · exact h

/-- An order whose owner adds no record adds none. -/
theorem runOrder_keys (k : OrderKind) (tag : Byte) (body : List Byte) (owner : State → Owned) (s : State)
    (ho : ∀ u, (owner u).1.bdr.keys.Sublist u.bdr.keys) :
    (runOrder k tag body owner s).bdr.keys.Sublist s.bdr.keys := by
  have hex : ∀ u, (examineOrder k tag body owner u).bdr.keys.Sublist u.bdr.keys := fun u => by
    unfold examineOrder settleOwned
    (repeat' split) <;> simp [ho]
  unfold runOrder dispatchOrder
  (repeat' split)
  · simpa using hex (popOrder s)
  · exact .refl _
  · exact hex s
  · simp
  · exact .refl _

theorem dispatchOrder_bdr (o : OrderFrame) (act : State → State) (s : State) (h : ∀ t, (act t).bdr = t.bdr) :
    (dispatchOrder o act s).bdr = s.bdr := by
  unfold dispatchOrder; (repeat' split) <;> simp [h]

/-- Only ISSUE BAND and REPLACE BAND add a record. -/
theorem exec_keys (c : Instr) (s t : State) (ht : exec c s = .next t) (hi : ∀ tag body, c ≠ .issueBand tag body)
    (hr : ∀ tag body, c ≠ .replaceBand tag body) : t.bdr.keys.Sublist s.bdr.keys := by
  cases c
  case issueBand => exact absurd rfl (hi _ _)
  case replaceBand => exact absurd rfl (hr _ _)
  all_goals
    injection ht with ht
    subst ht
  case coldReset straps => simp [coldReset_keys]
  case unknownOrder => split <;> simp [dispatchOrder_bdr]
  case forgetBand => exact runOrder_keys _ _ _ _ _ fun u => forgetBand_keys _ u
  case purge => exact runOrder_keys _ _ _ _ _ purge_keys
  case paid => exact runOrder_keys _ _ _ _ _ fun u => paid_keys _ u
  case lockerServiceOut | lockerServiceIn | cabinServiceOut | cabinServiceIn =>
    split
    · exact .refl _
    · exact runOrder_keys _ _ _ _ _ fun u => by simp
  case pollAnswer =>
    (repeat' split)
    · exact .refl _
    · simp
    · exact goodAnswer_keys _ _ _ _
  case openingExpiry | offerExpiry | entryExpiry | cleaningExpiry | abandonment | quoteExpiry | passExpiry | watchExpiry
      | desiredEntryExpiry => simp [runToTimer_keys]
  case storeWriteEnd copy => cases copy <;> simp
  case frameReceived | frameLengthOutOfRange | byteWithoutStopBit | interByteGap | lineBreak | transmissionEnd
      | noticeHoldAsserted | noticeHoldNegated | warmReset | minuteBoundary | midnightRollover | poll | missedAnswer
      | startByteReceived | lineReturnToMark => (repeat' split) <;> simp
  all_goals exact runOrder_keys _ _ _ _ _ fun u => by simp

theorem exec_bandTable (c : Instr) (s t : State) (h : BandTableGood s) (ht : exec c s = .next t) : BandTableGood t := by
  by_cases hi : ∃ tag body, c = .issueBand tag body
  · obtain ⟨tag, body, rfl⟩ := hi
    injection ht with ht
    exact ht ▸ runOrder_bandTable _ _ _ _ _ (issueBand_bandTable _) h
  by_cases hr : ∃ tag body, c = .replaceBand tag body
  · obtain ⟨tag, body, rfl⟩ := hr
    injection ht with ht
    exact ht ▸ runOrder_bandTable _ _ _ _ _ (replaceBand_bandTable _ _) h
  exact h.of_sublist (exec_keys c s t ht (fun tag body hc => hi ⟨tag, body, hc⟩) fun tag body hc => hr ⟨tag, body, hc⟩)

/-- Settles O8: a step's records are among those before it, but for the one that ISSUE BAND and REPLACE BAND add, of a new
number in the lowest free slot. -/
theorem stepKeepsBandTable : Obligations.StepKeepsBandTable := by
  intro s t h ht
  unfold step at ht
  split at ht
  · injection ht with ht
    exact h.of_sublist (by simp [← ht])
  · next c rest _ => exact exec_bandTable c { s with pending := rest } t h ht

end Sys2Proof.Machine

/-! Rules for the proofs below: what an order's owner leaves behind, what a command leaves alone, what an entry of a station's
image holds after a write, and which lanes, lockers and cabins a sweep changes. -/
namespace Sys2Proof.Machine

/-! ## What a command leaves alone -/

/-- `KeepsAllBut`, block by block. -/
theorem keepsAllBut_iff (l : List Block) (s t : State) :
    KeepsAllBut l s t ↔
      (.pending ∈ l ∨ t.pending = s.pending) ∧ (.bdr ∈ l ∨ t.bdr = s.bdr) ∧ (.lmu ∈ l ∨ t.lmu = s.lmu)
        ∧ (.cbu ∈ l ∨ t.cbu = s.cbu) ∧ (.tfs ∈ l ∨ t.tfs = s.tfs) ∧ (.xlu ∈ l ∨ t.xlu = s.xlu) ∧ (.sck ∈ l ∨ t.sck = s.sck)
        ∧ (.sts ∈ l ∨ t.sts = s.sts) ∧ (.flm ∈ l ∨ t.flm = s.flm) ∧ (.lkc ∈ l ∨ t.lkc = s.lkc)
        ∧ (.cnu ∈ l ∨ t.cnu = s.cnu) := by
  simp only [or_iff_not_imp_left]
  constructor
  · intro h
    exact ⟨h .pending, h .bdr, h .lmu, h .cbu, h .tfs, h .xlu, h .sck, h .sts, h .flm, h .lkc, h .cnu⟩
  · rintro ⟨hpending, hbdr, hlmu, hcbu, htfs, hxlu, hsck, hsts, hflm, hlkc, hcnu⟩ b hb
    cases b with
    | pending => exact hpending hb
    | bdr => exact hbdr hb
    | lmu => exact hlmu hb
    | cbu => exact hcbu hb
    | tfs => exact htfs hb
    | xlu => exact hxlu hb
    | sck => exact hsck hb
    | sts => exact hsts hb
    | flm => exact hflm hb
    | lkc => exact hlkc hb
    | cnu => exact hcnu hb

/-! ## Band register -/

@[simp] theorem BandRegister.find_update_self (r : BandRegister) (b : BandNo) (f : BandRecord → BandRecord)
    (hf : ∀ y, (f y).number = y.number) : (r.update b f).find b = (r.find b).map f := by
  rw [BandRegister.find_update r b b f hf, if_pos rfl]

@[simp] theorem BandRegister.find_update_other (r : BandRegister) (b x : BandNo) (f : BandRecord → BandRecord)
    (hf : ∀ y, (f y).number = y.number) (h : x ≠ b) : (r.update b f).find x = r.find x := by
  rw [BandRegister.find_update r b x f hf, if_neg h]

/-- A record is found under its own number. -/
theorem BandRegister.find_number {r : BandRegister} {b : BandNo} {x : BandRecord} (h : r.find b = some x) : x.number = b := by
  simpa using List.find?_some h

/-! ## Orders -/

@[simp] theorem settleOwned_refused (tag : Byte) (c : ResultCode) (s : State) :
    settleOwned tag (refused c s) = placeAnswer (plainAnswer tag c) s := rfl

@[simp] theorem settleOwned_done (tag : Byte) (b : AnswerBody) (s : State) :
    settleOwned tag (done b s) = placeAnswer (doneAnswer tag b) s := rfl

@[simp] theorem settleOwned_some (tag : Byte) (r : Reply) (s : State) :
    settleOwned tag (s, some r) = placeAnswer (r.answer tag) s := rfl

theorem answered_placeAnswer (a : Answer) (s : State) : Answered (placeAnswer a s) a := by simp [Answered]

/-- The order that has left the buffer leaves the figures read from other fields as they were. -/
@[simp] theorem popOrder_now (s : State) : (popOrder s).now = s.now := rfl

@[simp] theorem popOrder_table (s : State) : (popOrder s).table = s.table := rfl

@[simp] theorem popOrder_liveBank (s : State) : (popOrder s).liveBank = s.liveBank := rfl

@[simp] theorem popOrder_groupSetting (s : State) (g : Nat) : groupSetting (popOrder s) g = groupSetting s g := rfl

@[simp] theorem popOrder_laneSetting (s : State) (l : Nat) : laneSetting (popOrder s) l = laneSetting s l := rfl

/-! ## The link controller -/

/-- An answer placed is begun before any notice, so no notice leaves its queue (R155 (a)). -/
@[simp] theorem LinkController.place_keeps_notices (l : LinkController) (a : Answer) : (l.place a).notices = l.notices := by
  unfold LinkController.place LinkController.start LinkController.choose
  (repeat' split) <;> simp_all

@[simp] theorem meetWhen_notices (changed : Bool) (t : Target) (code : Nat) (s : State) :
    (meetWhen changed t code s).notices = s.lkc.notices := by
  have hfold : ∀ (ws : List Watch) (k : LinkController),
      (ws.foldl (fun k w => k.place (w.doneAnswer code s.now)) k).notices = k.notices := fun ws => by
    induction ws with
    | nil => exact fun k => rfl
    | cons w ws ih => intro k; simp [ih]
  unfold meetWhen LinkController.meet
  split <;> simp [hfold]

/-- A write that does not change the state meets no watch (R161). -/
@[simp] theorem meetWhen_false (t : Target) (code : Nat) (s : State) : meetWhen false t code s = s.lkc := rfl

@[simp] theorem differs_same {α : Type} [DecidableEq α] (x : α) : differs (some x) x = false := by simp [differs]

/-- Where no watch is open, no change meets one (R161). -/
theorem meetWhen_of_no_watch (changed : Bool) (t : Target) (code : Nat) (s : State) (h : s.lkc.watches = []) :
    meetWhen changed t code s = s.lkc := by
  have hmeet : ∀ l : LinkController, l.watches = [] → l.meet t code s.now = l := fun l hl => by
    cases l; simp_all [LinkController.meet]
  unfold meetWhen
  split
  · exact hmeet _ h
  · rfl

/-- A notice raised of an enabled class, with room for it, while a frame is being sent: it waits at the tail (R156). -/
theorem LinkController.offer_notices (l : LinkController) (n : Notice) (hlen : l.notices.length < 32) (htx : l.tx ≠ .idle) :
    (l.offer n).notices = l.notices ++ [n] := by
  simp [LinkController.offer, LinkController.start, Config.maxNotices, hlen, htx]

/-! ## Entries of a station's image -/

@[simp] theorem FieldLine.find_update_self (f : FieldLine) (a : Nat) (g : Station → Station)
    (hg : ∀ st, (g st).addr = st.addr) : (f.update a g).find a = (f.find a).map g := by
  rw [FieldLine.find_update f a a g hg, if_pos rfl]

/-- The value under a key once the entries of one key have been given a value. -/
theorem value_map_entries (l : List Entry) (k x : EntryKey) (v : EntryValue) (g : Entry → Entry) (hk : ∀ e, (g e).key = e.key)
    (hv : ∀ e, (g e).value = v) :
    ((l.map (fun e => if e.key = k then g e else e)).find? (fun e => e.key = x)).map (·.value)
      = if x = k then ((l.find? (fun e => e.key = x)).map (·.value)).map (fun _ => v)
        else (l.find? (fun e => e.key = x)).map (·.value) := by
  induction l with
  | nil => simp
  | cons e es ih =>
    by_cases hek : e.key = k
    · by_cases hx : x = k
      · simp [hek, hx, hk, hv]
      · have hkx : ¬k = x := fun h => hx h.symm
        simpa [hek, hk, hx, hkx] using ih
    · by_cases hex : e.key = x
      · have hx : ¬x = k := fun h => hek (hex.trans h)
        simp [hex, hx]
      · simpa [hek, hex] using ih

theorem Station.value_write (st : Station) (k x : EntryKey) (v : EntryValue) :
    (st.write k v).value x = if x = k then (st.value x).map (fun _ => v) else st.value x :=
  value_map_entries st.image k x v (fun e => { e with value := v, dirty := true, carried := false }) (fun _ => rfl) fun _ => rfl

/-- The mark of a write makes no difference to the values (R48, R138). -/
theorem Station.value_writeMarked (st : Station) (marked : Bool) (k x : EntryKey) (v : EntryValue) :
    (st.writeMarked marked k v).value x = (st.write k v).value x := by
  cases marked with
  | true => rfl
  | false =>
    rw [Station.value_write]
    exact value_map_entries st.image k x v (fun e => { e with value := v, carried := false }) (fun _ => rfl) fun _ => rfl

@[simp] theorem Station.writeMarked_addr (st : Station) (marked : Bool) (k : EntryKey) (v : EntryValue) :
    (st.writeMarked marked k v).addr = st.addr := by cases marked <;> rfl

@[simp] theorem Station.value_write_self (st : Station) (k : EntryKey) (v : EntryValue) :
    (st.write k v).value k = (st.value k).map (fun _ => v) := by simp [Station.value_write]

@[simp] theorem Station.value_write_other (st : Station) (k x : EntryKey) (v : EntryValue) (h : x ≠ k) :
    (st.write k v).value x = st.value x := by simp [Station.value_write, h]

theorem Station.write_some (st : Station) (k : EntryKey) (v : EntryValue) (h : st.value k ≠ none) :
    (st.write k v).value k = some v := by
  obtain ⟨w, hw⟩ := Option.ne_none_iff_exists'.mp h
  simp [hw]

@[simp] theorem Station.value_oneShot (st : Station) (p : OneShot) (x : EntryKey) (h : x ≠ .sounder) :
    (st.oneShot p).value x = st.value x := by
  unfold Station.oneShot; split <;> simp [h]

theorem Station.oneShot_sounder (st : Station) (p : OneShot) (ha : st.alarm = false) (h : st.value .sounder ≠ none) :
    (st.oneShot p).value .sounder = some (.sounder false (some p)) := by
  simp [Station.oneShot, ha, Station.write_some _ _ _ h]

theorem Station.alarm_congr {st st' : Station} (h : st'.value .sounder = st.value .sounder) : st'.alarm = st.alarm := by
  simp only [Station.alarm, h]

/-- The sounder entry of a station stands as it stood. -/
def FieldLine.SounderKept (addr : Nat) (f f' : FieldLine) : Prop :=
  ∀ st, f.find addr = some st → ∃ st', f'.find addr = some st' ∧ st'.value .sounder = st.value .sounder

theorem FieldLine.SounderKept.refl (addr : Nat) (f : FieldLine) : f.SounderKept addr f := fun st h => ⟨st, h, rfl⟩

theorem FieldLine.SounderKept.trans {addr : Nat} {f g k : FieldLine} (h : f.SounderKept addr g) (h' : g.SounderKept addr k) :
    f.SounderKept addr k := fun st hst => by
  obtain ⟨st', hst', hv⟩ := h st hst
  obtain ⟨st'', hst'', hv'⟩ := h' st' hst'
  exact ⟨st'', hst'', hv'.trans hv⟩

theorem FieldLine.sounderKept_update (addr a : Nat) (f : FieldLine) (g : Station → Station) (hg : ∀ st, (g st).addr = st.addr)
    (hv : ∀ st, (g st).value .sounder = st.value .sounder) : f.SounderKept addr (f.update a g) := fun st hst => by
  rw [FieldLine.find_update _ _ _ _ hg, hst]
  split
  · exact ⟨g st, rfl, hv st⟩
  · exact ⟨st, rfl, rfl⟩

/-- A pattern written after acts that leave the station's sounder alone (R138). -/
theorem patternPlayed_playOnce (addr : Nat) (p : OneShot) (s u : State) (h : s.flm.SounderKept addr u.flm) :
    PatternPlayed addr p s (playOnce addr p u) := fun st hst ha hv => by
  obtain ⟨st', hst', hv'⟩ := h st hst
  refine ⟨st'.oneShot p, ?_, Station.oneShot_sounder _ _ ((Station.alarm_congr hv').trans ha) (hv' ▸ hv)⟩
  rw [playOnce_flm, FieldLine.find_update _ _ _ _ (fun st => st.oneShot_addr p), if_pos rfl, hst', Option.map_some]

/-- The acts after a pattern keep it where they leave the sounder alone. -/
theorem PatternPlayed.of_sounderKept {addr : Nat} {p : OneShot} {s t u : State} (h : PatternPlayed addr p s t)
    (hk : t.flm.SounderKept addr u.flm) : PatternPlayed addr p s u := fun st hst ha hv => by
  obtain ⟨st', hst', hv'⟩ := h st hst ha hv
  obtain ⟨st'', hst'', hv''⟩ := hk st' hst'
  exact ⟨st'', hst'', hv''.trans hv'⟩

@[simp] theorem refuseAt_flm (addr door : Nat) (code : DisplayCode) (s : State) :
    (refuseAt addr door code s).flm
      = s.flm.update addr (fun st => (st.oneShot .refuse).write (.flash door) (.flash (some code))) := rfl

/-- A refusal written at a reader is shown there (R6, R8, R28, R56). -/
theorem refusalShown_refuseAt (reader : Reader) (code : DisplayCode) (s u : State) (h : u.flm = s.flm) :
    RefusalShown reader code s (refuseAt reader.station reader.door code u) := fun st hst hflash => by
  refine ⟨(st.oneShot .refuse).write (.flash reader.door) (.flash (some code)), ?_, ?_, fun ha hv => ?_⟩
  · rw [refuseAt_flm, h, FieldLine.find_update _ _ _ _ (fun st => by simp), if_pos rfl, hst, Option.map_some]
  · exact Station.write_some _ _ _ (by simpa using hflash)
  · rw [Station.value_write_other _ _ _ _ (by simp)]
    exact Station.oneShot_sounder _ _ ha hv

/-! ## Sweeps over lanes, lockers and cabins -/

/-- A sweep whose visit of an entry changes that entry alone, and changes it no further at a second visit: every entry named
is changed once. -/
theorem foldl_entries {α : Type} (get : State → Nat → Option α) (f : State → Nat → State) (φ : α → α)
    (hself : ∀ t n, get (f t n) n = (get t n).map φ) (hother : ∀ t n m, m ≠ n → get (f t n) m = get t m)
    (hidem : ∀ x, φ (φ x) = φ x) (l : List Nat) (s : State) (m : Nat) :
    get (l.foldl f s) m = if m ∈ l then (get s m).map φ else get s m := by
  induction l generalizing s with
  | nil => simp
  | cons n l ih =>
    rw [List.foldl_cons, ih]
    by_cases hmn : m = n
    · subst hmn
      have hφ : φ ∘ φ = φ := funext hidem
      by_cases hm : m ∈ l <;> simp [hself, hm, hφ]
    · simp [hother _ _ _ hmn, hmn]

end Sys2Proof.Machine

/-! The state after reset, the reads of the tables, and the recognition of a presentation (R4 to R9). -/
namespace Sys2Proof.Machine

/-! ## After reset -/

/-- Settles O11: each invariant is a closed fact about the reset state, whose tables are empty. -/
theorem resetMeetsTheInvariants : Obligations.ResetMeetsTheInvariants := by
  refine ⟨by simp [ClockInRange, State.reset, resetClock], ?_,
    by simp [LinkWithinCapacity, State.reset, resetLink, LinkController.placesUsed], ?_, ?_, ?_, ?_, ?_, ?_⟩
  · intro b hb; simp [State.reset] at hb
  · intro g hg; simp [State.reset] at hg
  · simp [BandTableGood, State.reset, emptyRegister]
  · exact ⟨List.length_replicate, List.length_replicate⟩
  · simp [CountersInRange, State.reset]
  · unfold TablesMatchSite; decide
  · intro v hv; simp [State.reset] at hv

/-- Settles O58, by whether each stored copy is read as good. -/
theorem coldResetStartsAfresh : Obligations.ColdResetStartsAfresh := by
  intro straps s
  refine ⟨coldReset straps s, rfl, ?_⟩
  have htfs : (coldReset straps s).tfs = coldTariff s.tfs.store := by unfold coldReset; dsimp only; split <;> rfl
  have hload : (coldTariff s.tfs.store).load = .empty ∧ (coldTariff s.tfs.store).standby = List.replicate 142 0 := by
    unfold coldTariff; split <;> exact ⟨rfl, rfl⟩
  have hlive : (coldTariff s.tfs.store).live
      = if tariffImageGood s.tfs.store.afterReset.bytes then some s.tfs.store.afterReset.bytes else none := by
    unfold coldTariff; split <;> rfl
  have hsite : (coldReset straps s).lkc = resetLink straps s.lkc.hold ∧ (coldReset straps s).cnu = resetConditions
      ∧ (coldReset straps s).sck = resetClock ∧ (coldReset straps s).bdr.bands = []
      ∧ (coldReset straps s).bdr.parties = [] ∧ (coldReset straps s).flm.inFlight = none := by
    unfold coldReset; dsimp only; split <;> exact ⟨rfl, rfl, rfl, rfl, rfl, rfl⟩
  obtain ⟨hlkc, hcnu, hsck, hbands, hparties, hflight⟩ := hsite
  have hbad : ∀ (c : NvCopy) (good : List Byte → Bool), good [] = false → c.writing = true ∨ good c.bytes = false →
      good c.afterReset.bytes = false := fun c good hnil h => by
    cases hw : c.writing <;> simp_all [NvCopy.afterReset]
  have hnosite : siteImageGood [] = false := by decide
  have hnotariff : tariffImageGood [] = false := by decide
  refine ⟨hlkc, hcnu, hsck, hbands, hparties, htfs ▸ hload.1, htfs ▸ hload.2, hflight, ?_, ?_, ?_, ?_⟩
  · intro hw hg
    have hkept : s.sts.store.afterReset.bytes = s.sts.store.bytes := by simp [NvCopy.afterReset, hw]
    simp [coldReset, hkept, hg, rebuild]
  · intro h
    have hbase : coldReset straps s = coldBase straps s := by
      simp [coldReset, hbad s.sts.store siteImageGood hnosite h]
    rw [hbase]
    exact ⟨rfl, rfl, rfl, rfl⟩
  · intro hw hg
    have hkept : s.tfs.store.afterReset.bytes = s.tfs.store.bytes := by simp [NvCopy.afterReset, hw]
    simp [htfs, hlive, hkept, hg]
  · intro h
    simp [htfs, hlive, hbad s.tfs.store tariffImageGood hnotariff h]

/-! ## Reads of the tables -/

/-- Settles O25: each read is Done with its record, and its owner hands back the state it was given. -/
theorem tableReadsReport : Obligations.TableReadsReport := by
  refine ⟨⟨?_, ?_⟩, ⟨?_, ?_⟩, ?_, ?_⟩
  · intro tag body s r h hr
    simp [exec, execReadBand, runOrder_taken _ _ _ _ _ h, readBand, hr]
  · intro tag body s reported h hf hs hrep
    have hrange : ¬(3 < byteAt body 0 ∨ 2047 < u16At body 1) := by omega
    simp [exec, execListBands, runOrder_taken _ _ _ _ _ h, listBands, hrange, matchesFilter, hrep]
  · intro tag body s l h hl
    simp [exec, execReadLocker, runOrder_taken _ _ _ _ _ h, readLocker, hl]
  · intro tag body s k b h hk hb
    have hcount : ∀ st, s.lmu.countIn (byteAt body 0) st = (k.lockers.filter (fun l => l.state = st)).length := fun st => by
      simp [LockerMap.countIn, hk]
    simp [exec, execReadBank, runOrder_taken _ _ _ _ _ h, readBank, hk, hb, hcount, lockerStates, bankAddr]
  · intro tag body s c h hc
    simp [exec, execReadCabin, runOrder_taken _ _ _ _ _ h, readCabin, hc]
  · intro tag body s k h hk hg hlo hhi
    have hrange : ¬((3 < byteAt body 0 ∨ byteAt body 1 = 0) ∨ 32 < byteAt body 1) := by omega
    simp [exec, execReadQueue, runOrder_taken _ _ _ _ _ h, readQueue, hk, hrange, Group.parameters, cabinStates,
      CabinUnit.countIn]

/-! ## Recognition -/

theorem recognise_invalid (reader : Reader) (b : BandNo) (s : State) (h : invalidBand b = true) :
    recognise reader b s = (s, .discarded) := by simp [recognise, h]

theorem presentAt_invalid (reader : Reader) (b : BandNo) (master : State → State) (band : BandRecord → State → State)
    (s : State) (h : invalidBand b = true) : presentAt reader b master band s = s := by
  simp [presentAt, recognise_invalid reader b s h]

theorem presentAtLane_invalid (l : Nat) (b : BandNo) (s : State) (h : invalidBand b = true) : presentAtLane l b s = s := by
  simp [presentAtLane, recognise_invalid _ b s h]

/-- A band number that is not valid has no effect at any reader (R4). -/
theorem routeEvent_invalid (addr p : Nat) (b : BandNo) (s : State) (h : invalidBand b = true) :
    routeEvent addr (.bandPresented p b) s = s := by
  unfold routeEvent
  split
  · simp only [bankEvent]
    split
    · exact presentAt_invalid _ b _ _ s h
    · rfl
  · exact presentAt_invalid _ b _ _ s h
  · exact presentAt_invalid _ b _ _ s h
  · exact presentAtLane_invalid _ b s h

/-- Settles O24. -/
theorem invalidBandNumbersRefused : Obligations.InvalidBandNumbersRefused := by
  intro b hb
  have hinv : invalidBand b = true := by rcases hb with rfl | rfl <;> decide
  refine ⟨fun addr p s => routeEvent_invalid addr p b s hinv, ?_, ?_⟩
  · intro tag body s h hbody hday
    have hband : invalidBand (issueArgs body).band = true := by simp [issueArgs, hbody, hinv]
    simp [exec, execIssueBand, runOrder_taken _ _ _ _ _ h.2, issueBand, hday, hband]
  · intro tag body s r h hbody hr hq hbar
    have hbar' : ¬(r.state = .barred ∧ r.replacedBy.isSome = true) := hbar
    simp [exec, execReplaceBand, runOrder_taken _ _ _ _ _ h.2, replaceBand, hr, hq, hbar', hbody, hinv]

theorem suppressed_iff (last : Option (Reader × Nat)) (reader : Reader) (s : State) :
    Suppressed last reader s ↔ repeated last reader s.now s.table.repeatWindow = true := by
  cases last with
  | none => simp [Suppressed, repeated]
  | some held =>
    obtain ⟨r, x⟩ := held
    simp only [Suppressed, repeated, secondsSince, State.now, Config.daySeconds, Option.some.injEq, Prod.mk.injEq,
      Bool.and_eq_true, decide_eq_true_eq]
    constructor
    · rintro ⟨y, ⟨rfl, rfl⟩, h⟩; exact ⟨rfl, decide_eq_true h⟩
    · rintro ⟨rfl, h⟩; exact ⟨x, ⟨rfl, rfl⟩, of_decide_eq_true h⟩

/-! ## The outcomes of recognition (R5 to R8) -/

section
variable {reader : Reader} {b : BandNo} {s : State}

theorem recognise_master {m : MasterBand} (hb : invalidBand b = false) (hm : s.bdr.master b = some m) :
    recognise reader b s
      = if repeated m.lastPresentation reader s.now s.table.repeatWindow then (s, .discarded)
        else ({ s with bdr := s.bdr.stampMaster b reader s.now }, .master) := by simp [recognise, hb, hm]

theorem recognise_unknown (hb : invalidBand b = false) (hm : s.bdr.master b = none) (hf : s.bdr.find b = none) :
    recognise reader b s = (s, .unknown) := by simp [recognise, hb, hm, hf]

theorem recognise_repeated {r : BandRecord} (hb : invalidBand b = false) (hm : s.bdr.master b = none)
    (hf : s.bdr.find b = some r) (hr : repeated r.lastPresentation reader s.now s.table.repeatWindow = true) :
    recognise reader b s = (s, .discarded) := by simp [recognise, hb, hm, hf, hr]

theorem recognise_barred {r : BandRecord} (hb : invalidBand b = false) (hm : s.bdr.master b = none)
    (hf : s.bdr.find b = some r) (hr : repeated r.lastPresentation reader s.now s.table.repeatWindow = false)
    (hbar : r.state = .barred) :
    recognise reader b s
      = (raiseNotice (.barredSeen b reader s.now r.replacedBy)
          (updateBand b (fun x => { x with lastPresentation := some (reader, s.now) }) s), .barred) := by
  simp [recognise, hb, hm, hf, hr, hbar]

theorem recognise_band {r : BandRecord} (hb : invalidBand b = false) (hm : s.bdr.master b = none)
    (hf : s.bdr.find b = some r) (hr : repeated r.lastPresentation reader s.now s.table.repeatWindow = false)
    (hbar : r.state ≠ .barred) :
    recognise reader b s
      = (updateBand b (fun x => { x with lastPresentation := some (reader, s.now) }) s,
          .band { r with lastPresentation := some (reader, s.now) }) := by
  simp [recognise, hb, hm, hf, hr, hbar]

end

/-! ## The owner of the reader (R9) -/

/-- The act of the owner of a reader on the outcome of recognition: the flash code of a refusal at a reader that has one, the
lane at a collector (R6, R8, R9). -/
def ownerAct (addr : Nat) (reader : Reader) (b : BandNo) (seen : Recognised) (s : State) : State :=
  match kindOf addr, seen with
  | .laneUnit, .discarded => s
  | .laneUnit, _ => insertBand (addr - 85) b seen s
  | _, .discarded => s
  | _, .unknown => refuseAt reader.station reader.door .unknown s
  | _, .barred => refuseAt reader.station reader.door .br s
  | .lockBank, .master => masterAtLocker (lockerNumber (addr - 1) reader.door) s
  | .lockBank, .band r => presentAtLocker (lockerNumber (addr - 1) reader.door) r s
  | .cabinUnit, .master => masterAtCabin (addr - 33) s
  | .cabinUnit, .band r => presentAtCabin (addr - 33) r s
  | .callPad, .master => masterAtPad (addr - 81) s
  | .callPad, .band r => presentAtPad (addr - 81) r s

/-- A presentation is recognised at its reader and handed to the reader's owner (R9, R141). -/
theorem routeEvent_presented (addr p : Nat) (reader : Reader) (b : BandNo) (s : State)
    (h : readerOf s.table addr p = some reader) :
    routeEvent addr (.bandPresented p b) s
      = ownerAct addr reader b (recognise reader b s).2 (recognise reader b s).1 := by
  unfold readerOf at h
  unfold routeEvent ownerAct
  cases hk : kindOf addr with
  | lockBank =>
    simp only [hk, Option.ite_none_right_eq_some, Option.some.injEq] at h
    obtain ⟨hp, rfl⟩ := h
    simp only [bankEvent, if_pos hp, presentAt, mirrorDoor]
    cases hseen : (recognise _ b s).2 <;> rfl
  | cabinUnit =>
    simp only [hk, Option.some.injEq] at h
    subst h
    simp only [cabinEvent, presentAt]
    cases hseen : (recognise _ b s).2 <;> rfl
  | callPad =>
    simp only [hk, Option.some.injEq] at h
    subst h
    simp only [padEvent, presentAt]
    cases hseen : (recognise _ b s).2 <;> rfl
  | laneUnit =>
    simp only [hk, Option.some.injEq] at h
    subst h
    have haddr : laneAddr (addr - 85) = addr := by
      have : 84 < addr := by
        unfold kindOf at hk
        by_contra hle
        split at hk
        · cases hk
        · split at hk
          · cases hk
          · rw [if_pos (by omega)] at hk; cases hk
      simp only [laneAddr]; omega
    simp only [laneEvent, presentAtLane, haddr]
    cases hseen : (recognise _ b s).2 <;> rfl

/-! ## A refusal at a collector (R108, R109) -/

/-- A lane's slot written and a refusal shown: no state changes, so no watch is met. -/
theorem refuseAtLane_putLane_keeps (l : Nat) (e e' : Lane) (act : SlotAction) (b : BandNo) (text : DisplayText) (s : State)
    (he : s.xlu.find l = some e) (hs : e'.state = e.state) :
    KeepsAllBut [.xlu, .flm] s (refuseAtLane l act b text (putLane l e' s)) := by
  simp [keepsAllBut_iff, he, hs]

/-- An unknown or a barred band inserted changes no more than its lane's slot and desired entries. -/
theorem insertBand_unrecognised_keeps (l : Nat) (b : BandNo) (seen : Recognised) (s : State)
    (h : seen = .unknown ∨ seen = .barred) : KeepsAllBut [.xlu, .flm] s (insertBand l b seen s) := by
  have hrefl : KeepsAllBut [.xlu, .flm] s s := by simp [keepsAllBut_iff]
  unfold insertBand
  split
  · exact hrefl
  · next e he =>
    dsimp only
    split
    · rcases h with rfl | rfl <;> exact refuseAtLane_putLane_keeps l e _ _ _ _ s he rfl
    · exact refuseAtLane_putLane_keeps l e _ _ _ _ s he rfl
    · exact hrefl
    · exact hrefl

/-! ## Presentations -/

theorem KeepsAllBut.trans {l : List Block} {s t u : State} (h : KeepsAllBut l s t) (h' : KeepsAllBut l t u) :
    KeepsAllBut l s u := by
  intro b hb
  have hst := h b hb
  have htu := h' b hb
  cases b <;> exact Eq.trans htu hst

theorem KeepsAllBut.mono {l l' : List Block} {s t : State} (h : KeepsAllBut l s t) (hl : l ⊆ l') : KeepsAllBut l' s t :=
  fun b hb => h b fun hb' => hb (hl hb')

/-- The owner's refusal of an unknown or a barred band: the code at a reader that has one, the lane's slot at a collector. -/
theorem ownerAct_unrecognised (addr : Nat) (reader : Reader) (b : BandNo) (seen : Recognised) (code : DisplayCode) (s u : State)
    (hseen : (seen = .unknown ∧ code = .unknown) ∨ (seen = .barred ∧ code = .br)) (hflm : u.flm = s.flm) :
    KeepsAllBut [.xlu, .flm] u (ownerAct addr reader b seen u)
      ∧ (kindOf addr ≠ .laneUnit → RefusalShown reader code s (ownerAct addr reader b seen u))
      ∧ (kindOf addr = .laneUnit → ownerAct addr reader b seen u = insertBand (addr - 85) b seen u) := by
  have hrefuse : KeepsAllBut [.xlu, .flm] u (refuseAt reader.station reader.door code u) := by simp [keepsAllBut_iff]
  have hshown := refusalShown_refuseAt reader code s u hflm
  have hlane := insertBand_unrecognised_keeps (addr - 85) b seen u (hseen.imp (·.1) (·.1))
  unfold ownerAct
  rcases hseen with ⟨rfl, rfl⟩ | ⟨rfl, rfl⟩ <;> cases kindOf addr <;> simp_all

/-- Settles O59, by the outcome of recognition. -/
theorem presentationsRecognised : Obligations.PresentationsRecognised := by
  intro addr p reader b s t hreader hzero hones ht
  have hb : invalidBand b = false := by simpa [invalidBand, hzero] using hones
  rw [routeEvent_presented addr p reader b s hreader] at ht
  refine ⟨fun m hm => ⟨fun hsup => ?_, fun hsup u hu => ?_⟩, fun hm hf => ?_, fun r u hm hf hu =>
    ⟨fun hsup => ?_, fun hsup hbar => ?_, fun hsup hbar seen hseen => ?_⟩⟩
  · rw [suppressed_iff] at hsup
    rw [recognise_master hb hm, if_pos hsup] at ht
    rw [ht]; unfold ownerAct; cases kindOf addr <;> rfl
  · rw [suppressed_iff] at hsup
    rw [recognise_master hb hm, if_neg hsup] at ht
    have hu' : u = { s with bdr := s.bdr.stampMaster b reader s.now } := hu
    rw [hu', ht]
    unfold ownerAct
    cases kindOf addr <;> simp
  · rw [recognise_unknown hb hm hf] at ht
    rw [ht]
    exact ownerAct_unrecognised addr reader b .unknown .unknown s s (.inl ⟨rfl, rfl⟩) rfl
  · rw [suppressed_iff] at hsup
    rw [recognise_repeated hb hm hf hsup] at ht
    rw [ht]; unfold ownerAct; cases kindOf addr <;> rfl
  · rw [suppressed_iff, Bool.not_eq_true] at hsup
    rw [recognise_barred hb hm hf hsup hbar] at ht
    generalize hv : raiseNotice _ _ = v at ht
    have hvb : v.bdr = u.bdr ∧ v.cnu = s.cnu.latch .barredSeen ∧ v.flm = s.flm := by
      rw [← hv, hu]; exact ⟨rfl, rfl, rfl⟩
    obtain ⟨hvbdr, hvcnu, hvflm⟩ := hvb
    obtain ⟨hkeep, hshown, -⟩ := ownerAct_unrecognised addr reader b .barred .br s v (.inr ⟨rfl, rfl⟩) hvflm
    have hsv : KeepsAllBut [.bdr, .xlu, .flm, .lkc, .cnu] s v := by rw [← hv]; simp [keepsAllBut_iff]
    rw [ht]
    refine ⟨(hkeep .bdr (by simp)).trans hvbdr, ?_, hsv.trans (hkeep.mono (by simp)), hshown⟩
    rw [show (ownerAct addr reader b .barred v).cnu = v.cnu from hkeep .cnu (by simp), hvcnu]
    simp [NoticeClass.code]
  · rw [suppressed_iff, Bool.not_eq_true] at hsup
    rw [recognise_band hb hm hf hsup hbar] at ht
    have hu' : u = updateBand b (fun x => { x with lastPresentation := some (reader, s.now) }) s := hu
    have hseen' : seen = { r with lastPresentation := some (reader, s.now) } := hseen
    refine ⟨?_, ?_⟩
    · rw [hu', hseen']
      simp [hf]
    · rw [hu', ht, hseen']
      unfold ownerAct
      cases kindOf addr <;> simp

end Sys2Proof.Machine

/-! The band orders (R10 to R16) and the payment of a quote (R113), with the rules of the cabin unit's allocation (R62, R63). -/
namespace Sys2Proof.Machine

/-! ## Records added and freed -/

theorem insertRecord_find_self (x : BandRecord) (l : List BandRecord) (h : ∀ y ∈ l, y.number ≠ x.number) :
    (insertRecord x l).find? (fun y => y.number = x.number) = some x := by
  induction l with
  | nil => simp [insertRecord]
  | cons y ys ih =>
    obtain ⟨hy, hys⟩ := List.forall_mem_cons.mp h
    unfold insertRecord
    split
    · simp
    · rw [List.find?_cons_of_neg (by simpa using hy)]; exact ih hys

theorem insertRecord_find_other (x : BandRecord) (b : BandNo) (l : List BandRecord) (hb : b ≠ x.number) :
    (insertRecord x l).find? (fun y => y.number = b) = l.find? (fun y => y.number = b) := by
  have hx : ¬x.number = b := fun h => hb h.symm
  induction l with
  | nil => simp [insertRecord, hx]
  | cons y ys ih =>
    unfold insertRecord
    split
    · rw [List.find?_cons_of_neg (by simpa using hx)]
    · simp only [List.find?_cons, ih]

theorem BandRegister.find_add_self (r : BandRegister) (x : BandRecord) (h : r.find x.number = none) :
    (r.add x).find x.number = some x :=
  insertRecord_find_self x r.bands (by simpa [BandRegister.find] using h)

theorem BandRegister.find_add_other (r : BandRegister) (x : BandRecord) (b : BandNo) (hb : b ≠ x.number) :
    (r.add x).find b = r.find b := insertRecord_find_other x b r.bands hb

@[simp] theorem BandRegister.find_free_self (r : BandRegister) (b : BandNo) : (r.free b).find b = none := by
  simp [BandRegister.find, BandRegister.free]

@[simp] theorem BandRegister.find_free_other (r : BandRegister) (b x : BandNo) (h : x ≠ b) :
    (r.free b).find x = r.find x := by
  simp only [BandRegister.find, BandRegister.free, BandRegister.leaveParty]
  induction r.bands with
  | nil => rfl
  | cons y ys ih =>
    by_cases hy : y.number = b
    · have hyx : ¬y.number = x := fun hyx => h (hyx.symm.trans hy)
      rw [List.filter_cons_of_neg (by simpa using hy), List.find?_cons_of_neg (by simpa using hyx), ih]
    · rw [List.filter_cons_of_pos (by simpa using hy), List.find?_cons, List.find?_cons, ih]

theorem BandRegister.free_parties (r : BandRegister) (b : BandNo) :
    (r.free b).parties = partiesWithout b ((r.find b).bind (·.party)) r.parties := rfl

@[simp] theorem BandRegister.free_masters (r : BandRegister) (b : BandNo) : (r.free b).masters = r.masters := rfl

/-- A band of no party leaves the parties as they are. -/
theorem partiesWithout_none (b : BandNo) (l : List Party) : partiesWithout b none l = l := by
  simp [partiesWithout]

/-! ## The free cabins and the queues of a group -/

theorem CabinUnit.lowestFree_eq_none (u : CabinUnit) (g : Nat) :
    u.lowestFree g = none ↔ ∀ n c, u.find n = some c → c.group = g → c.state ≠ .free := by
  simp only [CabinUnit.lowestFree, List.find?_eq_none, List.mem_range, CabinUnit.find]
  constructor
  · intro h n c hc hg hs
    have hn := h n (List.getElem?_eq_some_iff.mp hc).1
    simp [hc, hg, hs] at hn
  · intro h n hn
    cases hc : u.cabins[n]? with
    | none => simp
    | some c => simpa using h n c hc

theorem CabinUnit.lowestFree_eq_some {u : CabinUnit} {g n : Nat} (h : u.lowestFree g = some n) :
    ∃ c, u.find n = some c ∧ c.group = g ∧ c.state = .free := by
  have hp := List.find?_some h
  cases hc : u.cabins[n]? with
  | none => simp [hc] at hp
  | some c => exact ⟨c, hc, by simpa [hc] using hp⟩

/-- The one Free cabin of a group is the lowest-numbered one. -/
theorem CabinUnit.lowestFree_of_only {u : CabinUnit} {g n : Nat} {c : Cabin} (hc : u.find n = some c) (hg : c.group = g)
    (hs : c.state = .free) (ho : ∀ m k, m ≠ n → u.find m = some k → k.group = g → k.state ≠ .free) :
    u.lowestFree g = some n := by
  cases h : u.lowestFree g with
  | none => exact absurd hs ((u.lowestFree_eq_none g).mp h n c hc hg)
  | some m =>
    obtain ⟨k, hk, hkg, hks⟩ := CabinUnit.lowestFree_eq_some h
    by_contra hne
    exact ho m k (fun hmn => hne (by rw [hmn])) hk hkg hks

@[simp] theorem CabinUnit.find_updateGroup (u : CabinUnit) (g n : Nat) (f : Group → Group) :
    (u.updateGroup g f).find n = u.find n := rfl

@[simp] theorem CabinUnit.put_queue (u : CabinUnit) (n g : Nat) (c : Cabin) : (u.put n c).queue g = u.queue g := rfl

@[simp] theorem CabinUnit.put_group (u : CabinUnit) (n g : Nat) (c : Cabin) : (u.put n c).group g = u.group g := rfl

theorem CabinUnit.find_put_self (u : CabinUnit) (n : Nat) (e c : Cabin) (h : u.find n = some c) :
    (u.put n e).find n = some e := by simp [CabinUnit.find_put, h]

theorem CabinUnit.find_put_other (u : CabinUnit) (n m : Nat) (e : Cabin) (h : m ≠ n) : (u.put n e).find m = u.find m := by
  simp [CabinUnit.find_put, Ne.symm h]

theorem CabinUnit.queue_updateQueue_other (u : CabinUnit) (g x : Nat) (f : List QueueEntry → List QueueEntry) (h : x ≠ g) :
    (u.updateGroup g (fun k => { k with queue := f k.queue })).queue x = u.queue x := by
  simp [CabinUnit.queue, CabinUnit.group_updateGroup, Ne.symm h]

/-- The queue of a group after a change that keeps an empty queue empty. -/
theorem CabinUnit.queue_updateQueue (u : CabinUnit) (g : Nat) (f : List QueueEntry → List QueueEntry) (h : f [] = []) :
    (u.updateGroup g (fun k => { k with queue := f k.queue })).queue g = f (u.queue g) := by
  simp only [CabinUnit.queue, CabinUnit.group_updateGroup, if_true]
  cases u.group g <;> simp [h]

/-- The queue of a configured group after a change. -/
theorem CabinUnit.queue_updateQueue_of_lt (u : CabinUnit) (g : Nat) (f : List QueueEntry → List QueueEntry)
    (h : g < u.groups.length) : (u.updateGroup g (fun k => { k with queue := f k.queue })).queue g = f (u.queue g) := by
  simp only [CabinUnit.queue, CabinUnit.group_updateGroup, if_true]
  simp [CabinUnit.group, h]

/-! ## Offers (R63) -/

theorem makeOffer_cbu (g n : Nat) (e : QueueEntry) (c : Cabin) (s : State) (h : s.cbu.find n = some c) :
    (makeOffer g n e s).cbu
      = (s.cbu.updateGroup g (fun k => { k with queue := k.queue.tail })).put n
          (c.offeredTo e ((s.sck.counter + (groupSetting s g).offerWindow) % 86400)) := by
  simp only [makeOffer, h]
  rfl

theorem makeOffer_bdr (g n : Nat) (e : QueueEntry) (c : Cabin) (s : State) (h : s.cbu.find n = some c) :
    (makeOffer g n e s).bdr = s.bdr.update e.band (fun r => { r with link := some (.offered n) }) := by
  simp [makeOffer, h]

/-! ## Allocation (R62) -/

/-- What holds of a state and is kept by every offer the group makes of a Free cabin of its own to the head of its queue holds
after the group has allocated. -/
theorem allocateUpTo_induct {P : State → Prop} (g : Nat)
    (hstep : ∀ t n c e rest, P t → t.cbu.find n = some c → c.group = g → c.state = .free → t.cbu.queue g = e :: rest →
      P (makeOffer g n e t)) (k : Nat) (s : State) (h : P s) : P (allocateUpTo k g s) := by
  induction k generalizing s with
  | zero => exact h
  | succ k ih =>
    unfold allocateUpTo
    split
    · next e rest n hq hf =>
      obtain ⟨c, hc, hg, hs⟩ := CabinUnit.lowestFree_eq_some hf
      exact ih _ (hstep s n c e rest h hc hg hs hq)
    · exact h

theorem allocate_induct {P : State → Prop} (g : Nat)
    (hstep : ∀ t n c e rest, P t → t.cbu.find n = some c → c.group = g → c.state = .free → t.cbu.queue g = e :: rest →
      P (makeOffer g n e t)) (s : State) (h : P s) : P (allocate g s) := allocateUpTo_induct g hstep _ s h

theorem allocateUpTo_of_noneFree (k g : Nat) (s : State) (h : s.cbu.lowestFree g = none) : allocateUpTo k g s = s := by
  cases k with
  | zero => rfl
  | succ k =>
    unfold allocateUpTo
    split
    · next hf => exact absurd (h.symm.trans hf) nofun
    · rfl

theorem allocate_of_noneFree (g : Nat) (s : State) (h : s.cbu.lowestFree g = none) : allocate g s = s :=
  allocateUpTo_of_noneFree _ g s h

theorem allocate_of_queue_nil (g : Nat) (s : State) (h : s.cbu.queue g = []) : allocate g s = s := by
  simp [allocate, h, allocateUpTo]

/-- Only bands of the group's queue have their links changed. -/
theorem allocate_find_other (g : Nat) (x : BandNo) (s : State) (h : ∀ e ∈ s.cbu.queue g, e.band ≠ x) :
    (allocate g s).bdr.find x = s.bdr.find x := by
  have key := allocate_induct (P := fun t => t.bdr.find x = s.bdr.find x ∧ ∀ e ∈ t.cbu.queue g, e.band ≠ x) g
    (fun t n c e rest ht hc _ _ hq => by
      obtain ⟨hfind, hmem⟩ := ht
      refine ⟨?_, ?_⟩
      · rw [makeOffer_bdr g n e c t hc, BandRegister.find_update_other _ _ _ _ (by simp) (hmem e (by simp [hq])).symm, hfind]
      · rw [makeOffer_cbu g n e c t hc, CabinUnit.put_queue, CabinUnit.queue_updateQueue _ _ _ rfl]
        exact fun x hx => hmem x (List.mem_of_mem_tail hx)) s ⟨rfl, h⟩
  exact key.1

/-- The one Free cabin of a group is offered to the head of its queue, and then no cabin of it is Free. -/
theorem allocate_only (g n : Nat) (c : Cabin) (e : QueueEntry) (rest : List QueueEntry) (s : State)
    (hc : s.cbu.find n = some c) (hg : c.group = g) (hs : c.state = .free) (hq : s.cbu.queue g = e :: rest)
    (ho : ∀ m k, m ≠ n → s.cbu.find m = some k → k.group = g → k.state ≠ .free) :
    allocate g s = makeOffer g n e s ∧ (makeOffer g n e s).cbu.lowestFree g = none := by
  have hnone : (makeOffer g n e s).cbu.lowestFree g = none := by
    rw [CabinUnit.lowestFree_eq_none, makeOffer_cbu g n e c s hc]
    intro m k hk hkg
    by_cases hm : m = n
    · subst hm
      rw [CabinUnit.find_put_self _ _ _ c (by simpa using hc), Option.some.injEq] at hk
      subst hk
      simp [Cabin.offeredTo]
    · rw [CabinUnit.find_put_other _ _ _ _ hm] at hk
      exact ho m k hm hk hkg
  refine ⟨?_, hnone⟩
  rw [allocate, hq, List.length_cons, allocateUpTo]
  simp only [hq, CabinUnit.lowestFree_of_only hc hg hs ho]
  exact allocateUpTo_of_noneFree _ g _ hnone

/-- A cabin that becomes Free while no other of its group is: it is offered to the head of the queue, and nothing else of the
tables changes (R62, R63). -/
theorem allocate_offersToHead (n : Nat) (c : Cabin) (e : QueueEntry) (rest : List QueueEntry) (s : State)
    (hc : s.cbu.find n = some c) (hs : c.state = .free) (hq : s.cbu.queue c.group = e :: rest)
    (ho : ∀ m k, m ≠ n → s.cbu.find m = some k → k.group = c.group → k.state ≠ .free) :
    (allocate c.group s).cbu.find n
        = some (c.offeredTo e ((s.sck.counter + (groupSetting s c.group).offerWindow) % 86400))
      ∧ (∀ m, m ≠ n → (allocate c.group s).cbu.find m = s.cbu.find m) ∧ (allocate c.group s).cbu.queue c.group = rest
      ∧ (∀ g, g ≠ c.group → (allocate c.group s).cbu.queue g = s.cbu.queue g)
      ∧ (allocate c.group s).bdr = s.bdr.update e.band (fun r => { r with link := some (.offered n) }) := by
  rw [(allocate_only c.group n c e rest s hc rfl hs hq ho).1]
  refine ⟨?_, fun m hm => ?_, ?_, fun g hg => ?_, makeOffer_bdr _ n e c s hc⟩
  · rw [makeOffer_cbu _ n e c s hc, CabinUnit.find_put_self _ _ _ c (by simpa using hc)]
  · rw [makeOffer_cbu _ n e c s hc, CabinUnit.find_put_other _ _ _ _ hm, CabinUnit.find_updateGroup]
  · rw [makeOffer_cbu _ n e c s hc, CabinUnit.put_queue, CabinUnit.queue_updateQueue _ _ _ rfl, hq, List.tail_cons]
  · rw [makeOffer_cbu _ n e c s hc, CabinUnit.put_queue, CabinUnit.queue_updateQueue_other _ _ _ _ hg]

end Sys2Proof.Machine

/-! The band orders (R10 to R16) and the payment of a quote (R113). -/
namespace Sys2Proof.Machine

/-! ## PAID (R113) -/

@[simp] theorem LaneUnit.find_put_self (u : LaneUnit) (l : Nat) (e x : Lane) (h : u.find l = some x) :
    (u.put l e).find l = some e := by simp [LaneUnit.find_put, h]

@[simp] theorem LaneUnit.find_put_other (u : LaneUnit) (l m : Nat) (e : Lane) (h : m ≠ l) : (u.put l e).find m = u.find m := by
  simp [LaneUnit.find_put, Ne.symm h]

@[simp] theorem letThrough_xlu (l : Nat) (e : Lane) (b : BandNo) (cause : PassCause) (act : SlotAction) (s : State) :
    (letThrough l e b cause act s).xlu
      = s.xlu.put l (e.passing b cause ((s.sck.counter + (laneSetting s l).passWindow) % 86400)) := rfl

@[simp] theorem collectBand_xlu (l : Nat) (e : Lane) (b : BandNo) (cause : PassCause) (s : State) :
    (collectBand l e b cause s).xlu
      = s.xlu.put l (e.passing b cause ((s.sck.counter + (laneSetting s l).passWindow) % 86400)) := rfl

@[simp] theorem collectBand_bdr (l : Nat) (e : Lane) (b : BandNo) (cause : PassCause) (s : State) :
    (collectBand l e b cause s).bdr = s.bdr.free b := rfl

theorem Lane.acting_of_reachable {e : Lane} (h : e.state ≠ .unreachable) : e.acting = e.state := by simp [Lane.acting, h]

/-- Settles O40, by whether the lane names the band, and then by its state and the amount. -/
theorem paidSettlesAQuote : Obligations.PaidSettlesAQuote := by
  intro tag body s e q h he hq
  have hexec : exec (.paid tag body) s = .next (settleOwned tag (paid (paidArgs body) (popOrder s))) := by
    simp [exec, execPaid, runOrder_taken _ _ _ _ _ h]
  rw [hexec]
  refine ⟨fun hs hb hle => ?_, fun hs hb hlt => ?_, fun x hs ha hb hx => ?_, fun x hn hl => ?_, fun hn hl => ?_⟩
  · have ha : e.acting = .holding := by rw [Lane.acting_of_reachable (by simp [hs]), hs]
    have hpaid : paid (paidArgs body) (popOrder s)
        = done (.paid q (paidArgs body).amount)
            (collectBand (paidArgs body).lane e (paidArgs body).band .paid (popOrder s)) := by
      have hlt : ¬(paidArgs body).amount < q := by omega
      simp [paid, he, ha, hb, paidAgainst, hs, hq ha, hlt]
    refine ⟨_, rfl, ?_⟩
    rw [hpaid]
    refine ⟨?_, fun m hm => ?_, ?_, fun r hr => ?_, fun b hb => ?_, ?_, ?_⟩
    · simp [he, Lane.passing, ← hb]
    · simp [hm]
    · simp
    · simp [BandRegister.free_parties, hr]
    · simp [hb]
    · exact answered_placeAnswer _ _
    · simp [keepsAllBut_iff]
  · have ha : e.acting = .holding := by rw [Lane.acting_of_reachable (by simp [hs]), hs]
    simp [paid, he, ha, hb, paidAgainst, hs, hq ha, hlt, Reply.answer]
  · simp [paid, he, ha, hb, paidAgainst, hs, hq ha, hx, Reply.answer]
  · simp [paid, he, hn, hl, Reply.answer]
  · have hpaid : paid (paidArgs body) (popOrder s) = refused .noSuch (popOrder s) := by
      cases hle : e.lastExpiry with
      | none => simp [paid, he, hn, hle]
      | some last => simp [paid, he, hn, hle, hl last.1 last.2 hle]
    simp [hpaid]

/-! ## ISSUE BAND (R10, R11) -/

theorem joinParty_bands (choice : PartyChoice) (b : BandNo) (r : BandRegister) : (joinParty choice b r).1.bands = r.bands := by
  unfold joinParty; split <;> rfl

theorem joinParty_masters (choice : PartyChoice) (b : BandNo) (r : BandRegister) :
    (joinParty choice b r).1.masters = r.masters := by
  unfold joinParty; split <;> rfl

theorem mem_insertParty (p : Party) (l : List Party) : p ∈ insertParty p l := by
  induction l with
  | nil => simp [insertParty]
  | cons q qs ih => unfold insertParty; split <;> simp [ih]

/-- The parties after a join: with a choice of none as they were, else with the band in the new party or at the end of the
members of the party joined (R11). -/
theorem joinParty_parties (choice : PartyChoice) (b : BandNo) (r : BandRegister) :
    ((joinParty choice b r).2 = none → (joinParty choice b r).1.parties = r.parties)
      ∧ (choice = .new → { number := r.freeParty, members := [b] } ∈ (joinParty choice b r).1.parties)
      ∧ (∀ n q, choice = .join n → q ∈ r.parties → q.number = n →
          { q with members := q.members ++ [b] } ∈ (joinParty choice b r).1.parties) := by
  cases choice with
  | alone => simp [joinParty]
  | outOfRange => simp [joinParty]
  | new => simp [joinParty, mem_insertParty]
  | join n =>
    refine ⟨by simp [joinParty], nofun, fun m q hm hq hn => ?_⟩
    cases hm
    exact List.mem_map.mpr ⟨q, hq, by simp [hn]⟩

/-- ISSUE BAND that passes its checks: the band joins its party, and the record is added (R10). -/
theorem issueBand_creates (a : IssueArgs) (s : State) (party : Option Nat) (hday : s.sck.day = .opened)
    (hinv : invalidBand a.band = false) (hcls : a.cls ≤ 7) (hf : s.bdr.find a.band = none) (hm : s.bdr.master a.band = none)
    (hlen : s.bdr.bands.length < 2048)
    (hchoice : (partyChoiceOf a.choice = .alone ∧ party = none)
      ∨ (partyChoiceOf a.choice = .new ∧ s.bdr.parties.length < 256 ∧ party = some s.bdr.freeParty)
      ∨ (∃ n p, partyChoiceOf a.choice = .join n ∧ s.bdr.party n = some p ∧ p.members.length < 6 ∧ party = some n)) :
    issueBand a s
        = ({ s with
              bdr :=
                BandRegister.add (joinParty (partyChoiceOf a.choice) a.band s.bdr).1
                  (issuedRecord a s.bdr.freeSlot (minuteOf s.now) party) },
            some { code := .done, clamped := decide (1440 < a.paidMinutes), body := .issued party })
      ∧ (joinParty (partyChoiceOf a.choice) a.band s.bdr).2 = party := by
  have hcls' : ¬7 < a.cls := by omega
  have hlen' : ¬Config.maxBands ≤ s.bdr.bands.length := by simp only [Config.maxBands]; omega
  rcases hchoice with ⟨hc, rfl⟩ | ⟨hc, hp, rfl⟩ | ⟨n, p, hc, hp, hmem, rfl⟩
  · simp [issueBand, hday, hinv, hcls', hc, hf, hm, hlen', joinParty]
  · have hp' : ¬Config.maxParties ≤ s.bdr.parties.length := by simp only [Config.maxParties]; omega
    simp [issueBand, hday, hinv, hcls', hc, hf, hm, hlen', joinParty, hp']
  · have hmem' : ¬Config.maxMembers ≤ p.members.length := by simp only [Config.maxMembers]; omega
    simp [issueBand, hday, hinv, hcls', hc, hf, hm, hlen', joinParty, hp, hmem']

/-- Settles O21. -/
theorem issueBandCreatesARecord : Obligations.IssueBandCreatesARecord := by
  intro tag body s party h hday hinv hcls hf hm hlen hchoice
  obtain ⟨hissue, hparty⟩ := issueBand_creates (issueArgs body) (popOrder s) party hday hinv hcls hf hm hlen hchoice
  have hexec : exec (.issueBand tag body) s = .next (settleOwned tag (issueBand (issueArgs body) (popOrder s))) := by
    simp [exec, execIssueBand, runOrder_taken _ _ _ _ _ h]
  have hbands : ∀ b, (joinParty (partyChoiceOf (issueArgs body).choice) (issueArgs body).band (popOrder s).bdr).1.find b
      = s.bdr.find b := fun b => by
    rw [BandRegister.find, joinParty_bands]; rfl
  obtain ⟨hnone, hnew, hjoin⟩ := joinParty_parties (partyChoiceOf (issueArgs body).choice) (issueArgs body).band (popOrder s).bdr
  refine ⟨_, hexec, ?_⟩
  rw [hissue]
  refine ⟨?_, fun b hb => ?_, ?_, ?_, fun hp => ?_, fun n q hc hq hn => ?_, fun hc => ?_, ?_, ?_⟩
  · exact BandRegister.find_add_self _ (issuedRecord (issueArgs body) _ _ party) ((hbands _).trans hf)
  · exact (BandRegister.find_add_other _ (issuedRecord (issueArgs body) _ _ party) b hb).trans (hbands b)
  · simp [BandRegister.add, (insertRecord_perm _ _).length_eq, joinParty_bands]
  · simp [BandRegister.add, joinParty_masters]
  · exact hnone (hparty.trans hp)
  · exact hjoin n q hc hq hn
  · exact hnew hc
  · exact answered_placeAnswer _ _
  · simp [keepsAllBut_iff]

/-! ## Links alone change -/

/-- A record with its cabin link put aside. -/
def BandRecord.unlinked (r : BandRecord) : BandRecord := { r with link := none }

theorem BandRegister.update_link_unlinked (r : BandRegister) (b x : BandNo) (link : Option CabinLink) :
    ((r.update b (fun y => { y with link := link })).find x).map BandRecord.unlinked = (r.find x).map BandRecord.unlinked := by
  by_cases hx : x = b
  · subst hx
    simp only [BandRegister.find_update_self, Option.map_map, implies_true]
    rfl
  · simp [hx]

/-- An allocation changes no more of a band's record than its link. -/
theorem allocate_unlinked (g : Nat) (x : BandNo) (s : State) :
    ((allocate g s).bdr.find x).map BandRecord.unlinked = (s.bdr.find x).map BandRecord.unlinked :=
  allocate_induct (P := fun t => (t.bdr.find x).map BandRecord.unlinked = (s.bdr.find x).map BandRecord.unlinked) g
    (fun t n c e rest ht hc _ _ _ => by rw [makeOffer_bdr g n e c t hc, BandRegister.update_link_unlinked, ht]) s rfl

/-! ## The withdrawal of a band from the cabin system (R66, R74) -/

theorem withdrawBand_of_none {b : BandNo} {s : State} (h : (s.bdr.find b).bind (·.link) = none) : withdrawBand b s = s := by
  simp [withdrawBand, h]

theorem withdrawBand_of_holding {b : BandNo} {s : State} {n : Nat} (h : (s.bdr.find b).bind (·.link) = some (.holding n)) :
    withdrawBand b s = s := by simp [withdrawBand, h]

theorem withdrawBand_of_queued {b : BandNo} {s : State} {g ticket : Nat}
    (h : (s.bdr.find b).bind (·.link) = some (.queued g ticket)) :
    withdrawBand b s = setLink b none (removeEntry g b s) := by simp [withdrawBand, h]

theorem withdrawBand_of_offered {b : BandNo} {s : State} {n : Nat} {c : Cabin}
    (h : (s.bdr.find b).bind (·.link) = some (.offered n)) (hc : s.cbu.find n = some c) :
    withdrawBand b s = allocate c.group (setLink b none (endOffer n c .free s)) := by simp [withdrawBand, h, hc]

/-- A withdrawal changes no more of a band's record than its link. -/
theorem withdrawBand_unlinked (b x : BandNo) (s : State) :
    ((withdrawBand b s).bdr.find x).map BandRecord.unlinked = (s.bdr.find x).map BandRecord.unlinked := by
  unfold withdrawBand
  (repeat' split) <;> simp [allocate_unlinked, BandRegister.update_link_unlinked]

@[simp] theorem endOffer_cbu (n : Nat) (c : Cabin) (next : CabinState) (s : State) :
    (endOffer n c next s).cbu = s.cbu.put n (c.unoffered.act next) := rfl

@[simp] theorem Cabin.act_group (c : Cabin) (st : CabinState) : (c.act st).group = c.group := by
  unfold Cabin.act; split <;> rfl

@[simp] theorem Cabin.unoffered_group (c : Cabin) : c.unoffered.group = c.group := rfl

theorem Cabin.act_state {c : Cabin} (st : CabinState) (h : c.state ≠ .unreachable) : c.act st = { c with state := st } := by
  simp [Cabin.act, h]

theorem Cabin.unoffered_act_offeredTo {c : Cabin} (e : QueueEntry) (x : Nat) (h : c.state ≠ .unreachable) :
    (c.unoffered.act .free).offeredTo e x = c.offeredTo e x := by
  rw [Cabin.act_state .free (by simpa [Cabin.unoffered] using h)]; rfl

end Sys2Proof.Machine

/-! BAR BAND, FORGET BAND and REPLACE BAND (R12 to R16, R74). -/
namespace Sys2Proof.Machine

/-! ## The withdrawal of an offer (R66) -/

/-- An offer withdrawn where the group has nobody waiting, or where the cabin, Unreachable, goes to no Free state and no other
is Free: no offer follows. -/
theorem withdrawBand_noOffer {b : BandNo} {s : State} {n : Nat} {c : Cabin}
    (h : (s.bdr.find b).bind (·.link) = some (.offered n)) (hc : s.cbu.find n = some c)
    (hq : s.cbu.queue c.group = [] ∨ (c.state = .unreachable ∧ s.cbu.lowestFree c.group = none)) :
    withdrawBand b s = setLink b none (endOffer n c .free s) := by
  rw [withdrawBand_of_offered h hc]
  rcases hq with hq | ⟨hs, hf⟩
  · exact allocate_of_queue_nil _ _ (by simpa using hq)
  · refine allocate_of_noneFree _ _ ?_
    rw [CabinUnit.lowestFree_eq_none] at hf ⊢
    intro m k hk hkg
    have hcbu : (setLink b none (endOffer n c .free s)).cbu = s.cbu.put n (c.unoffered.act .free) := rfl
    rw [hcbu] at hk
    by_cases hm : m = n
    · subst hm
      rw [CabinUnit.find_put_self _ _ _ c hc, Option.some.injEq] at hk
      subst hk
      simp [Cabin.act, Cabin.unoffered, hs]
    · rw [CabinUnit.find_put_other _ _ _ _ hm] at hk
      exact hf m k hk hkg

/-- An offer withdrawn while bands wait and no cabin of the group is Free: the cabin is offered to the head of the queue
(R62, R66). -/
theorem withdrawBand_nextOffer {b : BandNo} {s : State} {n : Nat} {c : Cabin} {e : QueueEntry} {rest : List QueueEntry}
    (h : (s.bdr.find b).bind (·.link) = some (.offered n)) (hc : s.cbu.find n = some c) (hs : c.state ≠ .unreachable)
    (hq : s.cbu.queue c.group = e :: rest) (hf : s.cbu.lowestFree c.group = none) :
    (withdrawBand b s).cbu.find n
        = some (c.offeredTo e ((s.sck.counter + (groupSetting s c.group).offerWindow) % 86400))
      ∧ (∀ m, m ≠ n → (withdrawBand b s).cbu.find m = s.cbu.find m) ∧ (withdrawBand b s).cbu.queue c.group = rest
      ∧ (withdrawBand b s).bdr
          = (s.bdr.update b (fun r => { r with link := none })).update e.band (fun r => { r with link := some (.offered n) }) := by
  have hfreed : c.unoffered.act .free = { c.unoffered with state := .free } := Cabin.act_state _ hs
  have hfind : (setLink b none (endOffer n c .free s)).cbu.find n = some (c.unoffered.act .free) :=
    CabinUnit.find_put_self _ _ _ c hc
  have hother : ∀ m, m ≠ n → (setLink b none (endOffer n c .free s)).cbu.find m = s.cbu.find m := fun m hm =>
    CabinUnit.find_put_other _ _ _ _ hm
  rw [withdrawBand_of_offered h hc]
  have key := allocate_offersToHead n (c.unoffered.act .free) e rest (setLink b none (endOffer n c .free s)) hfind
    (by rw [hfreed]) (by simpa using hq) (fun m k hm hk hkg =>
      (s.cbu.lowestFree_eq_none c.group).mp hf m k ((hother m hm).symm.trans hk) (by simpa using hkg))
  rw [Cabin.act_group, Cabin.unoffered_group, Cabin.unoffered_act_offeredTo e _ hs] at key
  obtain ⟨hn, hm, hqueue, -, hbdr⟩ := key
  exact ⟨hn, fun m hne => (hm m hne).trans (hother m hne), hqueue, by simpa using hbdr⟩

/-! ## BAR BAND and FORGET BAND -/

/-- A band In made Barred, before its withdrawal (R12 (a)). -/
def barred (b : BandNo) (s : State) : State := updateBand b (fun x => { x with state := .barred }) s

theorem barred_find {b : BandNo} {s : State} {r : BandRecord} (h : s.bdr.find b = some r) :
    (barred b s).bdr.find b = some { r with state := .barred } := by simp [barred, h]

theorem barred_link {b : BandNo} {s : State} {r : BandRecord} (h : s.bdr.find b = some r) :
    ((barred b s).bdr.find b).bind (·.link) = r.link := by simp [barred_find h]

theorem barBand_inside {b : BandNo} {s : State} {r : BandRecord} (h : s.bdr.find b = some r) (hs : r.state = .inside) :
    barBand b s = done .none (withdrawBand b (barred b s)) := by simp [barBand, h, hs, barred]

theorem exec_barBand {tag : Byte} {body : List Byte} {s : State} (h : Taken .barBand tag body s) :
    exec (.barBand tag body) s = .next (settleOwned tag (barBand (bandAt body 0) (popOrder s))) := by
  simp [exec, execBarBand, runOrder_taken _ _ _ _ _ h]

theorem exec_forgetBand {tag : Byte} {body : List Byte} {s : State} (h : Taken .forgetBand tag body s) :
    exec (.forgetBand tag body) s = .next (settleOwned tag (forgetBand (bandAt body 0) (popOrder s))) := by
  simp [exec, execForgetBand, runOrder_taken _ _ _ _ _ h]

/-- Settles O22: BAR BAND by the band's state and then by its link, FORGET BAND by its checks. -/
theorem barAndForgetBand : Obligations.BarAndForgetBand := by
  refine ⟨fun tag body s r h hr => ⟨fun hs => ?_, fun hs => ?_, fun hs => ?_⟩, fun tag body s r h hr =>
    ⟨fun hs hl hk => ?_, fun hs => ?_, fun hs hb => ?_⟩⟩
  · rw [exec_barBand h]
    generalize hu : barred (bandAt body 0) (popOrder s) = u
    have hrp : (popOrder s).bdr.find (bandAt body 0) = some r := hr
    have hfind : u.bdr.find (bandAt body 0) = some { r with state := .barred } := hu ▸ barred_find hrp
    have hlink : (u.bdr.find (bandAt body 0)).bind (·.link) = r.link := hu ▸ barred_link hrp
    have hcbu : u.cbu = s.cbu := by rw [← hu]; simp [barred]
    have hsu : KeepsAllBut [.bdr, .lkc] s u := by rw [← hu]; simp [keepsAllBut_iff, barred]
    have hwindow : ∀ g, (u.sck.counter + (groupSetting u g).offerWindow) % 86400
        = (s.sck.counter + (groupSetting s g).offerWindow) % 86400 := fun g => by rw [← hu]; rfl
    refine ⟨_, rfl, ?_⟩
    rw [barBand_inside hrp hs, hu, settleOwned_done]
    refine ⟨answered_placeAnswer _ _, ?_, ?_, fun hl => ?_, fun g n hl => ?_, fun n c hl hc hq => ?_,
      fun n c e rest re hl hc hcs hq hf he hre => ?_⟩
    · have := withdrawBand_unlinked (bandAt body 0) (bandAt body 0) u
      simpa [BandRecord.unlinked, hfind] using this
    · exact (hsu.mono (by simp)).trans (by simp [keepsAllBut_iff])
    · have hw : withdrawBand (bandAt body 0) u = u := by
        rcases hl with hl | ⟨c, hl⟩
        · exact withdrawBand_of_none (hlink.trans hl)
        · exact withdrawBand_of_holding (hlink.trans hl)
      rw [hw]
      exact ⟨by simp [hfind], hsu.trans (by simp [keepsAllBut_iff])⟩
    · rw [withdrawBand_of_queued (hlink.trans hl)]
      refine ⟨by simp [removeEntry, hfind], ?_⟩
      simp only [placeAnswer_keeps, setLink_keeps, removeEntry, setQueue_cbu, hcbu]
      exact CabinUnit.queue_updateQueue s.cbu g _ rfl
    · rw [withdrawBand_noOffer (hlink.trans hl) (hcbu ▸ hc) (.inl (hcbu ▸ hq))]
      simp only [placeAnswer_keeps, setLink_keeps, setLink_bdr, endOffer_cbu, endOffer_keeps, hcbu]
      exact ⟨by simp [hfind], CabinUnit.find_put_self _ _ _ c hc, fun m hm => CabinUnit.find_put_other _ _ _ _ hm, rfl⟩
    · obtain ⟨hn, hm, hqueue, hbdr⟩ := withdrawBand_nextOffer (hlink.trans hl) (hcbu ▸ hc) (by simp [hcs]) (hcbu ▸ hq) (hcbu ▸ hf)
      have hre' : u.bdr.find e.band = some re := by
        rw [← hu]; simpa [barred, he] using hre
      simp only [placeAnswer_keeps, hbdr]
      exact ⟨by simp [he.symm, hfind], hwindow _ ▸ hn, hcbu ▸ hm, hqueue, by simp [he, hre']⟩
  · simp [exec_barBand h, barBand, hr, hs]
  · simp [exec_barBand h, barBand, hr, hs]
  · have hforget : forgetBand (bandAt body 0) (popOrder s)
        = done .none { popOrder s with bdr := s.bdr.free (bandAt body 0) } := by simp [forgetBand, hr, hs, hl, hk]
    rw [exec_forgetBand h]
    refine ⟨_, rfl, ?_⟩
    rw [hforget, settleOwned_done]
    have hparties : (s.bdr.free (bandAt body 0)).parties = partiesWithout (bandAt body 0) r.party s.bdr.parties := by
      simp [BandRegister.free_parties, hr]
    exact ⟨answered_placeAnswer _ _, by simp, fun b hb => by simp [hb], by simp,
      fun hp => by simp [hparties, hp, partiesWithout_none], by simpa using hparties, by simp [keepsAllBut_iff]⟩
  · simp [exec_forgetBand h, forgetBand, hr, hs]
  · have hbound : r.lockers ≠ [] ∨ r.link.isSome = true := hb.imp_right Option.isSome_iff_ne_none.mpr
    simp [exec_forgetBand h, forgetBand, hr, hs, hbound]

/-! ## REPLACE BAND (R13, R14) -/

theorem BandRegister.replace_masters (r : BandRegister) (old : BandRecord) (new : BandNo) :
    (r.replace old new).masters = r.masters := rfl

theorem BandRegister.replace_parties (r : BandRegister) (old : BandRecord) (new : BandNo) :
    (r.replace old new).parties
      = r.parties.map (fun p =>
          if old.party = some p.number then
            { p with members := p.members.map (fun m => if m = old.number then new else m) }
          else p) := rfl

/-- The old record rewritten, before the new one is added. -/
theorem BandRegister.find_rewritten (r r' : BandRegister) (old : BandRecord) (new b : BandNo) (h : r'.bands = r.bands) :
    (r'.update old.number (fun x => replacedRecord x new)).find b
      = if b = old.number then (r.find b).map (fun x => replacedRecord x new) else r.find b := by
  have hfind : r'.find b = r.find b := by rw [BandRegister.find, h]; rfl
  rw [BandRegister.find_update r' old.number b (fun x => replacedRecord x new) (fun _ => rfl), hfind]

theorem BandRegister.find_replace_new (r : BandRegister) (old : BandRecord) (new : BandNo) (hnew : r.find new = none) :
    (r.replace old new).find new = some (replacementRecord old new r.freeSlot) := by
  refine BandRegister.find_add_self _ (replacementRecord old new r.freeSlot) ?_
  refine (BandRegister.find_rewritten r _ old new _ rfl).trans ?_
  simp [replacementRecord, hnew]

theorem BandRegister.find_replace_old (r : BandRegister) (old : BandRecord) (new : BandNo) (hold : r.find old.number = some old)
    (hne : old.number ≠ new) : (r.replace old new).find old.number = some (replacedRecord old new) := by
  refine (BandRegister.find_add_other _ (replacementRecord old new r.freeSlot) old.number hne).trans ?_
  refine (BandRegister.find_rewritten r _ old new _ rfl).trans ?_
  rw [if_pos rfl, hold, Option.map_some]

theorem BandRegister.find_replace_other (r : BandRegister) (old : BandRecord) (new b : BandNo) (hold : b ≠ old.number)
    (hnew : b ≠ new) : (r.replace old new).find b = r.find b := by
  refine (BandRegister.find_add_other _ (replacementRecord old new r.freeSlot) b hnew).trans ?_
  exact (BandRegister.find_rewritten r _ old new _ rfl).trans (if_neg hold)

theorem rehold_find_self (new : BandNo) (s : State) (n : Nat) :
    (rehold new s n).lmu.find n = (s.lmu.find n).map (fun l => { l with holder := some new }) := by
  unfold rehold
  split
  · next h => simp [h]
  · next l h => simp [LockerMap.find_put_self, h]

theorem rehold_find_other (new : BandNo) (s : State) (n m : Nat) (hm : m ≠ n) :
    (rehold new s n).lmu.find m = s.lmu.find m := by
  unfold rehold
  split
  · rfl
  · simp [LockerMap.find_put_other _ _ _ _ hm]

/-- The lockers of a band's list name the new band, and no other locker changes (R14 (a), R26). -/
theorem foldl_rehold_find (new : BandNo) (l : List Nat) (s : State) (m : Nat) :
    (l.foldl (rehold new) s).lmu.find m
      = if m ∈ l then (s.lmu.find m).map (fun l => { l with holder := some new }) else s.lmu.find m :=
  foldl_entries (fun t n => t.lmu.find n) (rehold new) (fun l => { l with holder := some new })
    (rehold_find_self new) (fun t n m => rehold_find_other new t n m) (fun _ => rfl) l s m

theorem relink_cabin (old new : BandNo) (link : Option CabinLink) (s : State) (n : Nat) (c : Cabin)
    (h : link = some (.offered n) ∨ link = some (.holding n)) (hc : s.cbu.find n = some c) :
    relink old new link s = putCabin n { c with band := some new } s := by
  rcases h with rfl | rfl <;> simp [relink, hc]

/-- REPLACE BAND that passes its checks (R13, R14). -/
theorem replaceBand_moves (old new : BandNo) (s : State) (r : BandRecord) (hr : s.bdr.find old = some r) (hq : r.state ≠ .quoted)
    (hbar : ¬(r.state = .barred ∧ r.replacedBy.isSome = true)) (hinv : invalidBand new = false) (hnew : s.bdr.find new = none)
    (hm : s.bdr.master new = none) (hlen : s.bdr.bands.length < 2048) :
    replaceBand old new s
      = done .none (relink old new r.link (r.lockers.foldl (rehold new) { s with bdr := s.bdr.replace r new })) := by
  have hlen' : ¬Config.maxBands ≤ s.bdr.bands.length := by simp only [Config.maxBands]; omega
  simp [replaceBand, hr, hq, hbar, hinv, hnew, hm, hlen']

/-- Settles O23: the band register's part, the lockers' and the cabin unit's, each by its own rule. -/
theorem replaceBandMovesTheTenancy : Obligations.ReplaceBandMovesTheTenancy := by
  intro tag body s r h hr hq hbar hinv hnew hm hlen
  have hexec : exec (.replaceBand tag body) s
      = .next (settleOwned tag (replaceBand (bandAt body 0) (bandAt body 5) (popOrder s))) := by
    simp [exec, execReplaceBand, runOrder_taken _ _ _ _ _ h]
  have hnum : r.number = bandAt body 0 := BandRegister.find_number hr
  have hne : bandAt body 0 ≠ bandAt body 5 := fun heq => by simp [heq, hnew] at hr
  refine ⟨_, hexec, ?_⟩
  rw [replaceBand_moves _ _ (popOrder s) r hr hq hbar hinv hnew hm hlen, settleOwned_done]
  generalize hu : ({ popOrder s with bdr := (popOrder s).bdr.replace r (bandAt body 5) } : State) = u
  have hubdr : u.bdr = s.bdr.replace r (bandAt body 5) := by rw [← hu]; rfl
  have hucbu : u.cbu = s.cbu := by rw [← hu]; rfl
  have hulmu : u.lmu = s.lmu := by rw [← hu]; rfl
  have hsu : KeepsAllBut [.bdr, .lmu, .cbu, .lkc] s u := by rw [← hu]; simp [keepsAllBut_iff]
  refine ⟨answered_placeAnswer _ _, ?_, ?_, fun b hb hb' => ?_, ?_, ?_, fun n l hn hl => ?_, fun n hn => ?_, fun hl => ?_,
    fun g n hl => ?_, fun n c hl hc => ?_, hsu.trans (by simp [keepsAllBut_iff])⟩
  · simpa [hubdr, replacementRecord] using s.bdr.find_replace_new r _ hnew
  · simpa [hubdr, hnum, replacedRecord] using s.bdr.find_replace_old r (bandAt body 5) (hnum ▸ hr) (hnum ▸ hne)
  · simpa [hubdr] using s.bdr.find_replace_other r (bandAt body 5) b (hnum ▸ hb) hb'
  · simpa [hubdr] using s.bdr.replace_masters r (bandAt body 5)
  · simpa [hubdr, hnum] using s.bdr.replace_parties r (bandAt body 5)
  · simp [foldl_rehold_find, hn, hulmu, hl]
  · simp [foldl_rehold_find, hn, hulmu]
  · simp [hl, relink, hucbu]
  · simp only [placeAnswer_keeps, hl, relink, setQueue_cbu, foldl_cbu, rehold_keeps, hucbu, implies_true]
    refine ⟨rfl, fun k hk => ?_, CabinUnit.queue_updateQueue s.cbu g _ rfl⟩
    rw [CabinUnit.group_updateGroup, if_neg (Ne.symm hk)]
  · have hcu : (r.lockers.foldl (rehold (bandAt body 5)) u).cbu = s.cbu := by simp [hucbu]
    rw [relink_cabin _ _ _ _ n c hl (by rw [hcu]; exact hc)]
    simp only [placeAnswer_keeps, putCabin_cbu, hcu]
    exact ⟨CabinUnit.find_put_self _ _ _ c hc, rfl, fun m hm => CabinUnit.find_put_other _ _ _ _ hm⟩

end Sys2Proof.Machine

/-! Lockers: taps, refusals, masters and door events (R29 to R38). -/
namespace Sys2Proof.Machine

/-! ## The entry of a locker after each act -/

theorem LockerMap.find_put_some (m : LockerMap) (n : Nat) (l x : Locker) (h : m.find n = some x) :
    (m.put n l).find n = some l := by simp [LockerMap.find_put_self, h]

theorem settlePending_find (n : Nat) (l : Locker) (s : State) (h : s.lmu.find n = some l) :
    (settlePending n s).lmu.find n
      = some (if l.state = .vacant ∧ l.pendingOut = true then { l with state := .outOfService, pendingOut := false } else l) := by
  by_cases hp : l.state = .vacant ∧ l.pendingOut = true
  · simp [settlePending, h, hp, LockerMap.find_put_self]
  · simp [settlePending, h, hp]

theorem settlePending_find_other (n m : Nat) (s : State) (hm : m ≠ n) : (settlePending n s).lmu.find m = s.lmu.find m := by
  unfold settlePending
  (repeat' split) <;> simp [LockerMap.find_put_other _ _ _ _ hm]

/-- A locker vacated is given up, at once OutOfService where that is pending (R26, R40). -/
theorem vacate_find (n : Nat) (l x : Locker) (s : State) (h : s.lmu.find n = some x) :
    (vacate n l s).lmu.find n = some l.givenUp := by
  have hmoved : (dropLocker l.holder n
      (moveLocker n { l with state := .vacant, holder := none, openedBy := none, openingExpiry := none } s)).lmu.find n
        = some { l with state := .vacant, holder := none, openedBy := none, openingExpiry := none } := by
    simp [LockerMap.find_put_some _ _ _ _ h]
  rw [vacate, settlePending_find n _ _ hmoved]
  cases hp : l.pendingOut <;> simp [Locker.givenUp, hp]

theorem vacate_find_other (n m : Nat) (l : Locker) (s : State) (hm : m ≠ n) :
    (vacate n l s).lmu.find m = s.lmu.find m := by
  simp [vacate, settlePending_find_other n m _ hm, LockerMap.find_put_other _ _ _ _ hm]

theorem vacate_bdr (n : Nat) (l : Locker) (s : State) : (vacate n l s).bdr = (dropLocker l.holder n s).bdr := by
  cases hh : l.holder <;> simp [vacate, dropLocker, hh]

@[simp] theorem settleTo_lmu (n : Nat) (l : Locker) (st : LockerState) (s : State) :
    (settleTo n l st s).lmu = s.lmu.put n { l with state := st, openedBy := none, openingExpiry := none } := rfl

@[simp] theorem forceLocker_lmu (n : Nat) (l : Locker) (cause : AlarmCause) (s : State) :
    (forceLocker n l cause s).lmu = s.lmu.put n { l with state := .forced } := rfl

@[simp] theorem startOpening_lmu (n : Nat) (l : Locker) (opener : Opener) (s : State) :
    (startOpening n l opener s).lmu
      = s.lmu.put n
          { l with state := .opening, openedBy := some opener,
                   openingExpiry := some ((s.sck.counter + s.table.openWindow) % 86400) } := rfl

@[simp] theorem renewOpening_lmu (n : Nat) (l : Locker) (opener : Opener) (s : State) :
    (renewOpening n l opener s).lmu
      = s.lmu.put n
          { l with openingExpiry := some ((s.sck.counter + s.table.openWindow) % 86400),
                   openedBy := if opener = .master then some .master else l.openedBy } := rfl

/-- A locker whose door opens in the window follows the table of R33. -/
theorem openedInWindow_find (n : Nat) (l x : Locker) (s : State) (h : s.lmu.find n = some x) :
    (openedInWindow n l s).lmu.find n = some l.openedAt := by
  by_cases hh : l.holder = none
  · simp [openedInWindow, Locker.openedAt, hh, vacate_find n l x s h]
  · by_cases hm : l.openedBy = some .master
    · simp [openedInWindow, Locker.openedAt, hh, hm, LockerMap.find_put_some _ _ _ _ h]
    · by_cases hr : l.claimRetention = some .single
      · simp [openedInWindow, Locker.openedAt, hh, hm, hr, vacate_find n l x s h]
      · simp [openedInWindow, Locker.openedAt, hh, hm, hr, LockerMap.find_put_some _ _ _ _ h]

theorem openedInWindow_find_other (n m : Nat) (l : Locker) (s : State) (hm : m ≠ n) :
    (openedInWindow n l s).lmu.find m = s.lmu.find m := by
  unfold openedInWindow
  (repeat' split) <;> simp [vacate_find_other n m l s hm, LockerMap.find_put_other _ _ _ _ hm]

/-- A claim (R31). -/
theorem claimLocker_lmu (n : Nat) (l : Locker) (b : BandNo) (s : State) :
    (claimLocker n l b s).lmu
      = s.lmu.put n
          { l with
            state := .held, holder := some b, claimRetention := some l.retention, useCount := countUse l.useCount,
            serviceNotified := l.serviceNotified
              || serviceDue s.table.serviceInterval (countUse l.useCount) l.serviceNotified } := by
  unfold claimLocker; dsimp only; split <;> simp

theorem claimLocker_bdr (n : Nat) (l : Locker) (b : BandNo) (s : State) :
    (claimLocker n l b s).bdr = s.bdr.update b (fun r => { r with lockers := r.lockers ++ [n] }) := by
  unfold claimLocker; dsimp only; split <;> simp

/-! ## What a presentation does, by the tables of R29 and R30 -/

/-- The band is of the holder or of its party (R20). -/
theorem Locker.entitles_of_holder {l : Locker} {r : BandRecord} {b : BandNo} {s : State} (hb : l.holder = some b)
    (h : b = r.number ∨ s.bdr.sameParty b r.number = true) : l.entitles r s = true := by
  simpa [Locker.entitles, hb] using h

theorem Locker.not_entitles {l : Locker} {r : BandRecord} {s : State}
    (h : ∀ b, l.holder = some b → b ≠ r.number ∧ s.bdr.sameParty b r.number = false) : l.entitles r s = false := by
  cases hb : l.holder with
  | none => simp [Locker.entitles, hb]
  | some b => simpa [Locker.entitles, hb] using h b hb

theorem claimRefusal_eq_none {l : Locker} {r : BandRecord} {s : State} (hd : l.doorOpen = false)
    (ha : r.lockers.length < tariffAllowance s.liveBank r.cls)
    (hst : l.staffOnly = true → tariffStaffRight s.liveBank r.cls = true) : claimRefusal l r s = none := by
  have ha' : ¬tariffAllowance s.liveBank r.cls ≤ r.lockers.length := by omega
  cases hso : l.staffOnly <;> simp_all [claimRefusal]

/-- A claim that passes the tests of R30. -/
theorem presentAtLocker_claim (n : Nat) (l : Locker) (r : BandRecord) (s : State) (hl : s.lmu.find n = some l)
    (hs : l.state = .vacant) (hday : s.sck.day = .opened) (hr : r.state = .inside) (hd : l.doorOpen = false)
    (ha : r.lockers.length < tariffAllowance s.liveBank r.cls)
    (hst : l.staffOnly = true → tariffStaffRight s.liveBank r.cls = true) :
    presentAtLocker n r s = claimLocker n l r.number s := by
  simp [presentAtLocker, hl, hs, hday, hr, claimRefusal_eq_none hd ha hst]

/-- An entitled band at a Held, an Opening and an Open locker (R29, R32, R35). -/
theorem presentAtLocker_entitled (n : Nat) (l : Locker) (r : BandRecord) (s : State) (hl : s.lmu.find n = some l)
    (he : l.entitles r s = true) (hr : r.state ≠ .quoted) :
    (l.state = .held → presentAtLocker n r s = startOpening n l .band s)
      ∧ (l.state = .opening → presentAtLocker n r s = renewOpening n l .band s)
      ∧ (l.state = .opened → presentAtLocker n r s = acceptAtLocker n (vacate n l s)) := by
  refine ⟨fun hs => ?_, fun hs => ?_, fun hs => ?_⟩ <;> simp [presentAtLocker, hl, hs, hr, he]

theorem presentAtLocker_unreachable (n : Nat) (l : Locker) (r : BandRecord) (s : State) (hl : s.lmu.find n = some l)
    (hs : l.state = .unreachable) : presentAtLocker n r s = s := by simp [presentAtLocker, hl, hs]

theorem refuseAtLocker_shown (n : Nat) (code : DisplayCode) (s t : State) (h : t = refuseAtLocker n code s) :
    KeepsAllBut [.flm] s t ∧ RefusalShown { station := lockerBank n + 1, door := lockerDoor n } code s t := by
  subst h
  exact ⟨by simp [keepsAllBut_iff], refusalShown_refuseAt { station := lockerBank n + 1, door := lockerDoor n } code s s rfl⟩

/-! ## Forced lockers counted, and the bank's sounder (R37) -/

theorem LockerMap.countIn_put (m : LockerMap) (n : Nat) (l old : Locker) (st : LockerState) (h : m.find n = some old) :
    (m.put n l).countIn (lockerBank n) st + (if old.state = st then 1 else 0)
      = m.countIn (lockerBank n) st + (if l.state = st then 1 else 0) := by
  have hset : ∀ (ls : List Locker) (d : Nat), ls[d]? = some old →
      ((ls.set d l).filter (fun x => x.state = st)).length + (if old.state = st then 1 else 0)
        = (ls.filter (fun x => x.state = st)).length + (if l.state = st then 1 else 0) := fun ls => by
    induction ls with
    | nil => intro d hd; simp at hd
    | cons y ys ih =>
      intro d hd
      cases d with
      | zero =>
        simp only [List.getElem?_cons_zero, Option.some.injEq] at hd
        subst hd
        by_cases h1 : y.state = st <;> by_cases h2 : l.state = st <;> simp [h1, h2]
      | succ d =>
        have := ih d (by simpa using hd)
        by_cases h1 : y.state = st
        · simp only [List.set_cons_succ, List.filter_cons, h1, decide_true, if_true, List.length_cons]; omega
        · simpa [h1] using this
  simp only [LockerMap.find, Option.bind_eq_some_iff] at h
  obtain ⟨b, hb, hd⟩ := h
  simp only [LockerMap.countIn, LockerMap.put, List.getElem?_modify, hb, Option.map_eq_map, Option.map_some,
    Option.getD_some, if_true, Bank.put_lockers]
  exact hset b.lockers _ hd

theorem settlePending_countIn (n : Nat) (s : State) :
    (settlePending n s).lmu.countIn (lockerBank n) .forced = s.lmu.countIn (lockerBank n) .forced := by
  unfold settlePending
  split
  · rfl
  · next l hl =>
    split
    · next hv =>
      have := s.lmu.countIn_put n { l with state := .outOfService, pendingOut := false } l .forced hl
      simp only [Bool.and_eq_true, decide_eq_true_eq] at hv
      simpa [hv.1] using this
    · rfl

theorem vacate_countIn (n : Nat) (l : Locker) (s : State) (h : s.lmu.find n = some l) (hl : l.state = .forced) :
    (vacate n l s).lmu.countIn (lockerBank n) .forced + 1 = s.lmu.countIn (lockerBank n) .forced := by
  have := s.lmu.countIn_put n { l with state := .vacant, holder := none, openedBy := none, openingExpiry := none } l .forced h
  rw [vacate, settlePending_countIn]
  simpa [hl] using this

/-! ## Sounders left alone -/

theorem showLocker_sounderKept (addr n : Nat) (s : State) : s.flm.SounderKept addr (showLocker n s).flm := by
  simp only [showLocker, FieldLine.showLocker]
  split
  · exact .refl _ _
  · exact FieldLine.sounderKept_update _ _ _ _ (by simp) (by simp [Station.value_writeMarked])

theorem moveLocker_sounderKept (addr n : Nat) (l : Locker) (s : State) : s.flm.SounderKept addr (moveLocker n l s).flm :=
  showLocker_sounderKept addr n (putLocker n l s)

theorem vacate_sounderKept (addr n : Nat) (l : Locker) (s : State) : s.flm.SounderKept addr (vacate n l s).flm := by
  have hdrop : s.flm.SounderKept addr (dropLocker l.holder n
      (moveLocker n { l with state := .vacant, holder := none, openedBy := none, openingExpiry := none } s)).flm := by
    simpa using moveLocker_sounderKept addr n _ s
  unfold vacate settlePending
  split
  · exact hdrop
  · split
    · exact hdrop.trans (moveLocker_sounderKept addr n _ _)
    · exact hdrop

theorem Station.alarm_setAlarm (st : Station) (on : Bool) (h : st.value .sounder ≠ none) : (st.setAlarm on).alarm = on := by
  obtain ⟨v, hv⟩ := Option.ne_none_iff_exists'.mp h
  simp [Station.setAlarm, Station.alarm, hv]

/-! ## A Forced locker cleared (R37) -/

/-- A Forced locker before its bank's sounder is looked at: vacated where nobody holds it, else Open or Held by its door. -/
def unforced (n : Nat) (l : Locker) (s : State) : State :=
  if l.holder.isNone then vacate n l s
  else if l.doorOpen then settleTo n l .opened s
  else settleTo n l .held s

theorem clearLocker_eq (n : Nat) (l : Locker) (s : State) :
    clearLocker n l s = quietAlarm (lockerBank n) (unforced n l s) := rfl

section
variable (n : Nat) (l : Locker) (s : State)

theorem unforced_find (h : s.lmu.find n = some l) :
    (unforced n l s).lmu.find n = some
      (if l.holder.isSome then { l with state := if l.doorOpen then .opened else .held, openedBy := none, openingExpiry := none }
      else { l with state := if l.pendingOut then .outOfService else .vacant, openedBy := none, openingExpiry := none,
                    pendingOut := false }) := by
  cases hh : l.holder with
  | none => simp [unforced, hh, vacate_find n l l s h, Locker.givenUp]
  | some b => cases hd : l.doorOpen <;> simp [unforced, hh, hd, LockerMap.find_put_some _ _ _ _ h]

theorem unforced_find_other (m : Nat) (hm : m ≠ n) : (unforced n l s).lmu.find m = s.lmu.find m := by
  unfold unforced
  (repeat' split) <;> simp [vacate_find_other n m l s hm, LockerMap.find_put_other _ _ _ _ hm]

theorem unforced_bdr : (unforced n l s).bdr = s.bdr := by
  unfold unforced
  split
  · next hh => simp [vacate_bdr, dropLocker, Option.isNone_iff_eq_none.mp hh]
  · split <;> simp

theorem unforced_keeps : KeepsAllBut [.lmu, .flm, .lkc] s (unforced n l s) := by
  have hbdr := unforced_bdr n l s
  have hrest : KeepsAllBut [.bdr, .lmu, .flm, .lkc] s (unforced n l s) := by
    unfold unforced; (repeat' split) <;> simp [keepsAllBut_iff]
  intro b hb
  by_cases hbb : b = .bdr
  · subst hbb; exact hbdr
  · exact hrest b (by simp_all)

theorem unforced_countIn (h : s.lmu.find n = some l) (hl : l.state = .forced) :
    (unforced n l s).lmu.countIn (lockerBank n) .forced + 1 = s.lmu.countIn (lockerBank n) .forced := by
  have hput : ∀ st, st ≠ .forced →
      (settleTo n l st s).lmu.countIn (lockerBank n) .forced + 1 = s.lmu.countIn (lockerBank n) .forced := fun st hst => by
    simpa [hl, hst] using
      s.lmu.countIn_put n { l with state := st, openedBy := none, openingExpiry := none } l .forced h
  unfold unforced
  split
  · exact vacate_countIn n l s h hl
  · split
    · exact hput .opened nofun
    · exact hput .held nofun

theorem unforced_sounderKept (addr : Nat) : s.flm.SounderKept addr (unforced n l s).flm := by
  unfold unforced
  split
  · exact vacate_sounderKept addr n l s
  · split <;> exact moveLocker_sounderKept addr n _ s

/-- The bank's sounder after a Forced locker is cleared with Accept: the pattern where it was the last, the Alarm where another
remains (R37, R138). -/
theorem clearLocker_sounder (h : s.lmu.find n = some l) (hl : l.state = .forced) (st : Station)
    (hst : s.flm.find (lockerBank n + 1) = some st) (v : EntryValue) (hv : st.value .sounder = some v) :
    ∃ st', (acceptAtLocker n (clearLocker n l s)).flm.find (lockerBank n + 1) = some st'
      ∧ (s.lmu.countIn (lockerBank n) .forced = 1 → st'.value .sounder = some (.sounder false (some .accept)))
      ∧ (1 < s.lmu.countIn (lockerBank n) .forced → st.alarm = true → st'.value .sounder = some v) := by
  obtain ⟨st1, hst1, hv1⟩ := unforced_sounderKept n l s (lockerBank n + 1) st hst
  have hcount := unforced_countIn n l s h hl
  rw [clearLocker_eq, acceptAtLocker, bankAddr, playOnce_flm, FieldLine.find_update _ _ _ _ (fun st => st.oneShot_addr _),
    if_pos rfl]
  by_cases hlast : (unforced n l s).lmu.countIn (lockerBank n) .forced = 0
  · have hone : s.lmu.countIn (lockerBank n) .forced = 1 := by omega
    have hquiet : (quietAlarm (lockerBank n) (unforced n l s)).flm.find (lockerBank n + 1)
        = some (if st1.alarm then st1.setAlarm false else st1) := by
      rw [quietAlarm, if_pos hlast, bankAddr]
      refine (FieldLine.find_update _ _ _ _ (fun st => ?_)).trans (by rw [if_pos rfl, hst1, Option.map_some])
      split <;> rfl
    refine ⟨_, by rw [hquiet, Option.map_some], fun _ => ?_, fun hmore => by omega⟩
    have hsome : st1.value .sounder = some v := hv1.trans hv
    refine Station.oneShot_sounder _ _ ?_ ?_
    · split
      · exact Station.alarm_setAlarm st1 false (by simp [hsome])
      · next ha => exact Bool.not_eq_true _ ▸ ha
    · split <;> simp [Station.setAlarm, hsome]
  · refine ⟨_, by rw [quietAlarm, if_neg hlast, hst1, Option.map_some], fun hone => by omega, fun _ ha => ?_⟩
    rw [Station.oneShot, Station.alarm_congr hv1, if_pos ha, hv1, hv]

end

/-! ## The clauses of O26 -/

/-- A door that opens on a Held or an Orphaned locker (R36). -/
theorem lockerDoorEvent_forces (n : Nat) (l : Locker) (s : State) (hl : s.lmu.find n = some l)
    (hs : l.state = .held ∨ l.state = .orphaned) :
    (lockerDoorEvent n true s).lmu.find n = some { l with state := .forced, doorOpen := true }
      ∧ (∀ m, m ≠ n → (lockerDoorEvent n true s).lmu.find m = s.lmu.find m)
      ∧ (lockerDoorEvent n true s).cnu.bits.getLsbD 0 = true
      ∧ KeepsAllBut [.lmu, .flm, .lkc, .cnu] s (lockerDoorEvent n true s) := by
  have hforce : ∃ cause, lockerDoorEvent n true s
      = forceLocker n { l with doorOpen := true } cause (putLocker n { l with doorOpen := true } s) := by
    rcases hs with hs | hs
    · exact ⟨.openedWhileHeld, by simp [lockerDoorEvent, hl, hs]⟩
    · exact ⟨.openedWhileOrphaned, by simp [lockerDoorEvent, hl, hs]⟩
  obtain ⟨cause, hforce⟩ := hforce
  rw [hforce]
  refine ⟨?_, fun m hm => ?_, ?_, by simp [keepsAllBut_iff]⟩
  · simp [LockerMap.find_put_self, hl]
  · simp [LockerMap.find_put_other _ _ _ _ hm]
  · simp [forceLocker, NoticeContent.cls, NoticeClass.code]

/-- The door of an Opening locker opens (R33). -/
theorem lockerDoorEvent_opening (n : Nat) (l : Locker) (s : State) (hl : s.lmu.find n = some l) (hs : l.state = .opening) :
    lockerDoorEvent n true s
      = openedInWindow n { l with doorOpen := true } (putLocker n { l with doorOpen := true } s) := by
  simp [lockerDoorEvent, hl, hs]

/-- The door of an Open locker closes (R35). -/
theorem lockerDoorEvent_closes (n : Nat) (l : Locker) (s : State) (hl : s.lmu.find n = some l) (hs : l.state = .opened) :
    lockerDoorEvent n false s
      = settleTo n { l with doorOpen := false } .held (putLocker n { l with doorOpen := false } s) := by
  simp [lockerDoorEvent, hl, hs]

/-- An Accept at a locker of whose state a master band makes nothing (R29). -/
theorem acceptAtLocker_played (n : Nat) (s t : State) (h : t = acceptAtLocker n s) :
    KeepsAllBut [.flm] s t ∧ PatternPlayed (lockerBank n + 1) .accept s t := by
  subst h
  exact ⟨by simp [keepsAllBut_iff], patternPlayed_playOnce (lockerBank n + 1) .accept s s (.refl _ _)⟩

/-- What R29 and R30 refuse, and what a locker's state refuses, with its code. -/
theorem presentAtLocker_refused (n : Nat) (l : Locker) (r : BandRecord) (s : State) (hl : s.lmu.find n = some l)
    (code : DisplayCode)
    (h : (l.state = .vacant ∧ s.sck.day = .closed ∧ code = .cl)
      ∨ (l.state ≠ .unreachable ∧ ¬(l.state = .vacant ∧ s.sck.day = .closed) ∧ r.state = .quoted ∧ code = .se)
      ∨ (r.state ≠ .quoted ∧ l.state = .vacant ∧ s.sck.day = .opened ∧
          ((l.staffOnly = true ∧ tariffStaffRight s.liveBank r.cls = false ∧ code = .st)
          ∨ ((l.staffOnly = true → tariffStaffRight s.liveBank r.cls = true) ∧
              ((tariffAllowance s.liveBank r.cls ≤ r.lockers.length ∧ code = .fl)
              ∨ (r.lockers.length < tariffAllowance s.liveBank r.cls ∧ l.doorOpen = true ∧ code = .doorOpen)))))
      ∨ (r.state ≠ .quoted ∧ (l.state = .held ∨ l.state = .opening ∨ l.state = .opened) ∧
          (∀ b, l.holder = some b → b ≠ r.number ∧ s.bdr.sameParty b r.number = false) ∧ code = .no)
      ∨ (r.state ≠ .quoted ∧ l.state = .forced ∧ code = .al)
      ∨ (r.state ≠ .quoted ∧ l.state = .orphaned ∧ code = .orphan)
      ∨ (r.state ≠ .quoted ∧ l.state = .outOfService ∧ code = .os)) :
    presentAtLocker n r s = refuseAtLocker n code s := by
  rcases h with ⟨hs, hday, rfl⟩ | ⟨hs, hday, hq, rfl⟩ | ⟨hq, hs, hday, hclaim⟩ | ⟨hq, hs, hb, rfl⟩ | ⟨hq, hs, rfl⟩
    | ⟨hq, hs, rfl⟩ | ⟨hq, hs, rfl⟩
  · simp [presentAtLocker, hl, hs, hday]
  · simp [presentAtLocker, hl, hs, hday, hq]
  · have hrefusal : claimRefusal l r s = some code := by
      rcases hclaim with ⟨hso, hright, rfl⟩ | ⟨hso, ⟨ha, rfl⟩ | ⟨ha, hd, rfl⟩⟩
      · simp [claimRefusal, hso, hright]
      · cases hst : l.staffOnly <;> simp_all [claimRefusal]
      · have ha' : ¬tariffAllowance s.liveBank r.cls ≤ r.lockers.length := by omega
        cases hst : l.staffOnly <;> simp_all [claimRefusal]
    simp [presentAtLocker, hl, hs, hday, hq, hrefusal]
  · have he := Locker.not_entitles hb
    rcases hs with hs | hs | hs <;> simp [presentAtLocker, hl, hs, hq, he]
  · simp [presentAtLocker, hl, hs, hq]
  · simp [presentAtLocker, hl, hs, hq]
  · simp [presentAtLocker, hl, hs, hq]

/-- Settles O26. -/
theorem lockerTapsAndDoors : Obligations.LockerTapsAndDoors := by
  refine ⟨?claim, ?forced, ?entitled, ?opened, ?refused, ?master⟩
  case claim =>
    intro n l r s hl hs hday hr hd ha hst
    rw [presentAtLocker_claim n l r s hl hs hday hr hd ha hst]
    refine ⟨⟨_, by rw [claimLocker_lmu, LockerMap.find_put_some _ _ _ _ hl], rfl, rfl, rfl, rfl, ?_⟩, fun m hm => ?_,
      claimLocker_bdr n l r.number s, by simp [keepsAllBut_iff]⟩
    · cases hn : l.serviceNotified <;> simp [serviceDue, countUse]
    · rw [claimLocker_lmu, LockerMap.find_put_other _ _ _ _ hm]
  case forced => exact lockerDoorEvent_forces
  case entitled =>
    intro n l r b s hl hb hent hr
    obtain ⟨hheld, hopening, hopened⟩ := presentAtLocker_entitled n l r s hl (Locker.entitles_of_holder hb hent) hr
    refine ⟨fun hs => ?_, fun hs => ?_, fun hs => ?_⟩
    · rw [hheld hs, startOpening_lmu]
      exact ⟨LockerMap.find_put_some _ _ _ _ hl, fun m hm => LockerMap.find_put_other _ _ _ _ hm, by simp [keepsAllBut_iff]⟩
    · rw [hopening hs, renewOpening_lmu]
      exact ⟨LockerMap.find_put_some _ _ _ _ hl, by simp [keepsAllBut_iff]⟩
    · rw [hopened hs]
      simp only [acceptAtLocker_keeps]
      exact ⟨vacate_find n l l s hl, fun m hm => vacate_find_other n m l s hm, by simp [vacate_bdr, dropLocker, hb],
        by simp [keepsAllBut_iff]⟩
  case opened =>
    intro n l s hl
    refine ⟨fun hs => ?_, fun hs => ?_, fun hs => ?_⟩
    · have hmaster : masterAtLocker n s = startOpening n l .master s := by rcases hs with hs | hs <;> simp [masterAtLocker, hl, hs]
      rw [hmaster, startOpening_lmu]
      exact ⟨LockerMap.find_put_some _ _ _ _ hl, by simp [keepsAllBut_iff]⟩
    · rw [lockerDoorEvent_opening n l s hl hs]
      refine ⟨openedInWindow_find n _ { l with doorOpen := true } _ (LockerMap.find_put_some _ _ _ _ hl), fun m hm => ?_,
        by simp [keepsAllBut_iff]⟩
      rw [openedInWindow_find_other n m _ _ hm, putLocker_lmu, LockerMap.find_put_other _ _ _ _ hm]
    · rw [lockerDoorEvent_closes n l s hl hs, settleTo_lmu]
      exact ⟨LockerMap.find_put_some _ _ _ _ (LockerMap.find_put_some _ _ _ _ hl), by simp [keepsAllBut_iff]⟩
  case refused =>
    intro n l r s hl
    exact ⟨presentAtLocker_unreachable n l r s hl, fun code h =>
      refuseAtLocker_shown n code s _ (presentAtLocker_refused n l r s hl code h)⟩
  case master =>
    intro n l s t hl ht
    refine ⟨fun hs => ?_, fun hs => ?_, fun hs => ?_, fun hs => ?_⟩
    · rw [ht]; simp [masterAtLocker, hl, hs]
    · refine acceptAtLocker_played n s t ?_
      rcases hs with hs | hs | hs <;> simp [ht, masterAtLocker, hl, hs]
    · have hmaster : masterAtLocker n s = renewOpening n l .master s := by simp [masterAtLocker, hl, hs]
      rw [ht, hmaster, renewOpening_lmu]
      refine ⟨by simp [LockerMap.find_put_some _ _ _ _ hl], fun m hm => LockerMap.find_put_other _ _ _ _ hm, ?_⟩
      simp [keepsAllBut_iff, renewOpening, acceptAtLocker, hl]
    · have hmaster : masterAtLocker n s = acceptAtLocker n (clearLocker n l s) := by simp [masterAtLocker, hl, hs]
      rw [ht, hmaster]
      have hkeep : KeepsAllBut [.lmu, .flm, .lkc] s (acceptAtLocker n (clearLocker n l s)) :=
        (unforced_keeps n l s).trans (by simp [keepsAllBut_iff, clearLocker_eq])
      simp only [acceptAtLocker_keeps, clearLocker_eq, quietAlarm_keeps]
      exact ⟨unforced_find n l s hl, unforced_find_other n l s, hkeep, clearLocker_sounder n l s hl hs⟩

end Sys2Proof.Machine

/-! Cabins: acceptance, renewal, release, refusals, masters and door events (R61, R64, R67, R68, R70). -/
namespace Sys2Proof.Machine

theorem groupSetting_congr {s t : State} (h : t.sts = s.sts) (g : Nat) : groupSetting t g = groupSetting s g := by
  simp [groupSetting, State.table, h]

/-! ## The entry of a cabin after each act -/

/-- A cabin released: OutOfService where that is pending, Free where the cleaning time is 0, else in Cleaning (R68, R71 (c)). -/
theorem Cabin.released_eq {c : Cabin} (h : c.state ≠ .unreachable) (now cleaningTime : Nat) :
    c.released now cleaningTime
      = if c.pendingOut then
          { c with band := none, overstayFlag := false, doorOpenSince := none, entryExpiry := none,
                   state := .outOfService, pendingOut := false }
        else if cleaningTime = 0 then
          { c with band := none, overstayFlag := false, doorOpenSince := none, entryExpiry := none, state := .free }
        else
          { c with band := none, overstayFlag := false, doorOpenSince := none, entryExpiry := none, state := .cleaning,
                   cleaningExpiry := some ((now + cleaningTime) % 86400) } := by
  simp only [Cabin.released, Cabin.act, h, if_false]
  rfl

theorem Cabin.cleaned_eq {c : Cabin} (h : c.state ≠ .unreachable) :
    c.cleaned = { c with state := if c.pendingOut then .outOfService else .free, cleaningExpiry := none, pendingOut := false } := by
  cases hp : c.pendingOut <;> simp [Cabin.cleaned, Cabin.act, h, hp]

@[simp] theorem releaseCabin_cbu (n : Nat) (c : Cabin) (s : State) :
    (releaseCabin n c s).cbu = s.cbu.put n (c.released s.sck.counter (groupSetting s c.group).cleaningTime) := by
  cases hb : c.band <;> simp [releaseCabin, hb, State.now]

/-- The overstayed minutes go to the band that the cabin names, and its link becomes absent (R68). -/
theorem releaseCabin_bdr (n : Nat) (c : Cabin) (b : BandNo) (s : State) (h : c.band = some b) :
    (releaseCabin n c s).bdr
      = s.bdr.update b (fun r => { r with overstay := min (r.overstay + (-c.counter).toNat) 1440, link := none }) := by
  have hover : c.overstayed = (-c.counter).toNat := by
    unfold Cabin.overstayed; split
    · rfl
    · omega
  simp [releaseCabin, h, addOverstay, hover]

@[simp] theorem endCleaning_cbu (n : Nat) (c : Cabin) (s : State) : (endCleaning n c s).cbu = s.cbu.put n c.cleaned := rfl

/-- The cabin that an offer's acceptance leaves (R64). -/
theorem acceptOffer_cbu (n : Nat) (c : Cabin) (k : Group) (s : State) (hk : s.cbu.group c.group = some k) :
    (acceptOffer n c s).cbu
      = s.cbu.put n
          { c with
            state := .occupied, ticketShown := none, offerExpiry := none, offerMisses := none, offerJoin := none,
            entryExpiry := some ((s.sck.counter + s.table.openWindow) % 86400), counter := k.currentLimit,
            loadedLimit := k.currentLimit, overstayFlag := false,
            doorOpenSince := if c.doorOpen then some s.sck.counter else none } := by
  cases hb : c.band <;> simp [acceptOffer, hk, hb, State.now, addSeconds, Config.daySeconds]

theorem acceptOffer_bdr (n : Nat) (c : Cabin) (b : BandNo) (s : State) (h : c.band = some b) :
    (acceptOffer n c s).bdr = s.bdr.update b (fun r => { r with link := some (.holding n) }) := by
  simp [acceptOffer, h]

@[simp] theorem renewEntry_cbu (n : Nat) (c : Cabin) (s : State) :
    (renewEntry n c s).cbu = s.cbu.put n { c with entryExpiry := some ((s.sck.counter + s.table.openWindow) % 86400) } := rfl

/-! ## The allocation that follows where a cabin has become Free (R62) -/

theorem allocateIfFree_of_free {n : Nat} {c : Cabin} {s : State} (hc : s.cbu.find n = some c) (hs : c.state = .free) :
    allocateIfFree n s = allocate c.group s := by simp [allocateIfFree, hc, hs]

/-- No allocation follows where the cabin has not become Free or nobody waits. -/
theorem allocateIfFree_idle {n : Nat} {c : Cabin} {s : State} (hc : s.cbu.find n = some c)
    (h : c.state ≠ .free ∨ s.cbu.queue c.group = []) : allocateIfFree n s = s := by
  rcases h with h | h
  · simp [allocateIfFree, hc, h]
  · by_cases hs : c.state = .free
    · rw [allocateIfFree_of_free hc hs, allocate_of_queue_nil _ _ h]
    · simp [allocateIfFree, hc, hs]

/-- A cabin written Free while no cabin of its group was, and bands wait: it is offered to the head of the queue, and nothing
else of the tables changes (R62, R63). -/
theorem allocateIfFree_offers {n : Nat} {c old : Cabin} {e : QueueEntry} {rest : List QueueEntry} {s u : State}
    (hold : s.cbu.find n = some old) (hu : u.cbu = s.cbu.put n c) (hsck : u.sck = s.sck) (hsts : u.sts = s.sts)
    (hs : c.state = .free) (hq : s.cbu.queue c.group = e :: rest) (hf : s.cbu.lowestFree c.group = none) :
    (allocateIfFree n u).cbu.find n
        = some (c.offeredTo e ((s.sck.counter + (groupSetting s c.group).offerWindow) % 86400))
      ∧ (∀ m, m ≠ n → (allocateIfFree n u).cbu.find m = s.cbu.find m) ∧ (allocateIfFree n u).cbu.queue c.group = rest
      ∧ (allocateIfFree n u).bdr = u.bdr.update e.band (fun r => { r with link := some (.offered n) }) := by
  have hfind : u.cbu.find n = some c := by rw [hu]; exact CabinUnit.find_put_self _ _ _ _ hold
  have hother : ∀ m, m ≠ n → u.cbu.find m = s.cbu.find m := fun m hm => by rw [hu]; exact CabinUnit.find_put_other _ _ _ _ hm
  have key := allocate_offersToHead n c e rest u hfind hs (by rw [hu]; exact hq) (fun m k hm hk hkg =>
    (s.cbu.lowestFree_eq_none c.group).mp hf m k ((hother m hm).symm.trans hk) hkg)
  rw [hsck, groupSetting_congr hsts] at key
  obtain ⟨hn, hm, hqueue, -, hbdr⟩ := key
  rw [allocateIfFree_of_free hfind hs]
  exact ⟨hn, fun m hne => (hm m hne).trans (hother m hne), hqueue, hbdr⟩

/-! ## Presentations at a cabin reader (R61) -/

theorem Cabin.entitles_of_band {c : Cabin} {r : BandRecord} {b : BandNo} {s : State} (hb : c.band = some b)
    (hr : r.state = .inside) (h : b = r.number ∨ s.bdr.sameParty b r.number = true) : c.entitles r s = true := by
  simpa [Cabin.entitles, hb, hr] using h

theorem Cabin.not_entitles {c : Cabin} {r : BandRecord} {s : State}
    (h : ∀ b, c.band = some b → b ≠ r.number ∧ s.bdr.sameParty b r.number = false) : c.entitles r s = false := by
  cases hb : c.band with
  | none => simp [Cabin.entitles, hb]
  | some b => simp [Cabin.entitles, hb, h b hb]

/-- An entitled band at an Offered and at an Occupied cabin (R64, R67, R68). -/
theorem presentAtCabin_entitled (n : Nat) (c : Cabin) (r : BandRecord) (s : State) (hc : s.cbu.find n = some c)
    (he : c.entitles r s = true) (hr : r.state = .inside) :
    (c.state = .offered → presentAtCabin n r s = acceptOffer n c s)
      ∧ (c.state = .occupied → c.entryExpiry ≠ none → presentAtCabin n r s = renewEntry n c s)
      ∧ (c.state = .occupied → c.entryExpiry = none →
          presentAtCabin n r s = allocateIfFree n (playOnce (cabinAddr n) .accept (releaseCabin n c s))) := by
  refine ⟨fun hs => ?_, fun hs hx => ?_, fun hs hx => ?_⟩
  · simp [presentAtCabin, hc, hs, hr, he]
  · obtain ⟨x, hx⟩ := Option.ne_none_iff_exists'.mp hx
    simp [presentAtCabin, hc, hs, hr, he, hx]
  · simp [presentAtCabin, hc, hs, hr, he, hx]

/-- What R61 refuses, with its code. -/
theorem presentAtCabin_refused (n : Nat) (c : Cabin) (r : BandRecord) (s : State) (hc : s.cbu.find n = some c)
    (code : DisplayCode)
    (h : (c.state ≠ .unreachable ∧ r.state = .quoted ∧ code = .se)
      ∨ (r.state ≠ .quoted ∧ c.state = .outOfService ∧ code = .os)
      ∨ (r.state ≠ .quoted ∧ (c.state = .free ∨ c.state = .cleaning) ∧ code = .no)
      ∨ (r.state ≠ .quoted ∧ (c.state = .offered ∨ c.state = .occupied) ∧
          (∀ b, c.band = some b → b ≠ r.number ∧ s.bdr.sameParty b r.number = false) ∧ code = .no)) :
    presentAtCabin n r s = refuseAt (cabinAddr n) 0 code s := by
  rcases h with ⟨hs, hq, rfl⟩ | ⟨hq, hs, rfl⟩ | ⟨hq, hs, rfl⟩ | ⟨hq, hs, hb, rfl⟩
  · simp [presentAtCabin, hc, hs, hq]
  · simp [presentAtCabin, hc, hs, hq]
  · cases he : c.entitles r s <;> rcases hs with hs | hs <;> simp [presentAtCabin, hc, hs, hq, he]
  · rcases hs with hs | hs <;> simp [presentAtCabin, hc, hs, hq, Cabin.not_entitles hb]

/-! ## Sounders left alone -/

theorem showCabin_sounderKept (addr n : Nat) (s : State) : s.flm.SounderKept addr (showCabin n s).flm := by
  simp only [showCabin, FieldLine.showCabin]
  split
  · exact .refl _ _
  · exact FieldLine.sounderKept_update _ _ _ _ (by simp) (by simp)

theorem moveCabin_sounderKept (addr n : Nat) (c : Cabin) (s : State) : s.flm.SounderKept addr (moveCabin n c s).flm :=
  showCabin_sounderKept addr n (putCabin n c s)

theorem releaseCabin_sounderKept (addr n : Nat) (c : Cabin) (s : State) :
    s.flm.SounderKept addr (releaseCabin n c s).flm := by
  have hflm : (releaseCabin n c s).flm
      = (moveCabin n (c.released s.now (groupSetting s c.group).cleaningTime) s).flm := by
    cases hb : c.band <;> simp [releaseCabin, hb]
  exact hflm ▸ moveCabin_sounderKept addr n _ s

theorem cabinAddr_eq (n : Nat) : cabinAddr n = n + 33 := Nat.add_comm 33 n

theorem kindOf_cabin {n : Nat} (h : n < 48) : kindOf (n + 33) = .cabinUnit := by
  simp only [kindOf]; rw [if_neg (by omega), if_pos (by omega)]

/-! ## The acts of R61, R68 and R70 -/

/-- A release with its pattern, before the allocation (R68). -/
def releasedAt (n : Nat) (c : Cabin) (s : State) : State := playOnce (cabinAddr n) .accept (releaseCabin n c s)

/-- A cleaning ended with its pattern, before the allocation (R70). -/
def cleanedAt (n : Nat) (c : Cabin) (s : State) : State := playOnce (cabinAddr n) .accept (endCleaning n c s)

section
variable {n : Nat} {c : Cabin} {s : State}

theorem releasedAt_find (hc : s.cbu.find n = some c) :
    (releasedAt n c s).cbu.find n = some (c.released s.sck.counter (groupSetting s c.group).cleaningTime) := by
  simp [releasedAt, CabinUnit.find_put_self _ _ _ _ hc]

theorem releasedAt_played : PatternPlayed (n + 33) .accept s (releasedAt n c s) :=
  cabinAddr_eq n ▸ patternPlayed_playOnce (cabinAddr n) .accept s _ (releaseCabin_sounderKept _ n c s)

theorem cleanedAt_played : PatternPlayed (n + 33) .accept s (cleanedAt n c s) :=
  cabinAddr_eq n ▸ patternPlayed_playOnce (cabinAddr n) .accept s _ (moveCabin_sounderKept _ n _ s)

theorem Cabin.released_group (h : c.state ≠ .unreachable) (now x : Nat) : (c.released now x).group = c.group := by
  rw [Cabin.released_eq h]; (repeat' split) <;> rfl

/-- A release after which no offer follows: the cabin is not Free, or nobody waits. -/
theorem release_noOffer (hc : s.cbu.find n = some c) (hs : c.state ≠ .unreachable)
    (h : c.pendingOut = true ∨ (groupSetting s c.group).cleaningTime ≠ 0 ∨ s.cbu.queue c.group = []) :
    allocateIfFree n (releasedAt n c s) = releasedAt n c s := by
  refine allocateIfFree_idle (releasedAt_find hc) ?_
  rw [Cabin.released_group hs, Cabin.released_eq hs]
  rcases h with hp | hk | hq
  · left; simp [hp]
  · left; split
    · nofun
    · simp
  · right; simpa [releasedAt] using hq

theorem Cabin.cleaned_group : c.cleaned.group = c.group := by
  unfold Cabin.cleaned; split <;> simp

theorem cleanedAt_find (hc : s.cbu.find n = some c) : (cleanedAt n c s).cbu.find n = some c.cleaned := by
  simp [cleanedAt, CabinUnit.find_put_self _ _ _ _ hc]

theorem cleaning_noOffer (hc : s.cbu.find n = some c) (hs : c.state ≠ .unreachable)
    (h : c.pendingOut = true ∨ s.cbu.queue c.group = []) : allocateIfFree n (cleanedAt n c s) = cleanedAt n c s := by
  refine allocateIfFree_idle (cleanedAt_find hc) ?_
  rw [Cabin.cleaned_group, Cabin.cleaned_eq hs]
  rcases h with hp | hq
  · left; simp [hp]
  · right; simpa [cleanedAt] using hq

theorem masterAtCabin_occupied (hc : s.cbu.find n = some c) (hs : c.state = .occupied) :
    masterAtCabin n s = allocateIfFree n (releasedAt n c s) := by simp [masterAtCabin, hc, hs, releasedAt]

theorem masterAtCabin_cleaning (hc : s.cbu.find n = some c) (hs : c.state = .cleaning) :
    masterAtCabin n s = allocateIfFree n (cleanedAt n c s) := by simp [masterAtCabin, hc, hs, cleanedAt]

/-- A master band at a Free or an Offered cabin draws the bolt for the open window (R61). -/
theorem openForMaster_draws (n : Nat) (s : State) :
    KeepsAllBut [.flm] s (openForMaster n s) ∧ PatternPlayed (n + 33) .accept s (openForMaster n s)
      ∧ (∀ st v, s.flm.find (n + 33) = some st → st.value (.bolt 0) = some v →
          ∃ st', (openForMaster n s).flm.find (n + 33) = some st'
            ∧ st'.value (.bolt 0) = some (.bolt (.unlockedUntil ((s.sck.counter + s.table.openWindow) % 86400)))) := by
  refine ⟨by simp [keepsAllBut_iff], ?_, fun st v hst hv => ?_⟩
  · refine cabinAddr_eq n ▸ patternPlayed_playOnce (cabinAddr n) .accept s _ ?_
    exact FieldLine.sounderKept_update _ _ _ _ (fun _ => rfl) (by simp)
  · refine ⟨(st.write (.bolt 0) (.bolt (.unlockedUntil (addSeconds s.now s.table.openWindow)))).oneShot .accept, ?_, ?_⟩
    · rw [openForMaster, playOnce_flm, cabinAddr_eq, FieldLine.find_update _ _ _ _ (fun st => st.oneShot_addr _), if_pos rfl,
        writeEntry_flm, FieldLine.find_update _ _ _ _ (fun st => st.write_addr _ _), if_pos rfl, hst]
      rfl
    · simp [hv, addSeconds, State.now, Config.daySeconds]

/-- A master band at an Occupied cabin releases it (R61, R68). -/
theorem masterAtCabin_releases (b : BandNo) (r : BandRecord) (left : Cabin) (t : State) (hc : s.cbu.find n = some c)
    (ht : t = masterAtCabin n s) (hs : c.state = .occupied) (hb : c.band = some b) (hr : s.bdr.find b = some r)
    (hleft : left = { c with band := none, overstayFlag := false, doorOpenSince := none, entryExpiry := none }) :
    ((c.pendingOut = true ∨ (groupSetting s c.group).cleaningTime ≠ 0 ∨ s.cbu.queue c.group = []) →
      t.cbu.find n = some
        (if c.pendingOut then { left with state := .outOfService, pendingOut := false }
        else if (groupSetting s c.group).cleaningTime = 0 then { left with state := .free }
        else { left with state := .cleaning
                         cleaningExpiry := some ((s.sck.counter + (groupSetting s c.group).cleaningTime) % 86400) })
      ∧ t.bdr.find b = some { r with overstay := min (r.overstay + (-c.counter).toNat) 1440, link := none }
      ∧ (∀ x, x ≠ b → t.bdr.find x = s.bdr.find x) ∧ (∀ m, m ≠ n → t.cbu.find m = s.cbu.find m)
      ∧ t.cbu.groups = s.cbu.groups ∧ PatternPlayed (n + 33) .accept s t)
    ∧ (∀ e rest re, c.pendingOut = false → (groupSetting s c.group).cleaningTime = 0 → s.cbu.queue c.group = e :: rest →
      s.cbu.lowestFree c.group = none → s.bdr.find e.band = some re → e.band ≠ b →
      t.cbu.find n = some (left.offeredTo e ((s.sck.counter + (groupSetting s c.group).offerWindow) % 86400))
      ∧ (∀ m, m ≠ n → t.cbu.find m = s.cbu.find m) ∧ t.cbu.queue c.group = rest
      ∧ t.bdr.find e.band = some { re with link := some (.offered n) }
      ∧ t.bdr.find b = some { r with overstay := min (r.overstay + (-c.counter).toNat) 1440, link := none }
      ∧ (∀ x, x ≠ b → x ≠ e.band → t.bdr.find x = s.bdr.find x))
    ∧ KeepsAllBut [.bdr, .cbu, .flm, .lkc] s t := by
  have hreach : c.state ≠ .unreachable := by simp [hs]
  have hbdr : (releasedAt n c s).bdr
      = s.bdr.update b (fun r => { r with overstay := min (r.overstay + (-c.counter).toNat) 1440, link := none }) :=
    releaseCabin_bdr n c b s hb
  rw [ht, masterAtCabin_occupied hc hs]
  refine ⟨fun h => ?_, fun e rest re hp hk hq hf hre hne => ?_, by simp [keepsAllBut_iff, releasedAt]⟩
  · rw [release_noOffer hc hreach h, hbdr]
    refine ⟨?_, by simp [hr], fun x hx => by simp [hx], fun m hm => ?_, by simp [releasedAt], releasedAt_played⟩
    · rw [releasedAt_find hc, Cabin.released_eq hreach, hleft]
    · simp [releasedAt, CabinUnit.find_put_other _ _ _ _ hm]
  · have hrel : c.released s.sck.counter (groupSetting s c.group).cleaningTime = { left with state := .free } := by
      rw [Cabin.released_eq hreach, hleft, hp, hk]; rfl
    have hgroup : ({ left with state := .free } : Cabin).group = c.group := by rw [hleft]
    have key := allocateIfFree_offers (c := { left with state := .free }) (e := e) (rest := rest) (u := releasedAt n c s) hc
      (by simp [releasedAt, hrel]) (by simp [releasedAt]) (by simp [releasedAt]) rfl (by rw [hgroup]; exact hq)
      (by rw [hgroup]; exact hf)
    rw [hgroup, hbdr] at key
    obtain ⟨hn, hm, hqueue, hbdr'⟩ := key
    rw [hbdr']
    exact ⟨hn.trans (by rw [hleft]; rfl), hm, hqueue, by simp [hne, hre], by simp [hne.symm, hr], fun x hx hxe => by simp [hx, hxe]⟩

/-- A master band at a cabin in Cleaning ends the cleaning (R61, R70). -/
theorem masterAtCabin_endsCleaning (t : State) (hc : s.cbu.find n = some c) (ht : t = masterAtCabin n s)
    (hs : c.state = .cleaning) :
    (c.pendingOut = true ∨ s.cbu.queue c.group = [] →
      t.cbu.find n = some
        { c with state := if c.pendingOut then .outOfService else .free, cleaningExpiry := none, pendingOut := false }
      ∧ (∀ m, m ≠ n → t.cbu.find m = s.cbu.find m) ∧ t.cbu.groups = s.cbu.groups ∧ t.bdr = s.bdr
      ∧ PatternPlayed (n + 33) .accept s t)
    ∧ (∀ e rest r, c.pendingOut = false → s.cbu.queue c.group = e :: rest → s.cbu.lowestFree c.group = none →
      s.bdr.find e.band = some r → OfferedToHead n { c with cleaningExpiry := none } e rest r s t)
    ∧ KeepsAllBut [.bdr, .cbu, .flm, .lkc] s t := by
  have hreach : c.state ≠ .unreachable := by simp [hs]
  rw [ht, masterAtCabin_cleaning hc hs]
  refine ⟨fun h => ?_, fun e rest r hp hq hf hr => ?_, by simp [keepsAllBut_iff, cleanedAt]⟩
  · rw [cleaning_noOffer hc hreach h]
    refine ⟨?_, fun m hm => ?_, by simp [cleanedAt], by simp [cleanedAt], cleanedAt_played⟩
    · rw [cleanedAt_find hc, Cabin.cleaned_eq hreach]
    · simp [cleanedAt, CabinUnit.find_put_other _ _ _ _ hm]
  · have hfree : c.cleaned.state = .free := by rw [Cabin.cleaned_eq hreach]; simp [hp]
    have hoffered : ∀ x, c.cleaned.offeredTo e x = ({ c with cleaningExpiry := none } : Cabin).offeredTo e x := fun x => by
      rw [Cabin.cleaned_eq hreach]; simp [Cabin.offeredTo, hp]
    have key := allocateIfFree_offers (c := c.cleaned) (e := e) (rest := rest) (u := cleanedAt n c s) hc
      (by simp [cleanedAt]) (by simp [cleanedAt]) (by simp [cleanedAt]) hfree (by rw [Cabin.cleaned_group]; exact hq)
      (by rw [Cabin.cleaned_group]; exact hf)
    rw [Cabin.cleaned_group, hoffered] at key
    obtain ⟨hn, hm, hqueue, hbdr⟩ := key
    have hbdr' : (cleanedAt n c s).bdr = s.bdr := by simp [cleanedAt]
    rw [hbdr'] at hbdr
    exact ⟨hn, hm, hqueue, by simp [hbdr, hr], fun x hx => by simp [hbdr, hx]⟩

end

/-- A door event of a cabin door unit (R70). -/
theorem cabinDoorEvent_senses (n : Nat) (isOpen : Bool) (c : Cabin) (s : State) (hc : s.cbu.find n = some c) :
    (c.state = .unreachable → cabinDoorEvent n isOpen s = s)
      ∧ (c.state ≠ .unreachable →
        cabinDoorEvent n isOpen s
          = putCabin n
              { c with
                doorOpen := isOpen
                doorOpenSince :=
                  if c.state = .occupied then (if isOpen then some (c.doorOpenSince.getD s.sck.counter) else none)
                  else c.doorOpenSince } s) := by
  refine ⟨fun hs => by simp [cabinDoorEvent, hc, hs], fun hs => ?_⟩
  unfold cabinDoorEvent
  rw [hc]
  cases hst : c.state <;> simp_all [State.now]

/-- Settles O33. -/
theorem cabinUseAndRelease : Obligations.CabinUseAndRelease := by
  refine ⟨?release, ?entitled, ?door, ?refused, ?master, ?same⟩
  case release =>
    intro n c b r s hc hs hb hr
    have hreach : c.state ≠ .unreachable := by simp [hs]
    refine ⟨by simp [releaseCabin_bdr n c b s hb, hr],
      ⟨c.released s.sck.counter (groupSetting s c.group).cleaningTime,
        by rw [releaseCabin_cbu, CabinUnit.find_put_self _ _ _ _ hc], ?_⟩, by simp [keepsAllBut_iff]⟩
    rw [Cabin.released_eq hreach]
    cases hp : c.pendingOut with
    | true => simp
    | false =>
      by_cases hk : (groupSetting s c.group).cleaningTime = 0 <;> simp [hk]
  case entitled =>
    intro n c b r rb k s hc hb hr hent hrb hk
    obtain ⟨hoffered, hrenewed, hreleased⟩ := presentAtCabin_entitled n c r s hc (Cabin.entitles_of_band hb hr hent) hr
    refine ⟨fun hs => ?_, fun hs hx => ?_, fun hs hx hq => ?_⟩
    · rw [hoffered hs, acceptOffer_cbu n c k s hk, acceptOffer_bdr n c b s hb]
      exact ⟨CabinUnit.find_put_self _ _ _ _ hc, fun m hm => CabinUnit.find_put_other _ _ _ _ hm, rfl, by simp [hrb],
        fun x hx => by simp [hx], by simp [keepsAllBut_iff]⟩
    · rw [hrenewed hs hx, renewEntry_cbu]
      exact ⟨CabinUnit.find_put_self _ _ _ _ hc, fun m hm => CabinUnit.find_put_other _ _ _ _ hm, rfl,
        by simp [keepsAllBut_iff]⟩
    · have hreach : c.state ≠ .unreachable := by simp [hs]
      have hnone := release_noOffer hc hreach (.inr (.inr hq))
      rw [releasedAt] at hnone
      rw [hreleased hs hx, hnone]
      refine ⟨by simp [releaseCabin_bdr n c b s hb, hrb], ⟨_, releasedAt_find hc, ?_⟩, by simp [keepsAllBut_iff]⟩
      rw [Cabin.released_eq hreach]
      (repeat' split) <;> exact ⟨rfl, rfl⟩
  case door =>
    intro n p isOpen c s t hn hc ht
    have hroute : t = cabinDoorEvent n isOpen s := by
      rw [ht, routeEvent, kindOf_cabin hn]; simp [cabinEvent]
    obtain ⟨hlost, hsensed⟩ := cabinDoorEvent_senses n isOpen c s hc
    refine ⟨fun hs => hroute.trans (hlost hs), fun hs => ?_⟩
    rw [hroute, hsensed hs]
    exact ⟨CabinUnit.find_put_self _ _ _ _ hc, fun m hm => CabinUnit.find_put_other _ _ _ _ hm, rfl,
      by simp [keepsAllBut_iff, hc]⟩
  case refused =>
    intro n c r s hc
    refine ⟨fun hs => by simp [presentAtCabin, hc, hs], fun code h => ?_⟩
    rw [presentAtCabin_refused n c r s hc code h, cabinAddr_eq]
    exact ⟨by simp [keepsAllBut_iff], refusalShown_refuseAt { station := n + 33, door := 0 } code s s rfl⟩
  case master =>
    intro n c s t hc ht
    refine ⟨fun hs => by simp [ht, masterAtCabin, hc, hs], fun hs => ?_, fun hs => ?_, fun b r left hs hb hr hleft =>
      masterAtCabin_releases b r left t hc ht hs hb hr hleft, masterAtCabin_endsCleaning t hc ht⟩
    · have hopen : t = openForMaster n s := by rcases hs with hs | hs <;> simp [ht, masterAtCabin, hc, hs]
      exact hopen ▸ openForMaster_draws n s
    · have haccept : t = playOnce (n + 33) .accept s := by simp [ht, masterAtCabin, hc, hs, cabinAddr_eq]
      exact haccept ▸ ⟨by simp [keepsAllBut_iff], patternPlayed_playOnce _ _ _ _ (.refl _ _)⟩
  case same =>
    intro n c r b s hc hs hx hb hr hent
    obtain ⟨-, -, hreleased⟩ := presentAtCabin_entitled n c r s hc (Cabin.entitles_of_band hb hr hent) hr
    rw [hreleased hs hx, masterAtCabin_occupied hc hs, releasedAt]

end Sys2Proof.Machine

/-! Insertions at a collector and the events of a lane (R108 to R112, R116, R117). -/
namespace Sys2Proof.Machine

/-! ## The withdrawal beside an assessment (R110, R66, R74) -/

/-- A withdrawn band keeps its record but for its link, which is absent where no entry of the queue names the band. -/
theorem withdrawBand_find_self {b : BandNo} {s : State} {r : BandRecord} (hr : s.bdr.find b = some r)
    (hh : ∀ n, r.link ≠ some (.holding n))
    (ho : ∀ n c, r.link = some (.offered n) → s.cbu.find n = some c → ∀ x ∈ s.cbu.queue c.group, x.band ≠ b) :
    (withdrawBand b s).bdr.find b = some { r with link := none } := by
  have hlink : (s.bdr.find b).bind (·.link) = r.link := by simp [hr]
  cases hl : r.link with
  | none =>
    rw [withdrawBand_of_none (hlink.trans hl), hr]
    cases r; simp_all
  | some link =>
    cases link with
    | holding n => exact absurd hl (hh n)
    | queued g ticket => simp [withdrawBand_of_queued (hlink.trans hl), removeEntry, hr]
    | offered n =>
      cases hc : s.cbu.find n with
      | none => simp [withdrawBand, hl, hc, hr]
      | some c =>
        rw [withdrawBand_of_offered (hlink.trans hl) hc, allocate_find_other _ _ _ (by simpa using ho n c hl hc)]
        simp [hr]

theorem allocate_parties (g : Nat) (s : State) : (allocate g s).bdr.parties = s.bdr.parties :=
  allocate_induct (P := fun t => t.bdr.parties = s.bdr.parties) g
    (fun t n c e rest ht hc _ _ _ => by rw [makeOffer_bdr g n e c t hc, BandRegister.update_parties, ht]) s rfl

@[simp] theorem withdrawBand_parties (b : BandNo) (s : State) : (withdrawBand b s).bdr.parties = s.bdr.parties := by
  unfold withdrawBand
  (repeat' split) <;> simp [allocate_parties]

/-! ## Assessment (R110 to R112) -/

theorem laneSetting_congr {s t : State} (h : t.sts = s.sts) (l : Nat) : laneSetting t l = laneSetting s l := by
  simp [laneSetting, State.table, h]

@[simp] theorem quoteBand_xlu (l : Nat) (e : Lane) (b : BandNo) (amount : Nat) (w : Working) (s : State) :
    (quoteBand l e b amount w s).xlu
      = s.xlu.put l (e.holding b amount ((s.sck.counter + (laneSetting s l).quoteWindow) % 86400)) := rfl

@[simp] theorem quoteBand_bdr (l : Nat) (e : Lane) (b : BandNo) (amount : Nat) (w : Working) (s : State) :
    (quoteBand l e b amount w s).bdr
      = s.bdr.update b (fun r => { r with
          state := .quoted
          quote := some { lane := l, amount := amount,
                          expiry := (s.sck.counter + (laneSetting s l).quoteWindow) % 86400 } }) := rfl

/-- An assessment is a withdrawal, and then a collection or a quote (R110). -/
theorem assessBand_eq (l : Nat) (e : Lane) (r : BandRecord) (live : List Byte) (s : State) (hlive : s.tfs.live = some live) :
    assessBand l e r s
      = if settlementCharge live (settlementWorking live s.sck.wrapped (s.sck.counter / 60) r) r = 0 then
          collectBand l { e with lastExpiry := none } r.number .collected (withdrawBand r.number s)
        else
          quoteBand l e r.number (settlementCharge live (settlementWorking live s.sck.wrapped (s.sck.counter / 60) r) r)
            (settlementWorking live s.sck.wrapped (s.sck.counter / 60) r) (withdrawBand r.number s) := by
  simp [assessBand, State.liveBank, State.now, minuteOf, hlive]

/-- What an assessment does beside the withdrawal: to the cabin unit nothing, to the other bands nothing. -/
theorem assessBand_others (l : Nat) (e : Lane) (r : BandRecord) (live : List Byte) (s : State) (hlive : s.tfs.live = some live) :
    (assessBand l e r s).cbu = (withdrawBand r.number s).cbu
      ∧ ∀ x, x ≠ r.number → (assessBand l e r s).bdr.find x = (withdrawBand r.number s).bdr.find x := by
  rw [assessBand_eq l e r live s hlive]
  split
  · exact ⟨by simp, fun x hx => by simp [hx]⟩
  · exact ⟨by simp, fun x hx => by simp [hx]⟩

theorem insertBand_idle {l : Nat} {e : Lane} {b : BandNo} {seen : Recognised} {s : State} (he : s.xlu.find l = some e)
    (hs : e.state = .idle) :
    insertBand l b seen s
      = insertAtIdle l { e with slot := some b } b seen (putLane l { e with slot := some b } s) := by
  simp [insertBand, he, hs]

/-- A band In that holds no locker and no cabin is assessed (R109, R110). -/
theorem insertBand_assessed {l : Nat} {e : Lane} {r : BandRecord} {s : State} (he : s.xlu.find l = some e)
    (hs : e.state = .idle) (hr : r.state = .inside) (hlock : r.lockers = []) (hh : ∀ n, r.link ≠ some (.holding n)) :
    insertBand l r.number (.band r) s
      = assessBand l { e with slot := some r.number } r (putLane l { e with slot := some r.number } s) := by
  rw [insertBand_idle he hs]
  cases hl : r.link with
  | none => simp [insertAtIdle, hr, hlock, hl]
  | some link =>
    cases link with
    | holding n => exact absurd hl (hh n)
    | queued g ticket => simp [insertAtIdle, hr, hlock, hl]
    | offered n => simp [insertAtIdle, hr, hlock, hl]

/-- The lane and the band at the end of an assessment (R111, R112). -/
theorem assessBand_ends (l : Nat) (e : Lane) (r : BandRecord) (live : List Byte) (s : State) (hlive : s.tfs.live = some live)
    (he : s.xlu.find l = some e) (hr : s.bdr.find r.number = some r) (hh : ∀ n, r.link ≠ some (.holding n))
    (ho : ∀ n c, r.link = some (.offered n) → s.cbu.find n = some c → ∀ x ∈ s.cbu.queue c.group, x.band ≠ r.number)
    (w : Working) (hw : w = settlementWorking live s.sck.wrapped (s.sck.counter / 60) r) :
    (settlementCharge live w r = 0 →
        (assessBand l e r s).xlu.find l = some
          { e with state := .passing, band := some r.number, cause := some .collected, quoteAmount := none,
                   quoteExpiry := none, passExpiry := some ((s.sck.counter + (laneSetting s l).passWindow) % 86400),
                   lastExpiry := none }
        ∧ (assessBand l e r s).bdr.find r.number = none
        ∧ (assessBand l e r s).bdr.parties = partiesWithout r.number r.party s.bdr.parties
        ∧ KeepsAllBut [.bdr, .cbu, .xlu, .flm, .lkc] s (assessBand l e r s))
      ∧ (settlementCharge live w r ≠ 0 →
        (assessBand l e r s).xlu.find l = some
          { e with state := .holding, band := some r.number, cause := none, quoteAmount := some (settlementCharge live w r),
                   quoteExpiry := some ((s.sck.counter + (laneSetting s l).quoteWindow) % 86400), passExpiry := none,
                   lastExpiry := none }
        ∧ (assessBand l e r s).bdr.find r.number = some
            { r with state := .quoted
                     quote := some { lane := l, amount := settlementCharge live w r,
                                     expiry := (s.sck.counter + (laneSetting s l).quoteWindow) % 86400 }
                     link := none }
        ∧ (assessBand l e r s).bdr.parties = s.bdr.parties ∧ (assessBand l e r s).cnu.bits.getLsbD 3 = true
        ∧ KeepsAllBut [.bdr, .cbu, .xlu, .flm, .lkc, .cnu] s (assessBand l e r s)) := by
  have hself := withdrawBand_find_self hr hh ho
  have hsetting := laneSetting_congr (s := s) (t := withdrawBand r.number s) (by simp) l
  have hlane : (withdrawBand r.number s).xlu.find l = some e := by simpa using he
  rw [assessBand_eq l e r live s hlive, ← hw]
  refine ⟨fun h0 => ?_, fun h0 => ?_⟩
  · rw [if_pos h0]
    refine ⟨?_, by simp, ?_, by simp [keepsAllBut_iff]⟩
    · simp [he, hsetting, Lane.passing]
    · simp [BandRegister.free_parties, hself]
  · rw [if_neg h0]
    refine ⟨?_, ?_, by simp, ?_, by simp [keepsAllBut_iff]⟩
    · simp [he, hsetting, Lane.holding]
    · simp [hself, hsetting]
    · simp [quoteBand, NoticeContent.cls, NoticeClass.code]

/-- The other lanes stand. -/
theorem assessBand_xlu_other (l m : Nat) (e : Lane) (r : BandRecord) (live : List Byte) (s : State)
    (hlive : s.tfs.live = some live) (hm : m ≠ l) : (assessBand l e r s).xlu.find m = s.xlu.find m := by
  rw [assessBand_eq l e r live s hlive]
  split <;> simp [hm]

/-! ## Refusals at a collector (R107 to R109) -/

theorem laneAddr_eq (l : Nat) : laneAddr l = l + 85 := Nat.add_comm 85 l

/-- A refusal at a collector is shown there. -/
theorem FieldLine.find_update_write (f : FieldLine) (a : Nat) (k : EntryKey) (v : EntryValue) :
    (f.update a (fun st => st.write k v)).find a = (f.find a).map (fun st => st.write k v) :=
  FieldLine.find_update_self f a _ (fun st => st.write_addr k v)

theorem laneRefusalShown_refuseAtLane (l : Nat) (act : SlotAction) (b : BandNo) (text : DisplayText) (s u : State)
    (h : u.flm = s.flm) : LaneRefusalShown l act b text s (refuseAtLane l act b text u) := by
  have hslot : s.flm.SounderKept (l + 85) (writeSlot l act b u).flm := by
    rw [writeSlot, writeEntry_flm, h]
    exact FieldLine.sounderKept_update _ _ _ _ (fun st => st.write_addr _ _) (by simp)
  refine ⟨?_, fun st hst => ?_⟩
  · refine (patternPlayed_playOnce (l + 85) .refuse s (writeSlot l act b u) hslot).of_sounderKept ?_
    rw [refuseAtLane, writeEntry_flm, laneAddr_eq]
    exact FieldLine.sounderKept_update _ _ _ _ (fun st => st.write_addr _ _) (by simp)
  · refine ⟨((st.write .slotAction (.slotAction (some (act, b)))).oneShot .refuse).write .standing (.standing text), ?_, ?_, ?_⟩
    · simp [refuseAtLane, writeSlot, laneAddr_eq, h, FieldLine.find_update_write, hst]
    · intro hv
      rw [Station.value_write_other _ _ _ _ (by simp), Station.value_oneShot _ _ _ (by simp)]
      exact Station.write_some _ _ _ hv
    · intro hv
      exact Station.write_some _ _ _ (by simpa using hv)

/-- What R108 and R109 refuse, with the slot action and the text of each. -/
theorem insertBand_refused (l : Nat) (e : Lane) (b : BandNo) (seen : Recognised) (s : State) (he : s.xlu.find l = some e)
    (act : SlotAction) (text : DisplayText)
    (h : (e.state = .passing ∧ act = .giveBack ∧ text = .code .byCode)
      ∨ (e.state = .idle ∧ seen = .unknown ∧ act = .giveBack ∧ text = .code .unknown)
      ∨ (e.state = .idle ∧ seen = .barred ∧ act = .retain ∧ text = .code .br)
      ∨ (∃ r, e.state = .idle ∧ seen = .band r ∧ act = .giveBack ∧
          ((r.state = .quoted ∧ text = .code .se)
            ∨ (r.state ≠ .quoted ∧ ∃ n more, r.lockers = n :: more ∧ text = .lockerRefusal n)
            ∨ (r.state ≠ .quoted ∧ r.lockers = [] ∧ ∃ n, r.link = some (.holding n) ∧ text = .cabinRefusal n)))) :
    insertBand l b seen s = refuseAtLane l act b text (putLane l { e with slot := some b } s) := by
  rcases h with ⟨hs, rfl, rfl⟩ | ⟨hs, rfl, rfl, rfl⟩ | ⟨hs, rfl, rfl, rfl⟩ | ⟨r, hs, rfl, rfl, hr⟩
  · simp [insertBand, he, hs]
  · rw [insertBand_idle he hs, insertAtIdle]
  · rw [insertBand_idle he hs, insertAtIdle]
  · rw [insertBand_idle he hs]
    rcases hr with ⟨hq, rfl⟩ | ⟨hq, n, more, hl, rfl⟩ | ⟨hq, hl, n, hk, rfl⟩
    · simp [insertAtIdle, hq]
    · simp [insertAtIdle, hq, hl]
    · simp [insertAtIdle, hq, hl, hk]

/-! ## A lane's gate opened (R107, R109) -/

/-- The desired entries of a Passing lane (R107). -/
theorem showLane_passing (l : Nat) (e : Lane) (x : Nat) (s : State) (he : s.xlu.find l = some e) (hs : e.state = .passing)
    (hx : e.passExpiry = some x) :
    (showLane l s).flm
      = s.flm.update (l + 85) (fun st =>
          ((st.write .shutter (.shutter false)).write .gate (.gate (.openUntil x))).write .standing (.standing .go)) := by
  simp [showLane, FieldLine.showLane, he, Lane.wishes, hs, hx, laneAddr_eq]

/-- A band let through: the lane Passing, its gate open for the pass window, Accept, and the slot action (R109). -/
theorem letThrough_opens (l : Nat) (e old : Lane) (b : BandNo) (cause : PassCause) (act : SlotAction) (s : State)
    (he : s.xlu.find l = some old) :
    PatternPlayed (l + 85) .accept s (letThrough l e b cause act s)
      ∧ (∀ st, s.flm.find (l + 85) = some st → ∃ st', (letThrough l e b cause act s).flm.find (l + 85) = some st'
        ∧ (st.value .slotAction ≠ none → st'.value .slotAction = some (.slotAction (some (act, b))))
        ∧ (st.value .gate ≠ none →
            st'.value .gate = some (.gate (.openUntil ((s.sck.counter + (laneSetting s l).passWindow) % 86400))))) := by
  generalize hp : e.passing b cause ((s.sck.counter + (laneSetting s l).passWindow) % 86400) = passing
  have hfind : (putLane l passing s).xlu.find l = some passing := by simp [he]
  have hmoved := showLane_passing l passing _ _ hfind (by rw [← hp]; rfl) (by rw [← hp]; rfl)
  have hthrough : letThrough l e b cause act s
      = playOnce (l + 85) .accept (writeSlot l act b (showLane l (putLane l passing s))) := by
    rw [← hp, ← laneAddr_eq]; rfl
  have hflm : (showLane l (putLane l passing s)).flm
      = s.flm.update (l + 85) (fun st =>
          ((st.write .shutter (.shutter false)).write .gate
            (.gate (.openUntil ((s.sck.counter + (laneSetting s l).passWindow) % 86400)))).write .standing
            (.standing .go)) := by rw [hmoved]; simp
  rw [hthrough]
  refine ⟨patternPlayed_playOnce (l + 85) .accept s _ ?_, fun st hst => ?_⟩
  · rw [writeSlot, writeEntry_flm, laneAddr_eq, hflm]
    exact (FieldLine.sounderKept_update _ _ _ _ (by simp) (by simp)).trans
      (FieldLine.sounderKept_update _ _ _ _ (by simp) (by simp))
  · have hst' : (playOnce (l + 85) .accept (writeSlot l act b (showLane l (putLane l passing s)))).flm.find (l + 85)
        = some (((((st.write .shutter (.shutter false)).write .gate
            (.gate (.openUntil ((s.sck.counter + (laneSetting s l).passWindow) % 86400)))).write .standing
            (.standing .go)).write .slotAction (.slotAction (some (act, b)))).oneShot .accept) := by
      simp only [playOnce_flm, writeSlot, writeEntry_flm, laneAddr_eq, hflm]
      rw [FieldLine.find_update_self _ _ _ (fun st => st.oneShot_addr _), FieldLine.find_update_write,
        FieldLine.find_update_self, hst]
      · rfl
      · exact fun _ => rfl
    refine ⟨_, hst', fun hv => ?_, fun hv => ?_⟩
    · obtain ⟨v, hv⟩ := Option.ne_none_iff_exists'.mp hv
      simp [hv]
    · obtain ⟨v, hv⟩ := Option.ne_none_iff_exists'.mp hv
      simp [hv]

theorem kindOf_lane {l : Nat} (h : l < 4) : kindOf (l + 85) = .laneUnit := by
  simp only [kindOf]; rw [if_neg (by omega), if_neg (by omega), if_neg (by omega)]

/-- Settles O39. -/
theorem laneInsertionsAndEvents : Obligations.LaneInsertionsAndEvents := by
  refine ⟨?assessed, ?refused, ?passed, ?fault⟩
  case assessed =>
    intro l e r live s t he hs hr hin hlock hh ho hlive ht
    generalize hu : putLane l { e with slot := some r.number } s = u
    have hubdr : u.bdr = s.bdr := by simp [← hu]
    have hucbu : u.cbu = s.cbu := by simp [← hu]
    have hulive : u.tfs.live = some live := by simpa [← hu] using hlive
    have hue : u.xlu.find l = some { e with slot := some r.number } := by simp [← hu, he]
    have husck : u.sck = s.sck := by simp [← hu]
    have husts : u.sts = s.sts := by simp [← hu]
    have hsu : KeepsAllBut [.xlu, .lkc] s u := by simp [← hu, keepsAllBut_iff]
    have htu : t = assessBand l { e with slot := some r.number } r u := by
      rw [ht, insertBand_assessed he hs hin hlock hh, hu]
    have hlink : (u.bdr.find r.number).bind (·.link) = r.link := by simp [hubdr, hr]
    obtain ⟨hcbu, hothers⟩ := assessBand_others l { e with slot := some r.number } r live u hulive
    rw [← htu] at hcbu hothers
    refine ⟨fun w hw => ?_, fun m hm => ?_, fun hl => ?_, fun g ticket hl => ?_, fun n c hl hc => ⟨fun hq => ?_,
      fun next rest re hcs hq hf hre => ?_⟩⟩
    · obtain ⟨hcollect, hquote⟩ := assessBand_ends l { e with slot := some r.number } r live u hulive hue
        (by rw [hubdr]; exact hr) hh (by rw [hucbu]; exact ho) w (by rw [husck]; exact hw)
      rw [← htu, laneSetting_congr husts, husck, hubdr] at hcollect hquote
      refine ⟨fun h0 => ?_, fun h0 => ?_⟩
      · obtain ⟨hlane, hband, hparties, hkeep⟩ := hcollect h0
        exact ⟨hlane, hband, hparties, (hsu.mono (by simp)).trans hkeep⟩
      · obtain ⟨hlane, hband, hparties, hbit, hkeep⟩ := hquote h0
        exact ⟨hlane, hband, hparties, hbit, (hsu.mono (by simp)).trans hkeep⟩
    · rw [htu, assessBand_xlu_other l m _ r live u hulive hm, ← hu]
      simp [hm]
    · rw [withdrawBand_of_none (hlink.trans hl)] at hcbu hothers
      exact ⟨hcbu.trans hucbu, fun x hx => (hothers x hx).trans (by rw [hubdr])⟩
    · rw [withdrawBand_of_queued (hlink.trans hl)] at hcbu hothers
      simp only [setLink_keeps, removeEntry, setQueue_cbu, hucbu] at hcbu
      rw [hcbu]
      refine ⟨CabinUnit.queue_updateQueue s.cbu g _ rfl, fun k hk => CabinUnit.queue_updateQueue_other _ _ _ _ hk, rfl,
        fun x hx => (hothers x hx).trans (by simp [removeEntry, hx, hubdr])⟩
    · rw [withdrawBand_noOffer (hlink.trans hl) (hucbu ▸ hc) (hucbu ▸ hq)] at hcbu hothers
      simp only [setLink_keeps, endOffer_cbu, hucbu] at hcbu
      rw [hcbu]
      exact ⟨CabinUnit.find_put_self _ _ _ _ hc, fun m hm => CabinUnit.find_put_other _ _ _ _ hm, rfl,
        fun x hx => (hothers x hx).trans (by simp [hx, hubdr])⟩
    · obtain ⟨hn, hm, hqueue, hbdr⟩ := withdrawBand_nextOffer (hlink.trans hl) (hucbu ▸ hc) hcs (hucbu ▸ hq) (hucbu ▸ hf)
      have hne : next.band ≠ r.number := ho n c hl hc next (by simp [hq])
      rw [groupSetting_congr husts, husck] at hn
      rw [hubdr] at hbdr
      rw [hucbu] at hm
      rw [hcbu]
      exact ⟨hn, hm, hqueue, (hothers _ hne).trans (by simp [hbdr, hne, hre]),
        fun x hx hxn => (hothers x hx).trans (by simp [hbdr, hx, hxn])⟩
  case refused =>
    intro l e b seen s t he ht
    refine ⟨fun hs => ?_, fun act text h => ?_, fun hs hseen => ?_⟩
    · rcases hs with hs | hs <;> simp [ht, insertBand, he, hs]
    · have hrefused := insertBand_refused l e b seen s he act text h
      rw [ht, hrefused]
      exact ⟨by simp [he], fun m hm => by simp [hm], refuseAtLane_putLane_keeps l e _ act b text s he rfl,
        laneRefusalShown_refuseAtLane l act b text s _ (by simp)⟩
    · have hopened : t = letThrough l { e with slot := some b } b .master .giveBack (putLane l { e with slot := some b } s) := by
        rw [ht, hseen, insertBand_idle he hs, insertAtIdle]
      have hflm : (putLane l { e with slot := some b } s).flm = s.flm := by simp
      obtain ⟨hplayed, hgate⟩ := letThrough_opens l { e with slot := some b } { e with slot := some b } b .master .giveBack
        (putLane l { e with slot := some b } s) (by simp [he])
      rw [hopened]
      refine ⟨?_, fun m hm => by simp [hm], by simp [keepsAllBut_iff], ?_, ?_⟩
      · rw [letThrough_xlu, putLane_xlu]
        exact LaneUnit.find_put_self _ _ _ _ (LaneUnit.find_put_self _ _ _ _ he)
      · exact fun st hst => hplayed st (hflm ▸ hst)
      · exact fun st hst => hgate st (hflm ▸ hst)
  case passed =>
    intro l e s t hl he ht
    have hroute : t = passSensed l s := by
      rw [ht, routeEvent, kindOf_lane hl]; simp [laneEvent]
    refine ⟨fun hs => ?_, fun hs => by simp [hroute, passSensed, he, hs]⟩
    have hend : t = endPass l e s := by simp [hroute, passSensed, he, hs]
    rw [hend]
    have hnotices : (endPass l e s).lkc.notices = s.lkc.notices := by simp [endPass, moveLane]
    refine ⟨?_, fun m hm => by simp [endPass, hm], hnotices, by simp [keepsAllBut_iff]⟩
    simp [endPass, he, Lane.act, hs]
  case fault =>
    intro l e s t hl he ht
    have hraised : t = raiseNotice (.collectorFault (l + 85) e.state) s := by
      rw [ht, routeEvent, kindOf_lane hl]; simp [laneEvent, collectorFault, he, laneAddr_eq]
    rw [hraised]
    refine ⟨rfl, by simp [keepsAllBut_iff], fun hmask => ?_, fun hmask hlen htx => ?_⟩
    · have hoff : s.cnu.enabled .stationHealth = false := hmask
      simp [raiseNotice, NoticeContent.cls, hoff]
    · have hon : s.cnu.enabled .stationHealth = true := hmask
      simp [raiseNotice, NoticeContent.cls, hon, LinkController.offer_notices _ _ hlen htx, State.now]

end Sys2Proof.Machine

/-! PURGE (O49): what it makes of one lane, one locker and one cabin, the sweeps over them, and the status reads it asks for. -/
namespace Sys2Proof.Machine

/-! ## Lanes (R123) -/

/-- A lane whose quote, standing or remembered, has been ended at a warm reset or PURGE (R123). -/
def Lane.unwound (e : Lane) : Lane :=
  if e.acting = .holding then { e with band := none, quoteAmount := none, quoteExpiry := none }.act .idle else e

theorem Lane.acting_act (e : Lane) (st : LaneState) :
    (e.act st).acting = st ∨ e.state ≠ .unreachable ∧ st = .unreachable := by
  by_cases hs : e.state = .unreachable
  · simp [Lane.act, Lane.acting, hs]
  · by_cases hst : st = .unreachable <;> simp [Lane.act, Lane.acting, hs, hst]

theorem Lane.unwound_of_not_holding {e : Lane} (h : e.acting ≠ .holding) : e.unwound = e := by simp [Lane.unwound, h]

theorem Lane.unwound_not_holding (e : Lane) : e.unwound.acting ≠ .holding := by
  by_cases h : e.acting = .holding
  · rw [Lane.unwound, if_pos h]
    rcases Lane.acting_act { e with band := none, quoteAmount := none, quoteExpiry := none } .idle with ha | ha
    · simp [ha]
    · exact absurd ha.2 (by simp)
  · rwa [Lane.unwound_of_not_holding h]

theorem giveBackQuote_xlu (l : Nat) (e : Lane) (last : Option (BandNo × Nat)) (s : State) :
    (giveBackQuote l e last s).xlu
      = s.xlu.put l ({ e with band := none, quoteAmount := none, quoteExpiry := none, lastExpiry := last }.act .idle) := by
  unfold giveBackQuote; split <;> simp [endQuote]

theorem unwindQuote_find_self (s : State) (l : Nat) : (unwindQuote l s).xlu.find l = (s.xlu.find l).map Lane.unwound := by
  cases he : s.xlu.find l with
  | none => simp [unwindQuote, he]
  | some e =>
    by_cases h : e.acting = .holding
    · simp only [unwindQuote, he, h, if_true]
      rw [giveBackQuote_xlu, LaneUnit.find_put_self _ _ _ _ he]
      simp [Lane.unwound, h]
    · simp [unwindQuote, he, h, Lane.unwound]

theorem unwindQuote_find_other (s : State) (l m : Nat) (h : m ≠ l) : (unwindQuote l s).xlu.find m = s.xlu.find m := by
  unfold unwindQuote
  (repeat' split) <;> simp [giveBackQuote_xlu, h]

theorem LaneUnit.lt_of_find {u : LaneUnit} {l : Nat} {e : Lane} (h : u.find l = some e) : l < u.lanes.length :=
  (List.getElem?_eq_some_iff.mp h).1

/-- Every lane's quote is ended (R123). -/
theorem overLanes_unwindQuote_find (s : State) (l : Nat) :
    (overLanes unwindQuote s).xlu.find l = (s.xlu.find l).map Lane.unwound := by
  rw [overLanes, foldl_entries (fun t m => t.xlu.find m) (fun t m => unwindQuote m t) Lane.unwound unwindQuote_find_self
    unwindQuote_find_other (fun e => Lane.unwound_of_not_holding (Lane.unwound_not_holding e))]
  cases he : s.xlu.find l with
  | none => simp
  | some e => simp [LaneUnit.lt_of_find he]

theorem unwindQuote_masters (l : Nat) (s : State) : (unwindQuote l s).bdr.masters = s.bdr.masters := by
  unfold unwindQuote giveBackQuote endQuote unquote
  (repeat' split) <;> simp

theorem overLanes_unwindQuote_masters (s : State) : (overLanes unwindQuote s).bdr.masters = s.bdr.masters :=
  List.foldlRecOn _ _ (motive := fun t : State => t.bdr.masters = s.bdr.masters) rfl
    fun t ht l _ => (unwindQuote_masters l t).trans ht

theorem purgeLanes_find (s : State) (l : Nat) (e : Lane) (h : s.xlu.find l = some e) :
    (purgeLanes s).xlu.find l = some { e.unwound with lastExpiry := none } := by
  have hfind := overLanes_unwindQuote_find s l
  rw [h, LaneUnit.find, Option.map_some] at hfind
  simp [purgeLanes, LaneUnit.forgetExpiries, LaneUnit.find, hfind]

/-! ## Lockers (R51) -/

/-- A locker at PURGE (R51). -/
def Locker.purged (l : Locker) : Locker :=
  match l.state with
  | .held | .opening | .opened => l.givenUp
  | .forced => { l with holder := none, orphanCheck := true }
  | .unreachable =>
    let kept := { l with holder := none, orphanCheck := true }
    if l.remembered = some .held ∨ l.remembered = some .opening ∨ l.remembered = some .opened then
      { kept with remembered := some (if l.pendingOut then .outOfService else .vacant), pendingOut := false, openedBy := none,
                  openingExpiry := none }
    else kept
  | .vacant | .orphaned | .outOfService => l

theorem Locker.purged_purged (l : Locker) : l.purged.purged = l.purged := by
  have hgiven : l.givenUp.purged = l.givenUp := by cases hp : l.pendingOut <;> simp [Locker.givenUp, Locker.purged, hp]
  cases hs : l.state with
  | held => simpa [Locker.purged, hs] using hgiven
  | opening => simpa [Locker.purged, hs] using hgiven
  | opened => simpa [Locker.purged, hs] using hgiven
  | unreachable =>
    by_cases hr : l.remembered = some .held ∨ l.remembered = some .opening ∨ l.remembered = some .opened
    · cases hp : l.pendingOut <;> simp [Locker.purged, hs, hr, hp]
    · simp [Locker.purged, hs, hr]
  | vacant => simp [Locker.purged, hs]
  | orphaned => simp [Locker.purged, hs]
  | outOfService => simp [Locker.purged, hs]
  | forced => simp [Locker.purged, hs]

theorem purgeLocker_find_self (s : State) (n : Nat) : (purgeLocker s n).lmu.find n = (s.lmu.find n).map Locker.purged := by
  cases hl : s.lmu.find n with
  | none => simp [purgeLocker, hl]
  | some l =>
    cases hs : l.state with
    | held => simp [purgeLocker, hl, hs, Locker.purged, vacate_find n l l s hl]
    | opening => simp [purgeLocker, hl, hs, Locker.purged, vacate_find n l l s hl]
    | opened => simp [purgeLocker, hl, hs, Locker.purged, vacate_find n l l s hl]
    | forced => simp [purgeLocker, hl, hs, Locker.purged, LockerMap.find_put_some _ _ _ _ hl]
    | unreachable =>
      by_cases hr : l.remembered = some .held ∨ l.remembered = some .opening ∨ l.remembered = some .opened
      · have hr' : (l.remembered = some .held || l.remembered = some .opening || l.remembered = some .opened) = true := by
          simpa [or_assoc] using hr
        simp [purgeLocker, hl, hs, Locker.purged, hr, hr', LockerMap.find_put_some _ _ _ _ hl]
      · have hr' : (l.remembered = some .held || l.remembered = some .opening || l.remembered = some .opened) = false := by
          simpa [and_assoc] using hr
        simp [purgeLocker, hl, hs, Locker.purged, hr, hr', LockerMap.find_put_some _ _ _ _ hl]
    | vacant => simp [purgeLocker, hl, hs, Locker.purged]
    | orphaned => simp [purgeLocker, hl, hs, Locker.purged]
    | outOfService => simp [purgeLocker, hl, hs, Locker.purged]

theorem purgeLocker_find_other (s : State) (n m : Nat) (h : m ≠ n) : (purgeLocker s n).lmu.find m = s.lmu.find m := by
  unfold purgeLocker
  dsimp only
  (repeat' split) <;> simp [vacate_find_other n m _ s h, LockerMap.find_put_other _ _ _ _ h]

/-- A locker of the map stands among its logical numbers (R24). -/
theorem LockerMap.mem_numbers {m : LockerMap} {n : Nat} {l : Locker} (h : m.find n = some l) : n ∈ m.numbers := by
  obtain ⟨b, hb, hd⟩ := Option.bind_eq_some_iff.mp h
  have hbank : lockerBank n < m.banks.length := (List.getElem?_eq_some_iff.mp hb).1
  have hdoor : lockerDoor n < b.lockers.length := (List.getElem?_eq_some_iff.mp hd).1
  refine List.mem_flatMap.mpr ⟨lockerBank n, List.mem_range.mpr hbank, List.mem_map.mpr ⟨lockerDoor n, ?_, ?_⟩⟩
  · simpa [LockerMap.doors, hb] using hdoor
  · simp only [lockerNumber, lockerBank, lockerDoor, Config.doorsPerBank]; omega

theorem purgeLockers_find (s : State) (n : Nat) (l : Locker) (h : s.lmu.find n = some l) :
    (purgeLockers s).lmu.find n = some l.purged := by
  rw [purgeLockers, (purgeReads_keeps _).2.2.1, foldl_entries (fun t m => t.lmu.find m) purgeLocker Locker.purged
    purgeLocker_find_self purgeLocker_find_other Locker.purged_purged, if_pos (LockerMap.mem_numbers h), h, Option.map_some]

/-- Without a band record no change of a record's fields does anything. -/
theorem BandRegister.update_of_no_bands (r : BandRegister) (b : BandNo) (f : BandRecord → BandRecord) (h : r.bands = []) :
    r.update b f = r := by
  cases r; simp_all [BandRegister.update]

theorem purgeLocker_bdr (s : State) (n : Nat) (h : s.bdr.bands = []) : (purgeLocker s n).bdr = s.bdr := by
  have hvacate : ∀ l, (vacate n l s).bdr = s.bdr := fun l => by
    rw [vacate_bdr]
    cases hh : l.holder with
    | none => rfl
    | some b => exact BandRegister.update_of_no_bands _ _ _ h
  unfold purgeLocker
  dsimp only
  (repeat' split) <;> simp [hvacate]

theorem purgeLockers_bdr (s : State) (h : s.bdr.bands = []) : (purgeLockers s).bdr = s.bdr := by
  rw [purgeLockers, (purgeReads_keeps _).2.1]
  exact List.foldlRecOn _ _ (motive := fun t : State => t.bdr = s.bdr) rfl
    fun t ht n _ => (purgeLocker_bdr t n (ht ▸ h)).trans ht

/-! ## Cabins (R77) -/

/-- A cabin at PURGE (R77). -/
def Cabin.purged (c : Cabin) : Cabin :=
  if c.acting = .occupied ∨ c.acting = .cleaning then
    { { c with band := none, overstayFlag := false, doorOpenSince := none, entryExpiry := none, cleaningExpiry := none }.act
        (if c.pendingOut then .outOfService else .free) with pendingOut := false }
  else c

theorem Cabin.purged_purged (c : Cabin) : c.purged.purged = c.purged := by
  by_cases h : c.acting = .occupied ∨ c.acting = .cleaning
  · have hleft : ¬(c.purged.acting = .occupied ∨ c.purged.acting = .cleaning) := by
      rw [Cabin.purged, if_pos h]
      by_cases hs : c.state = .unreachable <;> cases hp : c.pendingOut <;> simp [Cabin.act, Cabin.acting, hs]
    rw [Cabin.purged, if_neg hleft]
  · simp [Cabin.purged, h]

theorem purgeCabin_cbu (n : Nat) (c : Cabin) (s : State) (h : s.cbu.find n = some c) :
    (purgeCabin n s).cbu = if c.acting = .occupied ∨ c.acting = .cleaning then s.cbu.put n c.purged else s.cbu := by
  by_cases ha : c.acting = .occupied ∨ c.acting = .cleaning
  · have hfrees : c.purgeFrees = true := by simpa [Cabin.purgeFrees] using ha
    cases hp : c.pendingOut <;> by_cases hs : c.state = .unreachable <;>
      simp [purgeCabin, h, hfrees, ha, hp, Cabin.purged, Cabin.act, hs]
  · have hfrees : c.purgeFrees = false := by simpa [Cabin.purgeFrees] using ha
    simp [purgeCabin, h, hfrees, ha]

theorem purgeCabin_find_self (s : State) (n : Nat) : (purgeCabin n s).cbu.find n = (s.cbu.find n).map Cabin.purged := by
  cases hc : s.cbu.find n with
  | none => simp [purgeCabin, hc]
  | some c =>
    rw [purgeCabin_cbu n c s hc]
    split
    · exact CabinUnit.find_put_self _ _ _ _ hc
    · next ha => rw [hc, Option.map_some, Cabin.purged, if_neg ha]

theorem purgeCabin_find_other (s : State) (n m : Nat) (h : m ≠ n) : (purgeCabin n s).cbu.find m = s.cbu.find m := by
  unfold purgeCabin
  dsimp only
  (repeat' split) <;> simp [CabinUnit.find_put_other _ _ _ _ h]

theorem purgeCabin_groups (n : Nat) (s : State) : (purgeCabin n s).cbu.groups = s.cbu.groups := by
  unfold purgeCabin
  dsimp only
  (repeat' split) <;> simp [CabinUnit.put]

theorem CabinUnit.lt_of_find {u : CabinUnit} {n : Nat} {c : Cabin} (h : u.find n = some c) : n < u.cabins.length :=
  (List.getElem?_eq_some_iff.mp h).1

theorem overCabins_purgeCabin_find (s : State) (n : Nat) :
    (overCabins purgeCabin s).cbu.find n = (s.cbu.find n).map Cabin.purged := by
  rw [overCabins, foldl_entries (fun t m => t.cbu.find m) (fun t m => purgeCabin m t) Cabin.purged purgeCabin_find_self
    purgeCabin_find_other Cabin.purged_purged]
  cases hc : s.cbu.find n with
  | none => simp
  | some c => simp [CabinUnit.lt_of_find hc]

theorem overCabins_purgeCabin_groups (s : State) : (overCabins purgeCabin s).cbu.groups = s.cbu.groups :=
  List.foldlRecOn _ _ (motive := fun t : State => t.cbu.groups = s.cbu.groups) rfl
    fun t ht n _ => (purgeCabin_groups n t).trans ht

/-! ## Status reads (R51) -/

/-- Every lock bank not Lost has a status read due. -/
def FieldLine.BankReadsDue (f : FieldLine) : Prop :=
  ∀ st ∈ f.stations, kindOf st.addr = .lockBank → st.health ≠ .lost → st.statusDue.isSome = true

theorem purgeReads_bankReadsDue (s : State) : (purgeReads s).flm.BankReadsDue := by
  have hmarked : ∀ st : Station, (st.markRead .plain).statusDue.isSome = true := fun st => by
    unfold Station.markRead ReadKind.join; split <;> rfl
  intro st hst hkind hlost
  obtain ⟨old, -, rfl⟩ := List.mem_map.mp hst
  by_cases h : kindOf old.addr = .lockBank ∧ old.health ≠ .lost
  · simpa [Station.purgeRead, h] using hmarked old
  · have hold : old.purgeRead = old := by simp_all [Station.purgeRead]
    exact absurd ⟨hold ▸ hkind, hold ▸ hlost⟩ h

theorem showCabin_bankReadsDue (n : Nat) (s : State) (h : s.flm.BankReadsDue) : (showCabin n s).flm.BankReadsDue := by
  simp only [showCabin, FieldLine.showCabin]
  split
  · exact h
  · intro st hst
    obtain ⟨old, hold, rfl⟩ := List.mem_map.mp hst
    split
    · exact h old hold
    · exact h old hold

theorem purgeCabin_bankReadsDue (n : Nat) (s : State) (h : s.flm.BankReadsDue) : (purgeCabin n s).flm.BankReadsDue := by
  have hmove : ∀ c, (moveCabin n c s).flm.BankReadsDue := fun c => showCabin_bankReadsDue n (putCabin n c s) h
  unfold purgeCabin
  dsimp only
  (repeat' split) <;> simp [hmove, h]

theorem overCabins_purgeCabin_bankReadsDue (s : State) (h : s.flm.BankReadsDue) :
    (overCabins purgeCabin s).flm.BankReadsDue :=
  List.foldlRecOn _ _ (motive := fun t : State => t.flm.BankReadsDue) h fun t ht n _ => purgeCabin_bankReadsDue n t ht

theorem FieldLine.BankReadsDue.find {f : FieldLine} (h : f.BankReadsDue) {a : Nat} {st : Station} (hst : f.find a = some st)
    (hkind : kindOf a = .lockBank) (hlost : st.health ≠ .lost) : st.statusDue.isSome = true := by
  have ha : st.addr = a := by simpa using List.find?_some hst
  exact h st (List.mem_of_find?_eq_some hst) (ha ▸ hkind) hlost

/-! ## PURGE (R135) -/

theorem purgeActs_bdr (s : State) : (purgeActs s).bdr = { s.bdr with bands := [], parties := [] } := by
  have hempty : (emptyBands (purgeLanes s)).bdr = { s.bdr with bands := [], parties := [] } := by
    simp [emptyBands, purgeLanes, overLanes_unwindQuote_masters]
  simp [purgeActs, purgeLockers_bdr _ (congrArg BandRegister.bands hempty), hempty]

theorem purgeActs_bankReadsDue (s : State) : (purgeActs s).flm.BankReadsDue := by
  rw [purgeActs]
  exact overCabins_purgeCabin_bankReadsDue (purgeLockers (emptyBands (purgeLanes s))) (by
    rw [purgeLockers]; exact purgeReads_bankReadsDue _)

theorem purgeActs_lane (s : State) (l : Nat) (e : Lane) (h : s.xlu.find l = some e) :
    (purgeActs s).xlu.find l = some { e.unwound with lastExpiry := none } := by
  rw [← purgeLanes_find s l e h]
  simp [purgeActs, emptyBands]

theorem purgeActs_locker (s : State) (n : Nat) (l : Locker) (h : s.lmu.find n = some l) :
    (purgeActs s).lmu.find n = some l.purged := by
  rw [← purgeLockers_find (emptyBands (purgeLanes s)) n l (by simpa [emptyBands] using h)]
  simp [purgeActs]

theorem purgeActs_cbu (s : State) :
    (purgeActs s).cbu = (overCabins purgeCabin (purgeLockers (emptyBands (purgeLanes s)))).cbu := by
  rw [purgeActs]

theorem purgeActs_cabin (s : State) (n : Nat) (c : Cabin) (h : s.cbu.find n = some c) :
    (purgeActs s).cbu.find n = some c.purged := by
  have hkept : (purgeLockers (emptyBands (purgeLanes s))).cbu = s.cbu := by simp [emptyBands]
  rw [purgeActs_cbu, overCabins_purgeCabin_find, hkept, h, Option.map_some]

theorem purgeActs_groups (s : State) : (purgeActs s).cbu.groups = s.cbu.groups := by
  have hkept : (purgeLockers (emptyBands (purgeLanes s))).cbu = s.cbu := by simp [emptyBands]
  rw [purgeActs_cbu, overCabins_purgeCabin_groups, hkept]

/-- Settles O49. -/
theorem purgeClearsTheTenancy : Obligations.PurgeClearsTheTenancy := by
  intro tag body s h
  have hexec : exec (.purge tag body) s = .next (settleOwned tag (purge (popOrder s))) := by
    simp [exec, execPurge, runOrder_taken _ _ _ _ _ h]
  rw [hexec]
  refine ⟨fun hday => ?_, fun hday => by simp [purge, hday]⟩
  have hpurge : purge (popOrder s) = done
      (.purged (purgeCounts s).bands (purgeCounts s).quotes (purgeCounts s).vacated (purgeCounts s).forced (purgeCounts s).cabins)
      (raiseNotice (.dayEvent (.purged (purgeCounts s).bands (purgeCounts s).quotes (purgeCounts s).vacated
        (purgeCounts s).forced (purgeCounts s).cabins)) (purgeActs (popOrder s))) := by
    simp [purge, hday]; rfl
  rw [hpurge, settleOwned_done]
  refine ⟨_, rfl, ?_, ?_, ?_, ?_, fun l e he => ?_, fun n l hl => ?_, fun a st hst hkind hlost => ?_, fun n c hc => ?_, ?_,
    fun hb => ?_, fun hb => ?_, ?_, ?_⟩
  · simp [purgeActs_bdr]
  · simp [purgeActs_bdr]
  · simp [purgeActs_bdr]
  · simp [purgeActs]
  · simp only [placeAnswer_keeps, raiseNotice_keeps, purgeActs_lane (popOrder s) l e he]
    by_cases ha : e.acting = .holding
    · cases hs : e.state <;> simp [Lane.unwound, ha, Lane.act, hs]
    · simp [Lane.unwound, ha]
  · simp only [placeAnswer_keeps, raiseNotice_keeps, purgeActs_locker (popOrder s) n l hl]
    refine ⟨fun hs => ?_, fun hs => ?_, fun hs => ⟨l.purged, rfl, ?_⟩, fun hs => ?_⟩
    · rcases hs with hs | hs | hs <;> simp [Locker.purged, hs]
    · simp [Locker.purged, hs]
    · by_cases hr : l.remembered = some .held ∨ l.remembered = some .opening ∨ l.remembered = some .opened
      · simp [Locker.purged, hs, hr]
      · simp [Locker.purged, hs, hr]
    · rcases hs with hs | hs | hs <;> simp [Locker.purged, hs]
  · simp only [placeAnswer_keeps, raiseNotice_keeps] at hst
    exact (purgeActs_bankReadsDue (popOrder s)).find hst hkind hlost
  · simp only [placeAnswer_keeps, raiseNotice_keeps, purgeActs_cabin (popOrder s) n c hc, Cabin.purged]
  · simp only [placeAnswer_keeps, raiseNotice_keeps, purgeActs_groups, popOrder_keeps]
  · simpa [purgeCounts, hb] using answered_placeAnswer _ _
  · have hcounts : purgeCounts s =
        { bands := s.bdr.bands.length, quotes := (s.xlu.lanes.filter (fun e => e.acting = .holding)).length,
          vacated := s.lmu.count purgeVacates, forced := s.lmu.count purgeLeavesForced,
          cabins := (s.cbu.cabins.filter Cabin.purgeFrees).length } := by
      rw [purgeCounts, if_neg hb]; rfl
    rw [hcounts]
    exact answered_placeAnswer _ _
  · simp [Conditions.latch, NoticeClass.code, NoticeContent.cls]
  · simp [keepsAllBut_iff]

end Sys2Proof.Machine

/-! The warm reset (O17): offers withdrawn with their bands restored, every group's allocation, quotes given back, and the link
controller left alone once it is emptied. -/
namespace Sys2Proof.Machine

/-! ## A band restored at the head of its queue (R57, R58) -/

theorem displaceTail_of_room (g : Nat) (announce : Bool) (s : State) (h : (s.cbu.queue g).length < 32) :
    displaceTail g announce s = s := by simp [displaceTail, Config.maxQueue, h]

/-- At a warm reset the band at the tail of a full queue is taken out without a notice (R58 (c), R78). -/
theorem displaceTail_of_full (g : Nat) (last : QueueEntry) (s : State) (h : 32 ≤ (s.cbu.queue g).length)
    (hlast : (s.cbu.queue g).getLast? = some last) :
    displaceTail g false s = setLink last.band none (setQueue g List.dropLast s) := by
  simp [displaceTail, Config.maxQueue, Nat.not_lt.mpr h, hlast]

@[simp] theorem displaceTail_cabin (g m : Nat) (announce : Bool) (s : State) :
    (displaceTail g announce s).cbu.find m = s.cbu.find m := by
  unfold displaceTail
  dsimp only
  (repeat' split) <;> simp

@[simp] theorem restoreHead_cabin (g m : Nat) (e : QueueEntry) (announce : Bool) (s : State) :
    (restoreHead g e announce s).cbu.find m = s.cbu.find m := by simp [restoreHead]

/-! ## An offer withdrawn (R66, R78) -/

/-- A cabin whose offer a warm reset has withdrawn. -/
def Cabin.unwound (c : Cabin) : Cabin := if c.band = none then c else c.unoffered.act .free

@[simp] theorem Cabin.act_band (c : Cabin) (st : CabinState) : (c.act st).band = c.band := by
  unfold Cabin.act; split <;> rfl

theorem Cabin.unwound_unwound (c : Cabin) : c.unwound.unwound = c.unwound := by
  cases hb : c.band with
  | none => simp [Cabin.unwound, hb]
  | some b =>
    have hnone : c.unwound.band = none := by simp [Cabin.unwound, hb, Cabin.unoffered]
    rw [Cabin.unwound, if_pos hnone]

@[simp] theorem Cabin.unwound_group (c : Cabin) : c.unwound.group = c.group := by
  unfold Cabin.unwound; split <;> simp

theorem Cabin.unwound_not_offered (c : Cabin) (h : c.band ≠ none) : c.unwound.acting ≠ .offered := by
  by_cases hs : c.state = .unreachable <;> simp [Cabin.unwound, h, Cabin.acting, Cabin.act, Cabin.unoffered, hs]

theorem unwindOffer_find_self (s : State) (n : Nat) : (unwindOffer n s).cbu.find n = (s.cbu.find n).map Cabin.unwound := by
  cases hc : s.cbu.find n with
  | none => simp [unwindOffer, hc]
  | some c =>
    cases hb : c.band with
    | none => simp [unwindOffer, hc, Cabin.offeredEntry, hb, Cabin.unwound]
    | some b => simp [unwindOffer, hc, Cabin.offeredEntry, hb, Cabin.unwound, CabinUnit.find_put_self _ _ _ _ hc]

theorem unwindOffer_find_other (s : State) (n m : Nat) (h : m ≠ n) : (unwindOffer n s).cbu.find m = s.cbu.find m := by
  unfold unwindOffer
  (repeat' split) <;> simp [CabinUnit.find_put_other _ _ _ _ h]

/-! ## Every offer withdrawn (R22, R78) -/

theorem mem_insertOffer (x y : Nat × Nat) (l : List (Nat × Nat)) : x ∈ insertOffer y l ↔ x = y ∨ x ∈ l := by
  induction l with
  | nil => simp [insertOffer]
  | cons z l ih =>
    unfold insertOffer
    split
    · simp
    · simp [ih, or_left_comm]

theorem mem_sortOffers (x : Nat × Nat) (l : List (Nat × Nat)) : x ∈ sortOffers l ↔ x ∈ l := by
  induction l with
  | nil => simp [sortOffers]
  | cons y l ih =>
    rw [sortOffers, List.foldr_cons, mem_insertOffer, List.mem_cons]
    exact or_congr_right ih

/-- The cabins of a group that hold an offer, and no others, stand in its list of offers. -/
theorem mem_standingOffers (g n : Nat) (s : State) :
    n ∈ (standingOffers g s).map (·.2) ↔ ∃ c, s.cbu.find n = some c ∧ c.group = g ∧ c.acting = .offered := by
  simp only [standingOffers, List.mem_map, List.mem_filterMap, List.mem_range, CabinUnit.find]
  constructor
  · rintro ⟨x, ⟨m, hm, hx⟩, rfl⟩
    rw [List.getElem?_eq_getElem hm] at hx
    by_cases hc : s.cbu.cabins[m].group = g ∧ s.cbu.cabins[m].acting = .offered
    · simp only [hc, decide_true, Bool.and_self, if_true, Option.some.injEq] at hx
      subst hx
      exact ⟨_, List.getElem?_eq_getElem hm, hc⟩
    · simp_all
  · rintro ⟨c, hc, hg, ho⟩
    exact ⟨_, ⟨n, (List.getElem?_eq_some_iff.mp hc).1, by simp only [hc]; rw [if_pos (by simp [hg, ho])]⟩, rfl⟩

theorem unwindGroup_find (g n : Nat) (s : State) :
    (unwindGroup g s).cbu.find n
      = (s.cbu.find n).map (fun c => if c.group = g ∧ c.acting = .offered then c.unwound else c) := by
  have hmem : n ∈ ((sortOffers (standingOffers g s)).reverse.map (·.2))
      ↔ ∃ c, s.cbu.find n = some c ∧ c.group = g ∧ c.acting = .offered := by
    rw [← mem_standingOffers]
    simp [mem_sortOffers]
  have hfold : unwindGroup g s
      = ((sortOffers (standingOffers g s)).reverse.map (·.2)).foldl (fun t m => unwindOffer m t) s := by
    rw [unwindGroup, List.foldl_map]
  rw [hfold, foldl_entries (fun t m => t.cbu.find m) (fun t m => unwindOffer m t) Cabin.unwound unwindOffer_find_self
    unwindOffer_find_other Cabin.unwound_unwound]
  cases hc : s.cbu.find n with
  | none => simp
  | some c =>
    rw [hc] at hmem
    by_cases h : c.group = g ∧ c.acting = .offered
    · rw [if_pos (hmem.mpr ⟨c, rfl, h⟩)]; simp [h]
    · rw [if_neg fun hm => by obtain ⟨k, hk, hkh⟩ := hmem.mp hm; simp_all]; simp [h]

theorem restoreOffers_find (s : State) (n : Nat) :
    (restoreOffers s).cbu.find n
      = (s.cbu.find n).map (fun c => if c.group < s.cbu.groups.length ∧ c.acting = .offered then c.unwound else c) := by
  have hfold : ∀ (l : List Nat) (t : State), (l.foldl (fun t g => unwindGroup g t) t).cbu.find n
      = (t.cbu.find n).map (fun c => if c.group ∈ l ∧ c.acting = .offered then c.unwound else c) := fun l => by
    induction l with
    | nil => simp
    | cons g l ih =>
      intro t
      rw [List.foldl_cons, ih, unwindGroup_find, Option.map_map]
      congr 1
      funext c
      simp only [Function.comp_apply, List.mem_cons]
      by_cases hg : c.group = g ∧ c.acting = .offered
      · rw [if_pos hg, Cabin.unwound_unwound, ite_self, if_pos ⟨.inl hg.1, hg.2⟩]
      · rw [if_neg hg]
        refine if_congr ?_ rfl rfl
        exact ⟨fun h => ⟨.inr h.1, h.2⟩, fun h => ⟨h.1.resolve_left fun hc => hg ⟨hc, h.2⟩, h.2⟩⟩
  rw [restoreOffers, overGroups, hfold]
  simp

/-- After the withdrawals of a warm reset no cabin is Offered, nor remembered so (R22 (a)). -/
theorem restoreOffers_noOffer (s : State)
    (h : ∀ c ∈ s.cbu.cabins, c.acting = .offered → c.band ≠ none ∧ c.group < s.cbu.groups.length) :
    ∀ c ∈ (restoreOffers s).cbu.cabins, c.acting ≠ .offered := by
  intro c hc
  obtain ⟨n, hn⟩ := List.mem_iff_getElem?.mp hc
  have hfind := restoreOffers_find s n
  rw [CabinUnit.find, hn] at hfind
  obtain ⟨old, hold, rfl⟩ := Option.map_eq_some_iff.mp hfind.symm
  have hmem : old ∈ s.cbu.cabins := List.mem_iff_getElem?.mpr ⟨n, hold⟩
  by_cases ho : old.acting = .offered
  · obtain ⟨hb, hg⟩ := h old hmem ho
    simpa [ho, hg] using old.unwound_not_offered hb
  · simp [ho]

/-! ## Every group allocates (R62) -/

/-- No cabin of the group is Free while its queue holds an entry (R62). -/
def CabinUnit.Served (u : CabinUnit) (g : Nat) : Prop := u.queue g = [] ∨ u.lowestFree g = none

theorem CabinUnit.served_of_ge {u : CabinUnit} {g : Nat} (h : u.groups.length ≤ g) : u.Served g :=
  .inl (by simp [CabinUnit.queue, CabinUnit.group, List.getElem?_eq_none h])

theorem allocate_of_served {g : Nat} {s : State} (h : s.cbu.Served g) : allocate g s = s := by
  rcases h with h | h
  · exact allocate_of_queue_nil g s h
  · exact allocate_of_noneFree g s h

theorem allocateUpTo_serves (k g : Nat) (s : State) (h : (s.cbu.queue g).length ≤ k) : (allocateUpTo k g s).cbu.Served g := by
  induction k generalizing s with
  | zero => exact .inl (List.length_eq_zero_iff.mp (Nat.le_zero.mp h))
  | succ k ih =>
    cases hq : s.cbu.queue g with
    | nil => exact .inl (by simp [allocateUpTo, hq])
    | cons e rest =>
      cases hf : s.cbu.lowestFree g with
      | none => exact .inr (by simp [allocateUpTo, hq, hf])
      | some n =>
        obtain ⟨c, hc, -, -⟩ := CabinUnit.lowestFree_eq_some hf
        have hrest : (makeOffer g n e s).cbu.queue g = rest := by
          rw [makeOffer_cbu g n e c s hc, CabinUnit.put_queue, CabinUnit.queue_updateQueue _ _ _ rfl, hq, List.tail_cons]
        have hnext : allocateUpTo (k + 1) g s = allocateUpTo k g (makeOffer g n e s) := by simp [allocateUpTo, hq, hf]
        rw [hnext]
        exact ih _ (by rw [hrest]; simpa [hq] using h)

theorem allocate_serves (g : Nat) (s : State) : (allocate g s).cbu.Served g := allocateUpTo_serves _ g s le_rfl

/-- An offer takes a Free cabin away, so no group that is served has an offer to make after it. -/
theorem allocate_keeps_served (g h : Nat) (s : State) (hs : s.cbu.Served h) : (allocate g s).cbu.Served h := by
  by_cases hgh : h = g
  · rw [hgh]; exact allocate_serves g s
  refine allocate_induct (P := fun t => t.cbu.Served h) g (fun t n c e rest ht hc hg _ _ => ?_) s hs
  rw [CabinUnit.Served, makeOffer_cbu g n e c t hc, CabinUnit.put_queue, CabinUnit.queue_updateQueue_other _ _ _ _ hgh]
  refine ht.imp_right fun hf => ?_
  rw [CabinUnit.lowestFree_eq_none] at hf ⊢
  intro m k hk hkg
  by_cases hm : m = n
  · subst hm
    rw [CabinUnit.find_put_self _ _ _ c (by simpa using hc), Option.some.injEq] at hk
    subst hk
    exact absurd (hkg.symm.trans hg) hgh
  · rw [CabinUnit.find_put_other _ _ _ _ hm] at hk
    exact hf m k hk hkg

/-- After every group has allocated, each is served (R62, R172). -/
theorem overGroups_allocate_serves (s : State) (h : Nat) : (overGroups allocate s).cbu.Served h := by
  have hkept : ∀ (l : List Nat) (t : State), t.cbu.Served h → (l.foldl (fun t g => allocate g t) t).cbu.Served h :=
    fun l t ht => List.foldlRecOn l _ (motive := fun t : State => t.cbu.Served h) ht
      fun t ht g _ => allocate_keeps_served g h t ht
  have hreached : ∀ (l : List Nat) (t : State), h ∈ l → (l.foldl (fun t g => allocate g t) t).cbu.Served h := fun l => by
    induction l with
    | nil => simp
    | cons g l ih =>
      intro t hmem
      rcases List.mem_cons.mp hmem with rfl | hmem
      · exact hkept l _ (allocate_serves h t)
      · exact ih _ hmem
  by_cases hlt : h < s.cbu.groups.length
  · exact hreached _ s (List.mem_range.mpr hlt)
  · exact hkept _ s (CabinUnit.served_of_ge (Nat.not_lt.mp hlt))

/-- A sweep over the groups in which only one has anything to do. -/
theorem overGroups_only (f : Nat → State → State) (g : Nat) (s : State) (hlt : g < s.cbu.groups.length)
    (hbefore : ∀ h, h ≠ g → f h s = s) (hafter : ∀ h, h ≠ g → f h (f g s) = f g s) : overGroups f s = f g s := by
  have hkept : ∀ (l : List Nat) (t : State), (∀ h ∈ l, f h t = t) → l.foldl (fun t h => f h t) t = t := fun l t ht =>
    List.foldlRecOn l _ (motive := fun u : State => u = t) rfl fun u hu h hmem => by rw [hu, ht h hmem]
  obtain ⟨before, after, hsplit⟩ := List.append_of_mem (List.mem_range.mpr hlt)
  have hnodup : (before ++ g :: after).Nodup := hsplit ▸ List.nodup_range
  have hnotin : ∀ h, h ∈ before ∨ h ∈ after → h ≠ g := by
    rintro h hmem rfl
    rw [List.nodup_append, List.nodup_cons] at hnodup
    obtain ⟨-, ⟨hout, -⟩, hdisj⟩ := hnodup
    exact hmem.elim (fun hm => hdisj h hm h (List.mem_cons_self ..) rfl) hout
  rw [overGroups, hsplit, List.foldl_append, hkept before s fun h hm => hbefore h (hnotin h (.inl hm)), List.foldl_cons]
  exact hkept after _ fun h hm => hafter h (hnotin h (.inr hm))

end Sys2Proof.Machine

/-! RESET and the warm reset (O17): what its owners leave alone, one offer and one quote given back, and the whole act. -/
namespace Sys2Proof.Machine

/-! ## What the owners' part leaves alone (R172) -/

/-- The link controller, the conditions, the parties and the master slots stand as they stood. -/
def WarmKept (s t : State) : Prop :=
  t.lkc = s.lkc ∧ t.cnu = s.cnu ∧ t.bdr.parties = s.bdr.parties ∧ t.bdr.masters = s.bdr.masters

theorem WarmKept.refl (s : State) : WarmKept s s := ⟨rfl, rfl, rfl, rfl⟩

theorem WarmKept.trans {s t u : State} (h : WarmKept s t) (h' : WarmKept t u) : WarmKept s u := by
  obtain ⟨hlkc, hcnu, hparties, hmasters⟩ := h
  obtain ⟨hlkc', hcnu', hparties', hmasters'⟩ := h'
  exact ⟨hlkc'.trans hlkc, hcnu'.trans hcnu, hparties'.trans hparties, hmasters'.trans hmasters⟩

theorem WarmKept.watches {s t : State} (h : WarmKept s t) (hw : s.lkc.watches = []) : t.lkc.watches = [] := by
  rw [h.1, hw]

theorem foldl_warmKept {α : Type} (f : State → α → State) (l : List α) (s : State) (hw : s.lkc.watches = [])
    (h : ∀ t a, t.lkc.watches = [] → WarmKept t (f t a)) : WarmKept s (l.foldl f s) :=
  List.foldlRecOn l f (motive := fun t => WarmKept s t) (WarmKept.refl s) fun t ht a _ => ht.trans (h t a (ht.watches hw))

theorem moveCabin_warmKept (n : Nat) (c : Cabin) (s : State) (hw : s.lkc.watches = []) : WarmKept s (moveCabin n c s) :=
  ⟨(putCabin_lkc n c s).trans (meetWhen_of_no_watch _ _ _ _ hw), by simp, by simp, by simp⟩

theorem moveLane_warmKept (l : Nat) (e : Lane) (s : State) (hw : s.lkc.watches = []) : WarmKept s (moveLane l e s) :=
  ⟨(putLane_lkc l e s).trans (meetWhen_of_no_watch _ _ _ _ hw), by simp, by simp, by simp⟩

theorem restoreHead_warmKept (g : Nat) (e : QueueEntry) (s : State) : WarmKept s (restoreHead g e false s) := by
  have hdisplaced : WarmKept s (displaceTail g false s) := by
    unfold displaceTail
    dsimp only
    (repeat' split) <;> simp_all [WarmKept]
  exact hdisplaced.trans (by simp [restoreHead, WarmKept])

theorem unwindOffer_warmKept (n : Nat) (s : State) (hw : s.lkc.watches = []) : WarmKept s (unwindOffer n s) := by
  unfold unwindOffer
  split
  · exact WarmKept.refl s
  · split
    · exact WarmKept.refl s
    · exact (moveCabin_warmKept n _ s hw).trans (restoreHead_warmKept _ _ _)

theorem makeOffer_warmKept (g n : Nat) (e : QueueEntry) (s : State) (hw : s.lkc.watches = []) :
    WarmKept s (makeOffer g n e s) := by
  unfold makeOffer
  split
  · exact WarmKept.refl s
  · next c hc =>
    have hmoved : WarmKept s (moveCabin n (c.offeredTo e (addSeconds s.now (groupSetting s g).offerWindow))
        (setQueue g List.tail s)) := moveCabin_warmKept n _ (setQueue g List.tail s) hw
    exact hmoved.trans ⟨rfl, rfl, rfl, rfl⟩

theorem allocate_warmKept (g : Nat) (s : State) (hw : s.lkc.watches = []) : WarmKept s (allocate g s) :=
  allocate_induct (P := fun t => WarmKept s t) g
    (fun t n _ e _ ht _ _ _ _ => ht.trans (makeOffer_warmKept g n e t (ht.watches hw))) s (WarmKept.refl s)

theorem unwindQuote_warmKept (l : Nat) (s : State) (hw : s.lkc.watches = []) : WarmKept s (unwindQuote l s) := by
  have hunquote : ∀ b t, WarmKept t (unquote b t) := fun b t => by cases b <;> simp [unquote, WarmKept]
  have hended : ∀ e last, WarmKept s (endQuote l e last s) := fun e last =>
    (moveLane_warmKept l _ s hw).trans (hunquote _ _)
  unfold unwindQuote giveBackQuote
  (repeat' split)
  · exact WarmKept.refl s
  · next e _ _ _ => exact (hended e e.lastExpiry).trans (by simp [WarmKept])
  · exact hended _ _
  · exact WarmKept.refl s

theorem warmCabins_warmKept (s : State) (hw : s.lkc.watches = []) : WarmKept s (warmCabins s) := by
  have hgroup : ∀ t g, t.lkc.watches = [] → WarmKept t (unwindGroup g t) := fun t g ht =>
    foldl_warmKept _ _ t ht fun u x hu => unwindOffer_warmKept x.2 u hu
  have hrestored : WarmKept s (restoreOffers s) := foldl_warmKept _ _ s hw hgroup
  exact hrestored.trans (foldl_warmKept _ _ _ (hrestored.watches hw) fun t g ht => allocate_warmKept g t ht)

theorem warmLanes_warmKept (s : State) (hw : s.lkc.watches = []) : WarmKept s (warmLanes s) :=
  foldl_warmKept _ _ s hw fun t l ht => unwindQuote_warmKept l t ht

/-! ## The link reset (R152) -/

theorem LinkController.start_queues (l : LinkController) :
    l.start.orders = l.orders ∧ l.start.answers = l.answers ∧ l.start.watches = l.watches := by
  unfold LinkController.start LinkController.choose
  (repeat' split) <;> simp_all

theorem LinkController.offer_queues (l : LinkController) (n : Notice) :
    (l.offer n).orders = l.orders ∧ (l.offer n).answers = l.answers ∧ (l.offer n).watches = l.watches := by
  unfold LinkController.offer
  split
  · exact LinkController.start_queues _
  · exact ⟨rfl, rfl, rfl⟩

theorem linkReset_queues (s : State) :
    (linkReset s).lkc.orders = [] ∧ (linkReset s).lkc.answers = [] ∧ (linkReset s).lkc.watches = [] := by
  have hcut : s.lkc.cutOff.orders = [] ∧ s.lkc.cutOff.answers = [] ∧ s.lkc.cutOff.watches = [] :=
    LinkController.start_queues _
  rw [linkReset, raiseNotice]
  dsimp only
  split
  · simpa [LinkController.offer_queues] using hcut
  · exact hcut

theorem linkReset_cnu (s : State) :
    (linkReset s).cnu.bits.getLsbD 6 = true ∧ (linkReset s).cnu.mask = s.cnu.mask := by
  simp [linkReset, Conditions.latch, NoticeClass.code, NoticeContent.cls]

/-! ## Stations at a warm reset (R149) -/

theorem Station.warm_read (st : Station) (h : st.warm.health ≠ .lost) :
    st.warm.missCount = 0 ∧ st.warm.statusDue.isSome = true := by
  by_cases hl : st.health = .lost
  · exact absurd (by simp [Station.warm, hl, Station.dropCarried]) h
  · rw [Station.warm, if_neg hl]
    refine ⟨rfl, ?_⟩
    simp only [Station.markRead, ReadKind.join]
    split <;> rfl

/-! ## One offer given back (R66, R78) -/

section
variable {n : Nat} {c : Cabin} {b : BandNo} {r : BandRecord} {ticket join misses : Nat} {s : State}

theorem unwindOffer_restores (hc : s.cbu.find n = some c) (hb : c.band = some b) (ht : c.ticketShown = some ticket)
    (hj : c.offerJoin = some join) (hm : c.offerMisses = some misses) :
    unwindOffer n s
      = restoreHead c.group { band := b, ticket := ticket, join := join, misses := misses } false (endOffer n c .free s) := by
  simp [unwindOffer, hc, Cabin.offeredEntry, hb, ht, hj, hm]

theorem unwindOffer_keepsAllBut (n : Nat) (s : State) : KeepsAllBut [.bdr, .cbu, .flm, .lkc] s (unwindOffer n s) := by
  have hcnu : (unwindOffer n s).cnu = s.cnu := by
    unfold unwindOffer
    split
    · rfl
    · split
      · rfl
      · rw [(restoreHead_warmKept _ _ _).2.1, (endOffer_keeps _ _ _ _).2.2.2.2.2.2.2]
  simp [keepsAllBut_iff, hcnu]

/-- With room in the queue the band stands again at its head, and nothing is taken out. -/
theorem unwindOffer_of_room (hc : s.cbu.find n = some c) (hb : c.band = some b) (ht : c.ticketShown = some ticket)
    (hj : c.offerJoin = some join) (hm : c.offerMisses = some misses) (hg : c.group < s.cbu.groups.length)
    (hlen : (s.cbu.queue c.group).length < 32) :
    (unwindOffer n s).cbu
        = (s.cbu.put n (c.unoffered.act .free)).updateGroup c.group
            (fun k => { k with queue := { band := b, ticket := ticket, join := join, misses := misses } :: k.queue })
      ∧ (unwindOffer n s).cbu.queue c.group
          = { band := b, ticket := ticket, join := join, misses := misses } :: s.cbu.queue c.group
      ∧ (unwindOffer n s).bdr = s.bdr.update b (fun x => { x with link := some (.queued c.group ticket) }) := by
  have hroom : displaceTail c.group false (endOffer n c .free s) = endOffer n c .free s :=
    displaceTail_of_room _ _ _ (by simpa using hlen)
  have hcbu : (unwindOffer n s).cbu
      = (s.cbu.put n (c.unoffered.act .free)).updateGroup c.group
          (fun k => { k with queue := { band := b, ticket := ticket, join := join, misses := misses } :: k.queue }) := by
    rw [unwindOffer_restores hc hb ht hj hm, restoreHead, hroom]; rfl
  refine ⟨hcbu, ?_, ?_⟩
  · rw [hcbu, CabinUnit.queue_updateQueue_of_lt _ _ (fun q => _ :: q) (by simpa [CabinUnit.put] using hg)]; rfl
  · rw [unwindOffer_restores hc hb ht hj hm, restoreHead, hroom]; simp

/-- At a full queue the band at its tail is taken out for it, its link absent (R58 (c)). -/
theorem unwindOffer_of_full {last : QueueEntry} (hc : s.cbu.find n = some c) (hb : c.band = some b)
    (ht : c.ticketShown = some ticket) (hj : c.offerJoin = some join) (hm : c.offerMisses = some misses)
    (hlen : 32 ≤ (s.cbu.queue c.group).length) (hlast : (s.cbu.queue c.group).getLast? = some last) :
    (unwindOffer n s).cbu.queue c.group
        = { band := b, ticket := ticket, join := join, misses := misses } :: (s.cbu.queue c.group).dropLast
      ∧ (unwindOffer n s).bdr
          = (s.bdr.update last.band (fun x => { x with link := none })).update b
              (fun x => { x with link := some (.queued c.group ticket) }) := by
  have hg : c.group < s.cbu.groups.length := by
    by_contra hge
    have hnil : s.cbu.queue c.group = [] := by
      simp [CabinUnit.queue, CabinUnit.group, List.getElem?_eq_none (Nat.not_lt.mp hge)]
    simp [hnil] at hlast
  have hfull := displaceTail_of_full c.group last (endOffer n c .free s) (by simpa using hlen) (by simpa using hlast)
  rw [unwindOffer_restores hc hb ht hj hm, restoreHead, hfull]
  refine ⟨?_, by simp⟩
  simp only [setLink_keeps, setQueue_cbu, endOffer_cbu]
  rw [CabinUnit.queue_updateQueue_of_lt _ _ (fun q => _ :: q) (by simpa [CabinUnit.put, CabinUnit.updateGroup] using hg),
    CabinUnit.queue_updateQueue _ _ _ rfl, CabinUnit.put_queue]

end

/-- No notice is raised (R78, log entry 9). -/
theorem unwindOffer_notices (n : Nat) (s : State) : (unwindOffer n s).lkc.notices = s.lkc.notices := by
  unfold unwindOffer
  split
  · rfl
  · next c _ =>
    split
    · rfl
    · next e _ =>
      have hrestored := (restoreHead_warmKept c.group e (endOffer n c .free s)).1
      rw [hrestored]
      exact meetWhen_notices _ _ _ _

/-! ## One quote given back (R22, R123) -/

theorem unquote_bdr_congr (b : Option BandNo) {s t : State} (h : t.bdr = s.bdr) : (unquote b t).bdr = (unquote b s).bdr := by
  cases b <;> simp [unquote, h]

theorem giveBackQuote_bdr (l : Nat) (e : Lane) (last : Option (BandNo × Nat)) (s : State) :
    (giveBackQuote l e last s).bdr = (unquote e.band s).bdr := by
  have hended : (endQuote l e last s).bdr = (unquote e.band s).bdr := unquote_bdr_congr e.band (by simp)
  unfold giveBackQuote
  split <;> simp [hended]

theorem unwindQuote_of_holding {l : Nat} {e : Lane} {s : State} (he : s.xlu.find l = some e) (h : e.acting = .holding) :
    unwindQuote l s = giveBackQuote l e e.lastExpiry s := by simp [unwindQuote, he, h]

theorem unwindQuote_bdr (l : Nat) (s : State) :
    (unwindQuote l s).bdr = s.bdr
      ∨ ∃ b, (unwindQuote l s).bdr = s.bdr.update b (fun r => { r with state := .inside, quote := none }) := by
  cases he : s.xlu.find l with
  | none => exact .inl (by simp [unwindQuote, he])
  | some e =>
    by_cases h : e.acting = .holding
    · rw [unwindQuote_of_holding he h, giveBackQuote_bdr]
      cases e.band with
      | none => exact .inl rfl
      | some b => exact .inr ⟨b, rfl⟩
    · exact .inl (by simp [unwindQuote, he, h])

/-- The quotes ended leave every band's link (R22 (b)). -/
theorem overLanes_unwindQuote_link (s : State) (b : BandNo) :
    ((overLanes unwindQuote s).bdr.find b).map (·.link) = (s.bdr.find b).map (·.link) := by
  have hone : ∀ l (t : State), ((unwindQuote l t).bdr.find b).map (·.link) = (t.bdr.find b).map (·.link) := fun l t => by
    rcases unwindQuote_bdr l t with h | ⟨x, h⟩
    · rw [h]
    · rw [h, BandRegister.find_update _ _ _ _ (by simp)]
      split <;> simp [Function.comp_def]
  exact List.foldlRecOn _ _ (motive := fun t : State => (t.bdr.find b).map (·.link) = (s.bdr.find b).map (·.link)) rfl
    fun t ht l _ => (hone l t).trans ht

/-! ## The warm reset -/

theorem warmReset_configured (s : State) (h : s.configured = true) :
    warmReset s
      = { warmLine (warmLanes (warmCabins (linkReset s))) with
          lkc := { (warmLanes (warmCabins (linkReset s))).lkc with resetPhase := .none } } := by
  have hconf : (linkReset s).configured = true := h
  simp only [warmReset, warmOwners, hconf, if_true]
  rfl

theorem overLanes_unwindQuote_notHolding (s : State) :
    ∀ e ∈ (overLanes unwindQuote s).xlu.lanes, e.acting ≠ .holding := by
  intro e he
  obtain ⟨l, hl⟩ := List.mem_iff_getElem?.mp he
  have hfind := overLanes_unwindQuote_find s l
  rw [LaneUnit.find] at hfind
  obtain ⟨old, -, rfl⟩ := Option.map_eq_some_iff.mp (hfind.symm.trans hl)
  exact old.unwound_not_holding

end Sys2Proof.Machine

/-! RESET and the warm reset (O17): the tables it leaves, the single standing offer that is made again, and the settlement. -/
namespace Sys2Proof.Machine

theorem warmReset_tables (s : State) (h : s.configured = true) :
    (warmReset s).cbu = (overGroups allocate (restoreOffers (linkReset s))).cbu
      ∧ (warmReset s).bdr = (overLanes unwindQuote (overGroups allocate (restoreOffers (linkReset s)))).bdr
      ∧ (warmReset s).xlu = (overLanes unwindQuote (overGroups allocate (restoreOffers (linkReset s)))).xlu := by
  rw [warmReset_configured s h]
  simp only [warmLine_keeps, warmLanes, warmCabins, overLanes_cbu, unwindQuote_keeps, implies_true, and_self]

theorem warmReset_warmKept (s : State) (h : s.configured = true) :
    (warmReset s).lkc = { (linkReset s).lkc with resetPhase := .none } ∧ (warmReset s).cnu = (linkReset s).cnu
      ∧ (warmReset s).bdr.parties = s.bdr.parties ∧ (warmReset s).bdr.masters = s.bdr.masters := by
  obtain ⟨-, -, hwatches⟩ := linkReset_queues s
  have hcabins := warmCabins_warmKept (linkReset s) hwatches
  obtain ⟨hlkc, hcnu, hparties, hmasters⟩ := hcabins.trans (warmLanes_warmKept _ (hcabins.watches hwatches))
  rw [warmReset_configured s h]
  simp only [warmLine_keeps, hlkc, hcnu, hparties, hmasters, linkReset_keeps, and_self]

/-! ## A single standing offer (R62, R78, R172) -/

theorem standingOffers_nil {g : Nat} {s : State} (h : ∀ m k, s.cbu.find m = some k → k.group = g → k.acting ≠ .offered) :
    standingOffers g s = [] := by
  rw [← List.map_eq_nil_iff (f := (·.2)), List.eq_nil_iff_forall_not_mem]
  intro m hm
  obtain ⟨k, hk, hg, ho⟩ := (mem_standingOffers g m s).mp hm
  exact h m k hk hg ho

/-- A list none of whose members but one is kept by a filter. -/
theorem filterMap_only {β : Type} {f : Nat → Option β} {l : List Nat} {n : Nat} {x : β} (hl : l.Nodup) (hn : n ∈ l)
    (hx : f n = some x) (honly : ∀ m, m ≠ n → f m = none) : l.filterMap f = [x] := by
  obtain ⟨before, after, rfl⟩ := List.append_of_mem hn
  rw [List.nodup_append, List.nodup_cons] at hl
  obtain ⟨-, ⟨hafter, -⟩, hbefore⟩ := hl
  have hnone : ∀ k : List Nat, n ∉ k → k.filterMap f = [] := fun k hk =>
    List.filterMap_eq_nil_iff.mpr fun m hm => honly m fun hmn => hk (hmn ▸ hm)
  rw [List.filterMap_append, hnone before fun hm => hbefore n hm n (List.mem_cons_self ..) rfl, List.filterMap_cons_some hx,
    hnone after hafter, List.nil_append]

theorem standingOffers_single {n : Nat} {c : Cabin} {s : State} (hc : s.cbu.find n = some c) (ho : c.acting = .offered)
    (honly : ∀ m k, s.cbu.find m = some k → k.acting = .offered → m = n) :
    ∃ x, standingOffers c.group s = [(x, n)] := by
  have hcabin : s.cbu.cabins[n]? = some c := hc
  refine ⟨secondsUntil s.now (c.offerExpiry.getD 0),
    filterMap_only List.nodup_range (List.mem_range.mpr (CabinUnit.lt_of_find hc)) (by simp [hcabin, ho]) fun m hm => ?_⟩
  cases hk : s.cbu.cabins[m]? with
  | none => rfl
  | some k =>
    have hnot : k.acting ≠ .offered := fun hk' => hm (honly m k hk hk')
    simp [hnot]

section
variable {n : Nat} {c : Cabin} {b : BandNo} {r : BandRecord} {ticket join misses : Nat} {s : State}

theorem unwindGroup_single {g x : Nat} (h : standingOffers g s = [(x, n)]) : unwindGroup g s = unwindOffer n s := by
  simp [unwindGroup, h, sortOffers, insertOffer]

theorem restoreOffers_single (hc : s.cbu.find n = some c) (ho : c.acting = .offered) (hb : c.band ≠ none)
    (hg : c.group < s.cbu.groups.length) (honly : ∀ m k, s.cbu.find m = some k → k.acting = .offered → m = n) :
    restoreOffers s = unwindOffer n s := by
  obtain ⟨x, hx⟩ := standingOffers_single hc ho honly
  have hown : unwindGroup c.group s = unwindOffer n s := unwindGroup_single hx
  have hnil : ∀ h t, standingOffers h t = [] → unwindGroup h t = t := fun h t ht => by simp [unwindGroup, ht, sortOffers]
  rw [restoreOffers, overGroups_only unwindGroup c.group s hg, hown]
  · intro h hh
    refine hnil h s (standingOffers_nil fun m k hk hkg hko => ?_)
    obtain rfl := honly m k hk hko
    exact hh (hkg.symm.trans (congrArg Cabin.group (Option.some.inj (hk.symm.trans hc))))
  · intro h hh
    rw [hown]
    refine hnil h _ (standingOffers_nil fun m k hk hkg hko => ?_)
    by_cases hm : m = n
    · subst hm
      rw [unwindOffer_find_self, hc, Option.map_some, Option.some.injEq] at hk
      subst hk
      exact c.unwound_not_offered hb hko
    · rw [unwindOffer_find_other _ _ _ hm] at hk
      exact hm (honly m k hk hko)

/-- The band whose offer alone stood is offered its cabin again, with a new expiry (R62, R78, R172). -/
theorem warmCabins_single (hc : s.cbu.find n = some c) (hs : c.state = .offered) (hb : c.band = some b)
    (ht : c.ticketShown = some ticket) (hj : c.offerJoin = some join) (hm : c.offerMisses = some misses)
    (hr : s.bdr.find b = some r) (hg : c.group < s.cbu.groups.length) (hlen : (s.cbu.queue c.group).length < 32)
    (honly : ∀ m k, s.cbu.find m = some k → k.acting = .offered → m = n) (hserved : ∀ g, s.cbu.Served g)
    (hfree : s.cbu.lowestFree c.group = none) :
    (warmCabins s).cbu.find n
        = some { c with offerExpiry := some ((s.sck.counter + (groupSetting s c.group).offerWindow) % 86400) }
      ∧ (warmCabins s).cbu.queue c.group = s.cbu.queue c.group
      ∧ (warmCabins s).bdr.find b = some { r with link := some (.offered n) } := by
  have hact : c.acting = .offered := by simp [Cabin.acting, hs]
  have hrestored : restoreOffers s = unwindOffer n s := restoreOffers_single hc hact (by simp [hb]) hg honly
  obtain ⟨hcbu, hqueue, hbdr⟩ := unwindOffer_of_room hc hb ht hj hm hg hlen
  have hfind : (unwindOffer n s).cbu.find n = some (c.unoffered.act .free) := by
    rw [unwindOffer_find_self, hc, Option.map_some, Cabin.unwound, if_neg (by simp [hb])]
  have hstate : (c.unoffered.act .free).state = .free := by rw [Cabin.act_state _ (by simp [Cabin.unoffered, hs])]
  have hgroup : (c.unoffered.act .free).group = c.group := by simp
  have hother : ∀ h, h ≠ c.group → (unwindOffer n s).cbu.Served h := fun h hh => by
    refine (hserved h).imp (fun hq => ?_) fun hf => ?_
    · rw [hcbu, CabinUnit.queue_updateQueue_other _ _ _ (fun q => _ :: q) hh, CabinUnit.put_queue, hq]
    · rw [CabinUnit.lowestFree_eq_none] at hf ⊢
      intro m k hk hkg
      by_cases hmn : m = n
      · subst hmn
        rw [hfind, Option.some.injEq] at hk
        subst hk
        exact absurd (hkg.symm.trans hgroup) hh
      · exact hf m k (unwindOffer_find_other s n m hmn ▸ hk) hkg
  have halloc : warmCabins s = allocate c.group (unwindOffer n s) := by
    rw [warmCabins, hrestored]
    refine overGroups_only allocate c.group _ (by simpa [hcbu, CabinUnit.put, CabinUnit.updateGroup] using hg) ?_ ?_
    · exact fun h hh => allocate_of_served (hother h hh)
    · exact fun h hh => allocate_of_served (allocate_keeps_served _ h _ (hother h hh))
  have hoffer := allocate_offersToHead n (c.unoffered.act .free) _ _ (unwindOffer n s) hfind hstate
    (by rw [hgroup]; exact hqueue) (fun m k hmn hk hkg => by
      rw [unwindOffer_find_other s n m hmn] at hk
      exact (s.cbu.lowestFree_eq_none c.group).mp hfree m k hk (hkg.trans hgroup))
  rw [hgroup, groupSetting_congr (unwindOffer_keeps n s).2.2.2.2.2, (unwindOffer_keeps n s).2.2.2.2.1,
    Cabin.unoffered_act_offeredTo _ _ (by simp [hs])] at hoffer
  obtain ⟨hn, -, hq, -, hlinks⟩ := hoffer
  rw [halloc]
  refine ⟨?_, hq, ?_⟩
  · rw [hn]
    cases c
    simp_all [Cabin.offeredTo]
  · rw [hlinks, hbdr]
    simp [hr]

end

/-! ## The order and the act -/

/-- Settles O17. -/
theorem resetAndWarmReset : Obligations.ResetAndWarmReset := by
  refine ⟨?reset, ?configured, ?unconfigured, fun s h => restoreOffers_noOffer s h, ?none,
    fun g x n s h => unwindGroup_single h, ?alone, ?offer, ?quote, ?displaced⟩
  case reset =>
    intro tag body s h
    have hexec : exec (.reset tag body) s
        = .next (placeAnswer (doneAnswer tag .reset)
            { popOrder s with lkc := { (popOrder s).lkc with resetPhase := .answering } }) := by
      simp [exec, execReset, runOrder_taken _ _ _ _ _ h, reset]
    have hphase : (placeAnswer (doneAnswer tag .reset)
        { popOrder s with lkc := { (popOrder s).lkc with resetPhase := .answering } }).lkc.resetPhase = .answering :=
      LinkController.place_resetPhase _ _
    refine ⟨_, hexec, answered_placeAnswer _ _, hphase, by simp [keepsAllBut_iff], fun o ho => ?_⟩
    obtain ⟨-, -, hnone⟩ := ho
    exact absurd (hphase.symm.trans hnone) nofun
  case configured =>
    intro s hdue hconf
    obtain ⟨horders, hanswers, hwatches⟩ := linkReset_queues s
    obtain ⟨hbits, hmask⟩ := linkReset_cnu s
    obtain ⟨hlkc, hcnu, hparties, hmasters⟩ := warmReset_warmKept s hconf
    obtain ⟨hcbu, hbdr, hxlu⟩ := warmReset_tables s hconf
    refine ⟨warmReset s, by simp [exec, execWarmReset, hdue], by simp [hlkc, horders], by simp [hlkc, hanswers],
      by simp [hlkc, hwatches], by simp [hlkc], hcnu ▸ hbits, hcnu ▸ hmask, by simp [keepsAllBut_iff], hparties, hmasters, ?_,
      ?_, ?_, ?_, ?_, ?_, hcbu, hbdr, hxlu⟩
    · simpa [BandRegister.keys, Function.comp_def] using congrArg (List.map Prod.snd) (warmReset_keys s)
    · rw [warmReset_configured s hconf]; rfl
    · rw [warmReset_configured s hconf]; rfl
    · intro st hst hlost
      rw [warmReset_configured s hconf] at hst
      obtain ⟨old, -, rfl⟩ := List.mem_map.mp hst
      exact old.warm_read hlost
    · rw [hxlu]
      exact overLanes_unwindQuote_notHolding (overGroups allocate (restoreOffers (linkReset s)))
    · rw [hcbu]
      exact overGroups_allocate_serves (restoreOffers (linkReset s))
  case unconfigured =>
    intro s hdue hconf
    obtain ⟨horders, hanswers, hwatches⟩ := linkReset_queues s
    obtain ⟨hbits, hmask⟩ := linkReset_cnu s
    have hwarm : warmReset s = { linkReset s with lkc := { (linkReset s).lkc with resetPhase := .none } } := by
      have hconf' : (linkReset s).configured = false := hconf
      simp [warmReset, warmOwners, hconf']
    exact ⟨warmReset s, by simp [exec, execWarmReset, hdue], by rw [hwarm]; exact horders, by rw [hwarm]; exact hanswers,
      by rw [hwarm]; exact hwatches, by rw [hwarm], by rw [hwarm]; exact hbits, by rw [hwarm]; exact hmask,
      by simp [keepsAllBut_iff, hwarm]⟩
  case none =>
    intro g s h
    simp [unwindGroup, h, sortOffers]
  case alone =>
    intro n c b r ticket join misses s hdue hconf hc hs hb ht hj hm hr hg hlen honly hserved hfree
    obtain ⟨hcbu, hbdr, -⟩ := warmReset_tables s hconf
    obtain ⟨hn, hq, hlink⟩ := warmCabins_single (s := linkReset s) hc hs hb ht hj hm hr hg hlen honly hserved hfree
    have hcabins : (warmReset s).cbu = (warmCabins (linkReset s)).cbu := by rw [hcbu, warmCabins]
    have hsts : (linkReset s).sts = s.sts := by simp
    have hfound := overLanes_unwindQuote_link (warmCabins (linkReset s)) b
    rw [hlink] at hfound
    obtain ⟨r', hr', hl'⟩ := Option.map_eq_some_iff.mp hfound
    refine ⟨warmReset s, r', by simp [exec, execWarmReset, hdue], ?_, ?_, ?_, hl'⟩
    · simp only [hcabins, hn, groupSetting_congr hsts, linkReset_keeps]
    · simp only [hcabins, hq, linkReset_keeps]
    · rw [hbdr]; exact hr'
  case offer =>
    intro n c b r ticket join misses s hc ho hb ht hj hm hr hg hlen
    obtain ⟨-, hqueue, hbdr⟩ := unwindOffer_of_room hc hb ht hj hm hg hlen
    refine ⟨?_, hqueue, by simp [hbdr, hr], unwindOffer_keepsAllBut n s⟩
    rw [unwindOffer_find_self, hc, Option.map_some, Cabin.unwound, if_neg (by simp [hb])]
    rfl
  case quote =>
    intro l e b r s he ha hb hr
    refine ⟨?_, ?_, ?_⟩
    · rw [unwindQuote_find_self, he, Option.map_some, Lane.unwound, if_pos ha]
    · rw [unwindQuote_of_holding he ha, giveBackQuote_bdr, hb]
      simp [unquote, hr]
    · simp [keepsAllBut_iff]
  case displaced =>
    intro n c b r rl last ticket join misses s hc ho hb ht hj hm hr hlen hlast hne hrl
    obtain ⟨hqueue, hbdr⟩ := unwindOffer_of_full hc hb ht hj hm hlen hlast
    refine ⟨?_, hqueue, ?_, ?_, fun x hxb hxl => ?_, unwindOffer_notices n s, unwindOffer_keepsAllBut n s⟩
    · rw [unwindOffer_find_self, hc, Option.map_some, Cabin.unwound, if_neg (by simp [hb])]
    · simp [hbdr, hne.symm, hr]
    · simp [hbdr, hne, hrl]
    · simp [hbdr, hxb, hxl]

end Sys2Proof.Machine

/-! The locker map through every operation (R24, R27): the doors of each bank stand, and a free count that is right stays
right. -/
namespace Sys2Proof.Machine

/-! ## The banks of the map -/

/-- The number of doors of every bank, in order. -/
def LockerMap.doorCounts (m : LockerMap) : List Nat := m.banks.map (fun b => b.lockers.length)

/-- R27 of every bank of a map. -/
def LockerMap.CountsHold (m : LockerMap) : Prop := ∀ b ∈ m.banks, b.CountsVacant

/-- What an act on lockers leaves of the banks: their doors, and free counts that are right where they were (R24, R27). -/
structure LockerMap.Keeps (m m' : LockerMap) : Prop where
  doors : m'.doorCounts = m.doorCounts
  counts : m.CountsHold → m'.CountsHold

@[simp] theorem LockerMap.Keeps.refl (m : LockerMap) : m.Keeps m := ⟨rfl, id⟩

/-- A write of one locker (R27). -/
@[simp] theorem LockerMap.Keeps.put {m m' : LockerMap} (h : m.Keeps m') (n : Nat) (l : Locker) : m.Keeps (m'.put n l) := by
  refine ⟨(m'.put_lengths n l).trans h.doors, fun hm b hb => ?_⟩
  obtain ⟨i, hi⟩ := List.mem_iff_getElem?.mp hb
  rw [LockerMap.put, List.getElem?_modify] at hi
  obtain ⟨old, hold, rfl⟩ := Option.map_eq_some_iff.mp hi
  have hgood : old.CountsVacant := h.counts hm old (List.mem_of_getElem? hold)
  split
  · exact old.put_countsVacant _ l hgood
  · exact hgood

/-- A change of every bank, or of some, that leaves the lockers' states and the count. -/
theorem LockerMap.Keeps.of_banks {m m' m'' : LockerMap} (h : m.Keeps m') (f : Bank → Bank)
    (hstates : ∀ b : Bank, (f b).lockers.map (·.state) = b.lockers.map (·.state)) (hfree : ∀ b, (f b).freeCount = b.freeCount)
    (hlen : m''.banks.length = m'.banks.length)
    (hbanks : ∀ (i : Nat) (b : Bank), m'.banks[i]? = some b → m''.banks[i]? = some (f b) ∨ m''.banks[i]? = some b) :
    m.Keeps m'' := by
  have hcount : ∀ b, b.CountsVacant → (f b).CountsVacant := fun b hb => by
    have hvacant : ∀ k : Bank, (k.lockers.filter (fun l => l.state = .vacant)).length
        = ((k.lockers.map (·.state)).filter (fun x => x = .vacant)).length := fun k => by
      simp [List.filter_map, Function.comp_def]
    rw [Bank.CountsVacant, hvacant, hstates, hfree, ← hvacant]
    exact hb
  have hdoors : ∀ b, (f b).lockers.length = b.lockers.length := fun b => by
    simpa using congrArg List.length (hstates b)
  refine ⟨Eq.trans (List.ext_getElem? fun i => ?_) h.doors, fun hm b hb => ?_⟩
  · rw [LockerMap.doorCounts, LockerMap.doorCounts, List.getElem?_map, List.getElem?_map]
    cases hi : m'.banks[i]? with
    | none =>
      have : m''.banks[i]? = none := by
        rw [List.getElem?_eq_none_iff] at hi ⊢; omega
      rw [this]
    | some b => rcases hbanks i b hi with hb | hb <;> simp [hb, hdoors]
  · obtain ⟨i, hi⟩ := List.mem_iff_getElem?.mp hb
    obtain ⟨hlt, -⟩ := List.getElem?_eq_some_iff.mp hi
    have hold := List.getElem?_eq_getElem (hlen ▸ hlt)
    have hgood := h.counts hm _ (List.mem_of_getElem? hold)
    rcases hbanks i _ hold with hb' | hb'
    · exact Option.some.inj (hb'.symm.trans hi) ▸ hcount _ hgood
    · exact Option.some.inj (hb'.symm.trans hi) ▸ hgood

theorem foldl_banks {α : Type} (f : State → α → State) (l : List α) {m : LockerMap} {s : State} (h : m.Keeps s.lmu)
    (hf : ∀ t a, m.Keeps t.lmu → m.Keeps (f t a).lmu) : m.Keeps (l.foldl f s).lmu :=
  List.foldlRecOn l f (motive := fun t : State => m.Keeps t.lmu) h fun t ht a _ => hf t a ht

/-! ## Lockers -/

section
variable {m : LockerMap} {s : State}

@[simp] theorem settlePending_banks (h : m.Keeps s.lmu) (n : Nat) : m.Keeps (settlePending n s).lmu := by
  unfold settlePending; (repeat' split) <;> simp [h]

@[simp] theorem vacate_banks (h : m.Keeps s.lmu) (n : Nat) (l : Locker) : m.Keeps (vacate n l s).lmu := by
  unfold vacate; simp [h]

@[simp] theorem claimLocker_banks (h : m.Keeps s.lmu) (n : Nat) (l : Locker) (b : BandNo) :
    m.Keeps (claimLocker n l b s).lmu := by simp [claimLocker_lmu, h]

@[simp] theorem openedInWindow_banks (h : m.Keeps s.lmu) (n : Nat) (l : Locker) : m.Keeps (openedInWindow n l s).lmu := by
  unfold openedInWindow; (repeat' split) <;> simp [h]

@[simp] theorem clearLocker_banks (h : m.Keeps s.lmu) (n : Nat) (l : Locker) : m.Keeps (clearLocker n l s).lmu := by
  unfold clearLocker; (repeat' split) <;> simp [h]

@[simp] theorem presentAtLocker_banks (h : m.Keeps s.lmu) (n : Nat) (r : BandRecord) :
    m.Keeps (presentAtLocker n r s).lmu := by
  unfold presentAtLocker; (repeat' split) <;> simp [h]

@[simp] theorem masterAtLocker_banks (h : m.Keeps s.lmu) (n : Nat) : m.Keeps (masterAtLocker n s).lmu := by
  unfold masterAtLocker; (repeat' split) <;> simp [h]

@[simp] theorem lockerDoorEvent_banks (h : m.Keeps s.lmu) (n : Nat) (isOpen : Bool) :
    m.Keeps (lockerDoorEvent n isOpen s).lmu := by
  have hput := fun l => h.put n l
  unfold lockerDoorEvent
  dsimp only
  (repeat' split)
  · exact h
  · exact h
  · exact (hput _).put n _
  · exact (hput _).put n _
  · exact openedInWindow_banks (hput _) n _
  · exact (hput _).put n _
  · exact hput _

@[simp] theorem takeOpeningExpiry_banks (h : m.Keeps s.lmu) (n : Nat) : m.Keeps (takeOpeningExpiry n s).lmu := by
  unfold takeOpeningExpiry; (repeat' split) <;> simp [h]

@[simp] theorem releaseLocker_banks (h : m.Keeps s.lmu) (n : Nat) : m.Keeps (releaseLocker n s).1.lmu := by
  unfold releaseLocker; (repeat' split) <;> simp [refused, done, h]

@[simp] theorem clearForced_banks (h : m.Keeps s.lmu) (n : Nat) : m.Keeps (clearForced n s).1.lmu := by
  unfold clearForced; (repeat' split) <;> simp [refused, done, h]

@[simp] theorem serviceOut_banks (h : m.Keeps s.lmu) (n : Nat) (l : Locker) : m.Keeps (serviceOut n l s).lmu := by
  unfold serviceOut; (repeat' split) <;> simp [h]

@[simp] theorem serviceIn_banks (h : m.Keeps s.lmu) (n : Nat) (l : Locker) : m.Keeps (serviceIn n l s).lmu := by
  unfold serviceIn; (repeat' split) <;> simp [h]

@[simp] theorem lockerService_banks (h : m.Keeps s.lmu) (n direction : Nat) :
    m.Keeps (lockerService n direction s).1.lmu := by
  unfold lockerService; (repeat' split) <;> simp [refused, done, h]

@[simp] theorem resetUseCount_banks (h : m.Keeps s.lmu) (n : Nat) : m.Keeps (resetUseCount n s).1.lmu := by
  unfold resetUseCount; split <;> simp [refused, done, h]

@[simp] theorem windowLocker_banks (h : m.Keeps s.lmu) (a : WindowArgs) (n : Nat) : m.Keeps (windowLocker a s n).lmu := by
  unfold windowLocker; (repeat' split) <;> simp [h]

@[simp] theorem lockerWindowLoad_banks (h : m.Keeps s.lmu) (a : WindowArgs) : m.Keeps (lockerWindowLoad a s).1.lmu := by
  unfold lockerWindowLoad
  split
  · simpa [refused] using h
  · exact foldl_banks _ _ h fun t n ht => by simp [ht]

@[simp] theorem loseLocker_banks (h : m.Keeps s.lmu) (n : Nat) : m.Keeps (loseLocker s n).lmu := by
  unfold loseLocker; (repeat' split) <;> simp [h]

@[simp] theorem restoreLocker_banks (h : m.Keeps s.lmu) (n : Nat) : m.Keeps (restoreLocker s n).lmu := by
  unfold restoreLocker; (repeat' split) <;> simp [h]

@[simp] theorem treatLocker_banks (h : m.Keeps s.lmu) (n : Nat) (l : Locker) : m.Keeps (treatLocker n l s).lmu := by
  unfold treatLocker; (repeat' split) <;> simp [h]

@[simp] theorem clearOrphanCheck_banks (h : m.Keeps s.lmu) (n : Nat) : m.Keeps (clearOrphanCheck n s).lmu := by
  unfold clearOrphanCheck; split <;> simp [h]

@[simp] theorem reconcileLocker_banks (h : m.Keeps s.lmu) (doors : List DoorReading) (n : Nat) :
    m.Keeps (reconcileLocker doors s n).lmu := by
  unfold reconcileLocker
  split
  · exact clearOrphanCheck_banks (treatLocker_banks (h.put n _) n _) n
  · exact h

@[simp] theorem endAwaiting_banks (h : m.Keeps s.lmu) (b : Nat) : m.Keeps (endAwaiting b s).lmu := by
  refine h.of_banks (fun k => { k with awaitingFirst := false }) (fun _ => rfl) (fun _ => rfl) (by simp [endAwaiting])
    fun i k hk => ?_
  simp only [endAwaiting, List.getElem?_modify, hk]
  split
  · exact .inl rfl
  · exact .inr rfl

@[simp] theorem reconcileBank_banks (h : m.Keeps s.lmu) (b : Nat) (doors : List DoorReading) :
    m.Keeps (reconcileBank b doors s).lmu :=
  endAwaiting_banks (foldl_banks _ _ h fun _ n ht => reconcileLocker_banks ht doors n) b

@[simp] theorem regainBank_banks (h : m.Keeps s.lmu) (b : Nat) (doors : List DoorReading) :
    m.Keeps (regainBank b doors s).lmu := by
  refine reconcileBank_banks ?_ b doors
  rw [(followAlarm_keeps b _).2.2.1]
  exact foldl_banks _ _ h fun _ n ht => restoreLocker_banks ht n

@[simp] theorem purgeLocker_banks (h : m.Keeps s.lmu) (n : Nat) : m.Keeps (purgeLocker s n).lmu := by
  unfold purgeLocker; dsimp only; (repeat' split) <;> simp [h]

@[simp] theorem rehold_banks (h : m.Keeps s.lmu) (new : BandNo) (n : Nat) : m.Keeps (rehold new s n).lmu := by
  unfold rehold; split <;> simp [h]

@[simp] theorem replaceBand_banks (h : m.Keeps s.lmu) (old new : BandNo) : m.Keeps (replaceBand old new s).1.lmu := by
  have hhold : ∀ (l : List Nat) (u : State), m.Keeps u.lmu → m.Keeps (l.foldl (rehold new) u).lmu := fun l u hu =>
    foldl_banks _ _ hu fun t n ht => rehold_banks ht new n
  unfold replaceBand
  (repeat' split) <;> simp [refused, done, h, hhold]

/-! ## Events, answers and misses -/

theorem presentAt_banks (h : m.Keeps s.lmu) (reader : Reader) (b : BandNo) {master : State → State}
    {band : BandRecord → State → State} (hm : ∀ t, m.Keeps t.lmu → m.Keeps (master t).lmu)
    (hb : ∀ r t, m.Keeps t.lmu → m.Keeps (band r t).lmu) : m.Keeps (presentAt reader b master band s).lmu := by
  unfold presentAt; dsimp only; split <;> simp [hm, hb, h]

@[simp] theorem bankEvent_banks (h : m.Keeps s.lmu) (addr : Nat) (ev : StationEvent) : m.Keeps (bankEvent addr ev s).lmu := by
  cases ev with
  | bandPresented p b =>
    simp only [bankEvent]
    split
    · exact presentAt_banks h _ _ (fun t ht => masterAtLocker_banks ht _) fun r t ht => presentAtLocker_banks ht _ r
    · exact h
  | doorChanged p isOpen => simp only [bankEvent]; split <;> simp [h]
  | passSensed => exact h
  | collectorFault => exact h

@[simp] theorem routeEvent_banks (h : m.Keeps s.lmu) (addr : Nat) (ev : StationEvent) :
    m.Keeps (routeEvent addr ev s).lmu := by
  unfold routeEvent; split <;> simp [h]

@[simp] theorem takeEvent_banks (h : m.Keeps s.lmu) (addr : Nat) (event : Option (StationEvent × Bool)) :
    m.Keeps (takeEvent addr event s).lmu := by
  unfold takeEvent; (repeat' split) <;> simp [h]

@[simp] theorem reconcileOwner_banks (h : m.Keeps s.lmu) (addr : Nat) (r : StatusReport) :
    m.Keeps (reconcileOwner addr r s).lmu := by cases r <;> simp [reconcileOwner, h]

@[simp] theorem regainOwner_banks (h : m.Keeps s.lmu) (addr : Nat) (r : StatusReport) :
    m.Keeps (regainOwner addr r s).lmu := by cases r <;> simp [regainOwner, h]

@[simp] theorem takeStatusOf_banks (h : m.Keeps s.lmu) (addr : Nat) (r : Option StatusReport) :
    m.Keeps (takeStatusOf addr r s).lmu := by cases r <;> simp [takeStatusOf, takeStatus, h]

@[simp] theorem goodAnswer_banks (h : m.Keeps s.lmu) (p : Poll) (reply : PollReply) (status : Option StatusReport) :
    m.Keeps (goodAnswer p reply status s).lmu := by
  unfold goodAnswer; (repeat' split) <;> simp [regainStation, takeAnswer, h]

@[simp] theorem missedPoll_banks (h : m.Keeps s.lmu) (p : Poll) : m.Keeps (missedPoll p s).lmu := by
  have hlose : ∀ u : State, m.Keeps u.lmu → m.Keeps (loseOwner p.addr u).lmu := fun u hu => by
    unfold loseOwner
    split
    · exact foldl_banks _ _ hu fun t n ht => loseLocker_banks ht n
    all_goals simpa using hu
  unfold missedPoll missAnswer
  dsimp only
  (repeat' split) <;> simp [loseStation, hlose, h]

/-! ## The clock and the day -/

@[simp] theorem takeDue_banks (h : m.Keeps s.lmu) : m.Keeps (takeDue s).lmu := by
  have hlockers : m.Keeps (s.lmu.numbers.foldl (fun t n => takeOpeningExpiry n t) s).lmu :=
    foldl_banks _ _ h fun t n ht => takeOpeningExpiry_banks ht n
  simpa [takeDue] using hlockers

@[simp] theorem secondPasses_banks (h : m.Keeps s.lmu) : m.Keeps (secondPasses s).lmu := by simp [secondPasses, h]

@[simp] theorem runClock_banks (h : m.Keeps s.lmu) (n : Nat) : m.Keeps (runClock n s).lmu := by
  induction n generalizing s with
  | zero => exact h
  | succ n ih => exact ih (secondPasses_banks h)

theorem runToTimer_banks (h : m.Keeps s.lmu) (timer : Option Nat) (act : State → State)
    (hact : ∀ t, m.Keeps t.lmu → m.Keeps (act t).lmu) : m.Keeps (runToTimer timer act s).lmu := by
  cases timer <;> simp [runToTimer, hact, h]

@[simp] theorem carryTimers_banks (h : m.Keeps s.lmu) (f : Nat → Nat) : m.Keeps (carryTimers f s).lmu := by
  refine h.of_banks (fun b => b.carry f) (fun b => ?_) (fun _ => rfl) (by simp [carryTimers]) fun i b hb => ?_
  · simp [Bank.carry, Function.comp_def]
  · simp [carryTimers, hb]

@[simp] theorem setClock_banks (h : m.Keeps s.lmu) (second : Nat) : m.Keeps (setClock second s).1.lmu := by
  have hset : m.Keeps (clockSetTo second s).lmu := by
    unfold clockSetTo; dsimp only; split <;> simp [h]
  unfold setClock; (repeat' split) <;> simp [refused, done, h, hset]

@[simp] theorem adjustForward_banks (h : m.Keeps s.lmu) (n : Nat) : m.Keeps (adjustForward n s).lmu := by
  induction n generalizing s with
  | zero => exact h
  | succ n ih => exact ih (by simp [h])

@[simp] theorem adjustClock_banks (h : m.Keeps s.lmu) (k : Int) : m.Keeps (adjustClock k s).1.lmu := by
  have hto : ∀ second, m.Keeps (adjustTo second s).lmu := fun second => by
    unfold adjustTo; (repeat' split) <;> simp [h]
  unfold adjustClock; dsimp only; (repeat' split) <;> simp [refused, done, h, hto]

@[simp] theorem purge_banks (h : m.Keeps s.lmu) : m.Keeps (purge s).1.lmu := by
  have hlockers : m.Keeps (purgeLockers (emptyBands (purgeLanes s))).lmu := by
    rw [purgeLockers, (purgeReads_keeps _).2.2.1]
    exact foldl_banks _ _ (by simpa using h) fun t n ht => purgeLocker_banks ht n
  unfold purge
  split
  · exact h
  · simpa [done, purgeActs] using hlockers

end

/-! ## The step -/

theorem dispatchOrder_lmu (o : OrderFrame) (act : State → State) (s : State) (h : ∀ t, (act t).lmu = t.lmu) :
    (dispatchOrder o act s).lmu = s.lmu := by
  unfold dispatchOrder; (repeat' split) <;> simp [h]

/-- An order keeps what its owner keeps, of everything but the link controller. -/
theorem runOrder_owner (P : State → Prop) (k : OrderKind) (tag : Byte) (body : List Byte) (owner : State → Owned) (s : State)
    (hlink : ∀ (u : State) (lkc : LinkController), P u → P { u with lkc := lkc }) (ho : ∀ u, P u → P (owner u).1) (h : P s) :
    P (runOrder k tag body owner s) := by
  have hplace : ∀ (a : Answer) (u : State), P u → P (placeAnswer a u) := fun a u hu => hlink u (u.lkc.place a) hu
  have hex : ∀ u, P u → P (examineOrder k tag body owner u) := fun u hu => by
    unfold examineOrder settleOwned
    (repeat' split)
    · exact ho u hu
    · exact hplace _ _ (ho u hu)
    · exact hplace _ _ hu
    · exact hplace _ _ hu
  unfold runOrder dispatchOrder
  (repeat' split)
  · exact hex _ (hlink s _ h)
  · exact h
  · exact hex _ h
  · exact hlink s _ h
  · exact h

theorem runOrder_banks (k : OrderKind) (tag : Byte) (body : List Byte) (owner : State → Owned) (s : State)
    (ho : ∀ m u, LockerMap.Keeps m u.lmu → m.Keeps (owner u).1.lmu) : s.lmu.Keeps (runOrder k tag body owner s).lmu :=
  runOrder_owner (fun u => s.lmu.Keeps u.lmu) k tag body owner s (fun _ _ hu => hu) (fun u hu => ho _ u hu) (.refl _)

/-- Only a cold reset and SITE COMMIT build the locker map afresh. -/
theorem exec_banks (c : Instr) (s t : State) (ht : exec c s = .next t) (hr : ∀ straps, c ≠ .coldReset straps)
    (hs : ∀ tag body, c ≠ .siteCommit tag body) : s.lmu.Keeps t.lmu := by
  cases c
  case coldReset => exact absurd rfl (hr _)
  case siteCommit => exact absurd rfl (hs _ _)
  all_goals
    injection ht with ht
    subst ht
  case unknownOrder => split <;> simp [dispatchOrder_lmu]
  case lockerServiceOut | lockerServiceIn | cabinServiceOut | cabinServiceIn =>
    split
    · exact .refl _
    · exact runOrder_banks _ _ _ _ _ fun m u hu => by simp [hu]
  case pollAnswer | missedAnswer => (repeat' split) <;> simp
  case openingExpiry | offerExpiry | entryExpiry | cleaningExpiry | abandonment | quoteExpiry | passExpiry | watchExpiry
      | desiredEntryExpiry => exact runToTimer_banks (.refl _) _ _ fun t ht => by simp [ht]
  case storeWriteEnd copy => cases copy <;> simp
  case frameReceived | frameLengthOutOfRange | byteWithoutStopBit | interByteGap | lineBreak | transmissionEnd
      | noticeHoldAsserted | noticeHoldNegated | warmReset | minuteBoundary | midnightRollover | poll
      | startByteReceived | lineReturnToMark => (repeat' split) <;> simp
  all_goals exact runOrder_banks _ _ _ _ _ fun m u hu => by simp [hu]

theorem freshLockers_countsHold (t : SiteTable) : (freshLockers t).CountsHold := by
  intro b hb
  obtain ⟨k, -, rfl⟩ := List.mem_map.mp hb
  simp [Bank.CountsVacant, freshBank, freshLocker]

theorem coldReset_countsHold (straps : BitVec 2) (s : State) : (coldReset straps s).lmu.CountsHold := by
  unfold coldReset
  dsimp only
  split
  · exact freshLockers_countsHold _
  · intro b hb; simp [coldBase] at hb

theorem siteCommit_countsHold (s : State) (h : s.lmu.CountsHold) : (siteCommit s).1.lmu.CountsHold := by
  unfold siteCommit
  (repeat' split)
  · exact h
  · exact h
  · exact freshLockers_countsHold _

theorem exec_countsHold (c : Instr) (s t : State) (h : s.lmu.CountsHold) (ht : exec c s = .next t) : t.lmu.CountsHold := by
  by_cases hr : ∃ straps, c = .coldReset straps
  · obtain ⟨straps, rfl⟩ := hr
    injection ht with ht
    subst ht
    exact coldReset_countsHold straps s
  by_cases hs : ∃ tag body, c = .siteCommit tag body
  · obtain ⟨tag, body, rfl⟩ := hs
    injection ht with ht
    subst ht
    exact runOrder_owner (fun u => u.lmu.CountsHold) .siteCommit tag body siteCommit s (fun _ _ hu => hu)
      siteCommit_countsHold h
  exact (exec_banks c s t ht (fun straps hc => hr ⟨straps, hc⟩) fun tag body hc => hs ⟨tag, body, hc⟩).counts h

/-- Settles O6: a write of a locker carries its bank's count with it, and every act on the map is made of such writes; a
rebuild counts its Vacant lockers afresh. -/
theorem stepKeepsFreeCounts : Obligations.StepKeepsFreeCounts := by
  intro s t h ht
  unfold step at ht
  split at ht
  · injection ht with ht
    subst ht
    exact (secondPasses_banks (.refl s.lmu)).counts h
  · next c rest _ => exact exec_countsHold c { s with pending := rest } t h ht

end Sys2Proof.Machine

/-! The outline of the tables through every operation (R24, R52, R104, R136, R138): how many cabins, groups and lanes there are,
and the field line without the values and marks of its entries. -/
namespace Sys2Proof.Machine

/-! ## The outline -/

/-- An entry without its value and its marks. -/
def Entry.bare (e : Entry) : Entry := freshEntry e.key (.sounder false none) false

/-- A station's record with the keys of its image alone. -/
def Station.bare (st : Station) : Station := { st with image := st.image.map Entry.bare }

/-- The field line with the keys of the images alone. -/
def FieldLine.bare (f : FieldLine) : FieldLine := { f with stations := f.stations.map Station.bare }

/-- What an owner's act leaves standing of the tables: how many cabins, groups and lanes there are, and the field line but for
the values and marks of its entries. -/
structure Outline where
  cabins : Nat
  groups : Nat
  lanes : Nat
  line : FieldLine

def State.outline (s : State) : Outline :=
  { cabins := s.cbu.cabins.length, groups := s.cbu.groups.length, lanes := s.xlu.lanes.length, line := s.flm.bare }

theorem Entry.bare_key (e : Entry) : e.bare.key = e.key := rfl

theorem Station.bare_keys (st : Station) : st.bare.image.map (·.key) = st.image.map (·.key) := by
  simp [Station.bare, Function.comp_def, Entry.bare_key]

/-- The record found under an address, with the keys of its image alone. -/
theorem FieldLine.bare_find (f : FieldLine) (a : Nat) : f.bare.find a = (f.find a).map Station.bare := by
  simp only [FieldLine.find, FieldLine.bare, List.find?_map]
  rfl

theorem FieldLine.bare_update (f : FieldLine) (a : Nat) (g : Station → Station) (hg : ∀ st, (g st).bare = st.bare) :
    (f.update a g).bare = f.bare := by
  simp only [FieldLine.bare, FieldLine.update, List.map_map]
  congr 1
  refine List.map_congr_left fun st _ => ?_
  by_cases h : st.addr = a <;> simp [h, hg]

/-- A station's record is bare the same once its entries have been rewritten, each under its key. -/
theorem Station.bare_mapImage (st : Station) (g : Entry → Entry) (hg : ∀ e, (g e).key = e.key) :
    ({ st with image := st.image.map g } : Station).bare = st.bare := by
  have hbare : ∀ e, (g e).bare = e.bare := fun e => by simp [Entry.bare, hg]
  simp [Station.bare, hbare]

@[simp] theorem Station.write_bare (st : Station) (k : EntryKey) (v : EntryValue) : (st.write k v).bare = st.bare :=
  st.bare_mapImage _ fun e => by by_cases h : e.key = k <;> simp [h]

@[simp] theorem Station.writeMarked_bare (st : Station) (marked : Bool) (k : EntryKey) (v : EntryValue) :
    (st.writeMarked marked k v).bare = st.bare := by
  cases marked with
  | true => exact st.write_bare k v
  | false => exact st.bare_mapImage _ fun e => by by_cases h : e.key = k <;> simp [h]

@[simp] theorem Station.oneShot_bare (st : Station) (p : OneShot) : (st.oneShot p).bare = st.bare := by
  unfold Station.oneShot; split <;> simp

@[simp] theorem Station.setAlarm_bare (st : Station) (on : Bool) : (st.setAlarm on).bare = st.bare := st.write_bare _ _

@[simp] theorem Station.markAll_bare (st : Station) : st.markAll.bare = st.bare := st.bare_mapImage _ fun _ => rfl

@[simp] theorem Station.carry_bare (st : Station) (f : Nat → Nat) : (st.carry f).bare = st.bare :=
  st.bare_mapImage _ fun _ => rfl

/-! ## The primitive operations -/

theorem outline_congr {s t : State} (hcbu : t.cbu = s.cbu) (hxlu : t.xlu = s.xlu) (hflm : t.flm = s.flm) :
    t.outline = s.outline := by simp [State.outline, hcbu, hxlu, hflm]

theorem outline_mapStation {s t : State} (a : Nat) (g : Station → Station) (hg : ∀ st, (g st).bare = st.bare)
    (hcbu : t.cbu = s.cbu) (hxlu : t.xlu = s.xlu) (hflm : t.flm = s.flm.update a g) : t.outline = s.outline := by
  simp [State.outline, hcbu, hxlu, hflm, FieldLine.bare_update _ _ _ hg]

@[simp] theorem updateBand_outline (b : BandNo) (f : BandRecord → BandRecord) (s : State) :
    (updateBand b f s).outline = s.outline := rfl

@[simp] theorem setLink_outline (b : BandNo) (link : Option CabinLink) (s : State) :
    (setLink b link s).outline = s.outline := rfl

@[simp] theorem dropLocker_outline (holder : Option BandNo) (n : Nat) (s : State) :
    (dropLocker holder n s).outline = s.outline := outline_congr (by simp) (by simp) (by simp)

@[simp] theorem freeBand_outline (b : BandNo) (s : State) : (freeBand b s).outline = s.outline := rfl

@[simp] theorem placeAnswer_outline (a : Answer) (s : State) : (placeAnswer a s).outline = s.outline := rfl

@[simp] theorem raiseNotice_outline (c : NoticeContent) (s : State) : (raiseNotice c s).outline = s.outline := rfl

@[simp] theorem setCounter_outline (n : Nat) (s : State) : (setCounter n s).outline = s.outline := rfl

@[simp] theorem writeEntry_outline (a : Nat) (k : EntryKey) (v : EntryValue) (s : State) :
    (writeEntry a k v s).outline = s.outline := outline_mapStation a _ (fun st => st.write_bare k v) rfl rfl rfl

@[simp] theorem playOnce_outline (a : Nat) (p : OneShot) (s : State) : (playOnce a p s).outline = s.outline :=
  outline_mapStation a _ (fun st => st.oneShot_bare p) rfl rfl rfl

@[simp] theorem refuseAt_outline (a door : Nat) (code : DisplayCode) (s : State) :
    (refuseAt a door code s).outline = s.outline := outline_mapStation a _ (fun st => by simp) rfl rfl rfl

@[simp] theorem putLocker_outline (n : Nat) (l : Locker) (s : State) : (putLocker n l s).outline = s.outline := rfl

@[simp] theorem putCabin_outline (n : Nat) (c : Cabin) (s : State) : (putCabin n c s).outline = s.outline := by
  simp [State.outline]

@[simp] theorem putLane_outline (l : Nat) (e : Lane) (s : State) : (putLane l e s).outline = s.outline := by
  simp [State.outline]

@[simp] theorem setQueue_outline (g : Nat) (f : List QueueEntry → List QueueEntry) (s : State) :
    (setQueue g f s).outline = s.outline := by simp [State.outline]

/-! ## Folds -/

@[simp] theorem foldl_outline {α : Type} (f : State → α → State) (l : List α) (s : State)
    (h : ∀ t a, (f t a).outline = t.outline) : (l.foldl f s).outline = s.outline := by
  induction l generalizing s with
  | nil => rfl
  | cons a l ih => simp [ih, h]

@[simp] theorem overCabins_outline (f : Nat → State → State) (s : State) (h : ∀ n t, (f n t).outline = t.outline) :
    (overCabins f s).outline = s.outline := foldl_outline _ _ _ fun t n => h n t

@[simp] theorem overGroups_outline (f : Nat → State → State) (s : State) (h : ∀ n t, (f n t).outline = t.outline) :
    (overGroups f s).outline = s.outline := foldl_outline _ _ _ fun t n => h n t

@[simp] theorem overLanes_outline (f : Nat → State → State) (s : State) (h : ∀ n t, (f n t).outline = t.outline) :
    (overLanes f s).outline = s.outline := foldl_outline _ _ _ fun t n => h n t

@[simp] theorem overBank_outline (b : Nat) (f : State → Nat → State) (s : State) (h : ∀ t n, (f t n).outline = t.outline) :
    (overBank b f s).outline = s.outline := foldl_outline _ _ _ h

/-! ## Cabins -/

@[simp] theorem showCabin_outline (n : Nat) (s : State) : (showCabin n s).outline = s.outline := by
  simp only [showCabin, FieldLine.showCabin]
  split
  · rfl
  · exact outline_mapStation _ _ (fun st => by simp) rfl rfl rfl

@[simp] theorem moveCabin_outline (n : Nat) (c : Cabin) (s : State) : (moveCabin n c s).outline = s.outline := by
  simp [moveCabin]

@[simp] theorem appendEntry_outline (g : Nat) (e : QueueEntry) (s : State) : (appendEntry g e s).outline = s.outline := by
  simp [appendEntry]

@[simp] theorem joinQueue_outline (g : Nat) (b : BandNo) (s : State) : (joinQueue g b s).outline = s.outline := by
  rw [joinQueue, appendEntry_outline]; simp [State.outline]

@[simp] theorem removeEntry_outline (g : Nat) (b : BandNo) (s : State) : (removeEntry g b s).outline = s.outline := by
  simp [removeEntry]

@[simp] theorem displaceTail_outline (g : Nat) (announce : Bool) (s : State) :
    (displaceTail g announce s).outline = s.outline := by
  unfold displaceTail; (repeat' split) <;> simp

@[simp] theorem restoreHead_outline (g : Nat) (e : QueueEntry) (announce : Bool) (s : State) :
    (restoreHead g e announce s).outline = s.outline := by simp [restoreHead]

@[simp] theorem makeOffer_outline (g n : Nat) (e : QueueEntry) (s : State) : (makeOffer g n e s).outline = s.outline := by
  unfold makeOffer; split <;> simp

@[simp] theorem allocateUpTo_outline (k g : Nat) (s : State) : (allocateUpTo k g s).outline = s.outline := by
  induction k generalizing s with
  | zero => rfl
  | succ k ih => unfold allocateUpTo; split <;> simp [ih]

@[simp] theorem allocate_outline (g : Nat) (s : State) : (allocate g s).outline = s.outline := allocateUpTo_outline _ g s

@[simp] theorem endOffer_outline (n : Nat) (c : Cabin) (next : CabinState) (s : State) :
    (endOffer n c next s).outline = s.outline := by simp [endOffer]

@[simp] theorem withdrawBand_outline (b : BandNo) (s : State) : (withdrawBand b s).outline = s.outline := by
  unfold withdrawBand; (repeat' split) <;> simp

@[simp] theorem acceptOffer_outline (n : Nat) (c : Cabin) (s : State) : (acceptOffer n c s).outline = s.outline := by
  unfold acceptOffer; cases c.band <;> simp

@[simp] theorem renewEntry_outline (n : Nat) (c : Cabin) (s : State) : (renewEntry n c s).outline = s.outline := by
  simp [renewEntry]

@[simp] theorem releaseCabin_outline (n : Nat) (c : Cabin) (s : State) : (releaseCabin n c s).outline = s.outline := by
  unfold releaseCabin; cases c.band <;> simp

@[simp] theorem allocateIfFree_outline (n : Nat) (s : State) : (allocateIfFree n s).outline = s.outline := by
  unfold allocateIfFree; (repeat' split) <;> simp

@[simp] theorem endCleaning_outline (n : Nat) (c : Cabin) (s : State) : (endCleaning n c s).outline = s.outline := by
  simp [endCleaning]

@[simp] theorem showJoin_outline (g t : Nat) (b : BandNo) (s : State) : (showJoin g t b s).outline = s.outline := by
  unfold showJoin; split <;> simp

@[simp] theorem presentAtPad_outline (g : Nat) (r : BandRecord) (s : State) :
    (presentAtPad g r s).outline = s.outline := by
  unfold presentAtPad; (repeat' split) <;> simp

@[simp] theorem masterAtPad_outline (g : Nat) (s : State) : (masterAtPad g s).outline = s.outline := playOnce_outline _ _ _

@[simp] theorem presentAtCabin_outline (n : Nat) (r : BandRecord) (s : State) :
    (presentAtCabin n r s).outline = s.outline := by
  unfold presentAtCabin; (repeat' split) <;> simp

@[simp] theorem masterAtCabin_outline (n : Nat) (s : State) : (masterAtCabin n s).outline = s.outline := by
  unfold masterAtCabin; (repeat' split) <;> simp [openForMaster]

@[simp] theorem cabinDoorEvent_outline (n : Nat) (isOpen : Bool) (s : State) :
    (cabinDoorEvent n isOpen s).outline = s.outline := by
  unfold cabinDoorEvent; (repeat' split) <;> simp

@[simp] theorem missOffer_outline (n : Nat) (c : Cabin) (e : QueueEntry) (s : State) :
    (missOffer n c e s).outline = s.outline := by
  unfold missOffer; simp; split <;> simp

@[simp] theorem takeOfferExpiry_outline (n : Nat) (s : State) : (takeOfferExpiry n s).outline = s.outline := by
  unfold takeOfferExpiry; (repeat' split) <;> simp

@[simp] theorem takeEntryExpiry_outline (n : Nat) (s : State) : (takeEntryExpiry n s).outline = s.outline := by
  unfold takeEntryExpiry; (repeat' split) <;> simp

@[simp] theorem takeCleaningExpiry_outline (n : Nat) (s : State) : (takeCleaningExpiry n s).outline = s.outline := by
  unfold takeCleaningExpiry; (repeat' split) <;> simp

@[simp] theorem takeAbandonment_outline (n : Nat) (s : State) : (takeAbandonment n s).outline = s.outline := by
  unfold takeAbandonment; (repeat' split) <;> simp [abandonCabin]

@[simp] theorem countCabin_outline (n : Nat) (s : State) : (countCabin n s).outline = s.outline := by
  unfold countCabin; dsimp only; (repeat' split) <;> simp

@[simp] theorem countOccupancy_outline (s : State) : (countOccupancy s).outline = s.outline := by simp [countOccupancy]

@[simp] theorem emptyQueue_outline (g : Nat) (s : State) : (emptyQueue g s).outline = s.outline :=
  (setQueue_outline _ _ _).trans (foldl_outline _ _ _ fun t e => setLink_outline e.band none t)

@[simp] theorem closeOffer_outline (n : Nat) (s : State) : (closeOffer n s).outline = s.outline := by
  unfold closeOffer; (repeat' split) <;> simp

@[simp] theorem closeCabins_outline (s : State) : (closeCabins s).outline = s.outline := by simp [closeCabins]

@[simp] theorem loseCabin_outline (n : Nat) (s : State) : (loseCabin n s).outline = s.outline := by
  unfold loseCabin; (repeat' split) <;> simp

@[simp] theorem restoreCabin_outline (n : Nat) (s : State) : (restoreCabin n s).outline = s.outline := by
  unfold restoreCabin; (repeat' split) <;> simp

@[simp] theorem reconcileCabin_outline (n : Nat) (door : DoorReading) (s : State) :
    (reconcileCabin n door s).outline = s.outline := by
  unfold reconcileCabin; split <;> simp

@[simp] theorem regainCabin_outline (n : Nat) (door : DoorReading) (s : State) :
    (regainCabin n door s).outline = s.outline := by simp [regainCabin]

@[simp] theorem purgeCabin_outline (n : Nat) (s : State) : (purgeCabin n s).outline = s.outline := by
  unfold purgeCabin; dsimp only; (repeat' split) <;> simp

@[simp] theorem unwindOffer_outline (n : Nat) (s : State) : (unwindOffer n s).outline = s.outline := by
  unfold unwindOffer; (repeat' split) <;> simp

@[simp] theorem unwindGroup_outline (g : Nat) (s : State) : (unwindGroup g s).outline = s.outline :=
  foldl_outline _ _ _ fun t x => unwindOffer_outline x.2 t

@[simp] theorem warmCabins_outline (s : State) : (warmCabins s).outline = s.outline := by
  simp [warmCabins, restoreOffers]

@[simp] theorem cabinAssign_outline (b : BandNo) (g : Nat) (s : State) : (cabinAssign b g s).1.outline = s.outline := by
  unfold cabinAssign; (repeat' split) <;> simp [refused, done]

@[simp] theorem setCabinLimit_outline (g minutes : Nat) (s : State) : (setCabinLimit g minutes s).1.outline = s.outline := by
  unfold setCabinLimit; split <;> simp [refused, done, State.outline]

@[simp] theorem cleaned_outline (n : Nat) (s : State) : (cleaned n s).1.outline = s.outline := by
  unfold cleaned; (repeat' split) <;> simp [refused, done]

@[simp] theorem cabinOut_outline (n : Nat) (c : Cabin) (s : State) : (cabinOut n c s).outline = s.outline := by
  unfold cabinOut; (repeat' split) <;> simp

@[simp] theorem cabinIn_outline (n : Nat) (c : Cabin) (s : State) : (cabinIn n c s).outline = s.outline := by
  unfold cabinIn; split <;> simp

@[simp] theorem cabinService_outline (n d : Nat) (s : State) : (cabinService n d s).1.outline = s.outline := by
  unfold cabinService; (repeat' split) <;> simp [refused, done]

/-! ## Lockers -/

@[simp] theorem showLocker_outline (n : Nat) (s : State) : (showLocker n s).outline = s.outline := by
  simp only [showLocker, FieldLine.showLocker]
  split
  · rfl
  · exact outline_mapStation _ _ (fun st => by simp) rfl rfl rfl

@[simp] theorem moveLocker_outline (n : Nat) (l : Locker) (s : State) : (moveLocker n l s).outline = s.outline := by
  simp [moveLocker]

@[simp] theorem unlockAgain_outline (n : Nat) (s : State) : (unlockAgain n s).outline = s.outline :=
  outline_mapStation _ _ (fun st => by simp) rfl rfl rfl

@[simp] theorem acceptAtLocker_outline (n : Nat) (s : State) : (acceptAtLocker n s).outline = s.outline :=
  playOnce_outline _ _ _

@[simp] theorem refuseAtLocker_outline (n : Nat) (code : DisplayCode) (s : State) :
    (refuseAtLocker n code s).outline = s.outline := refuseAt_outline _ _ _ _

@[simp] theorem soundAlarm_outline (b : Nat) (s : State) : (soundAlarm b s).outline = s.outline :=
  outline_mapStation _ _ (fun st => st.setAlarm_bare true) rfl rfl rfl

@[simp] theorem quietAlarm_outline (b : Nat) (s : State) : (quietAlarm b s).outline = s.outline := by
  unfold quietAlarm
  split
  · exact outline_mapStation (bankAddr b) (fun st => if st.alarm then st.setAlarm false else st)
      (fun st => by split <;> simp) rfl rfl rfl
  · rfl

@[simp] theorem settlePending_outline (n : Nat) (s : State) : (settlePending n s).outline = s.outline := by
  unfold settlePending; (repeat' split) <;> simp

@[simp] theorem vacate_outline (n : Nat) (l : Locker) (s : State) : (vacate n l s).outline = s.outline := by simp [vacate]

@[simp] theorem settleTo_outline (n : Nat) (l : Locker) (st : LockerState) (s : State) :
    (settleTo n l st s).outline = s.outline := moveLocker_outline _ _ _

@[simp] theorem forceLocker_outline (n : Nat) (l : Locker) (cause : AlarmCause) (s : State) :
    (forceLocker n l cause s).outline = s.outline := by simp [forceLocker]

@[simp] theorem claimLocker_outline (n : Nat) (l : Locker) (b : BandNo) (s : State) :
    (claimLocker n l b s).outline = s.outline := by
  unfold claimLocker; dsimp only; split <;> simp

@[simp] theorem startOpening_outline (n : Nat) (l : Locker) (opener : Opener) (s : State) :
    (startOpening n l opener s).outline = s.outline := by simp [startOpening]

@[simp] theorem renewOpening_outline (n : Nat) (l : Locker) (opener : Opener) (s : State) :
    (renewOpening n l opener s).outline = s.outline := by simp [renewOpening]

@[simp] theorem openedInWindow_outline (n : Nat) (l : Locker) (s : State) : (openedInWindow n l s).outline = s.outline := by
  unfold openedInWindow; (repeat' split) <;> simp

@[simp] theorem clearLocker_outline (n : Nat) (l : Locker) (s : State) : (clearLocker n l s).outline = s.outline := by
  unfold clearLocker; (repeat' split) <;> simp

@[simp] theorem presentAtLocker_outline (n : Nat) (r : BandRecord) (s : State) :
    (presentAtLocker n r s).outline = s.outline := by
  unfold presentAtLocker; (repeat' split) <;> simp

@[simp] theorem masterAtLocker_outline (n : Nat) (s : State) : (masterAtLocker n s).outline = s.outline := by
  unfold masterAtLocker; (repeat' split) <;> simp

@[simp] theorem lockerDoorEvent_outline (n : Nat) (isOpen : Bool) (s : State) :
    (lockerDoorEvent n isOpen s).outline = s.outline := by
  unfold lockerDoorEvent; dsimp only; (repeat' split) <;> simp

@[simp] theorem takeOpeningExpiry_outline (n : Nat) (s : State) : (takeOpeningExpiry n s).outline = s.outline := by
  unfold takeOpeningExpiry; (repeat' split) <;> simp

@[simp] theorem releaseLocker_outline (n : Nat) (s : State) : (releaseLocker n s).1.outline = s.outline := by
  unfold releaseLocker; (repeat' split) <;> simp [refused, done]

@[simp] theorem clearForced_outline (n : Nat) (s : State) : (clearForced n s).1.outline = s.outline := by
  unfold clearForced; (repeat' split) <;> simp [refused, done]

@[simp] theorem serviceOut_outline (n : Nat) (l : Locker) (s : State) : (serviceOut n l s).outline = s.outline := by
  unfold serviceOut; (repeat' split) <;> simp

@[simp] theorem serviceIn_outline (n : Nat) (l : Locker) (s : State) : (serviceIn n l s).outline = s.outline := by
  unfold serviceIn; (repeat' split) <;> simp

@[simp] theorem lockerService_outline (n d : Nat) (s : State) : (lockerService n d s).1.outline = s.outline := by
  unfold lockerService; (repeat' split) <;> simp [refused, done]

@[simp] theorem resetUseCount_outline (n : Nat) (s : State) : (resetUseCount n s).1.outline = s.outline := by
  unfold resetUseCount; split <;> simp [refused, done]

@[simp] theorem windowLocker_outline (a : WindowArgs) (s : State) (n : Nat) : (windowLocker a s n).outline = s.outline := by
  unfold windowLocker; (repeat' split) <;> simp

@[simp] theorem lockerWindowLoad_outline (a : WindowArgs) (s : State) : (lockerWindowLoad a s).1.outline = s.outline := by
  unfold lockerWindowLoad; split <;> simp [refused, done]

@[simp] theorem loseLocker_outline (s : State) (n : Nat) : (loseLocker s n).outline = s.outline := by
  unfold loseLocker; (repeat' split) <;> simp

@[simp] theorem restoreLocker_outline (s : State) (n : Nat) : (restoreLocker s n).outline = s.outline := by
  unfold restoreLocker; (repeat' split) <;> simp

@[simp] theorem treatLocker_outline (n : Nat) (l : Locker) (s : State) : (treatLocker n l s).outline = s.outline := by
  unfold treatLocker; (repeat' split) <;> simp

@[simp] theorem clearOrphanCheck_outline (n : Nat) (s : State) : (clearOrphanCheck n s).outline = s.outline := by
  unfold clearOrphanCheck; split <;> simp

@[simp] theorem reconcileLocker_outline (doors : List DoorReading) (s : State) (n : Nat) :
    (reconcileLocker doors s n).outline = s.outline := by
  unfold reconcileLocker; split <;> simp

@[simp] theorem endAwaiting_outline (b : Nat) (s : State) : (endAwaiting b s).outline = s.outline := rfl

@[simp] theorem reconcileBank_outline (b : Nat) (doors : List DoorReading) (s : State) :
    (reconcileBank b doors s).outline = s.outline := by simp [reconcileBank]

@[simp] theorem followAlarm_outline (b : Nat) (s : State) : (followAlarm b s).outline = s.outline :=
  outline_mapStation _ _ (fun st => st.setAlarm_bare _) rfl rfl rfl

@[simp] theorem regainBank_outline (b : Nat) (doors : List DoorReading) (s : State) :
    (regainBank b doors s).outline = s.outline := by simp [regainBank]

@[simp] theorem purgeLocker_outline (s : State) (n : Nat) : (purgeLocker s n).outline = s.outline := by
  unfold purgeLocker; dsimp only; (repeat' split) <;> simp

@[simp] theorem rehold_outline (new : BandNo) (s : State) (n : Nat) : (rehold new s n).outline = s.outline := by
  unfold rehold; split <;> simp

/-! ## Lanes -/

@[simp] theorem showLane_outline (l : Nat) (s : State) : (showLane l s).outline = s.outline := by
  simp only [showLane, FieldLine.showLane]
  split
  · rfl
  · exact outline_mapStation _ _ (fun st => by simp) rfl rfl rfl

@[simp] theorem moveLane_outline (l : Nat) (e : Lane) (s : State) : (moveLane l e s).outline = s.outline := by
  simp [moveLane]

@[simp] theorem writeSlot_outline (l : Nat) (act : SlotAction) (b : BandNo) (s : State) :
    (writeSlot l act b s).outline = s.outline := writeEntry_outline _ _ _ _

@[simp] theorem returnSlot_outline (l : Nat) (slot : Option BandNo) (s : State) :
    (returnSlot l slot s).outline = s.outline := by
  unfold returnSlot; split <;> simp

@[simp] theorem refuseAtLane_outline (l : Nat) (act : SlotAction) (b : BandNo) (text : DisplayText) (s : State) :
    (refuseAtLane l act b text s).outline = s.outline := by simp [refuseAtLane]

@[simp] theorem letThrough_outline (l : Nat) (e : Lane) (b : BandNo) (cause : PassCause) (act : SlotAction) (s : State) :
    (letThrough l e b cause act s).outline = s.outline := by simp [letThrough]

@[simp] theorem collectBand_outline (l : Nat) (e : Lane) (b : BandNo) (cause : PassCause) (s : State) :
    (collectBand l e b cause s).outline = s.outline := by simp [collectBand]

@[simp] theorem quoteBand_outline (l : Nat) (e : Lane) (b : BandNo) (amount : Nat) (w : Working) (s : State) :
    (quoteBand l e b amount w s).outline = s.outline := by simp [quoteBand]

@[simp] theorem assessBand_outline (l : Nat) (e : Lane) (r : BandRecord) (s : State) :
    (assessBand l e r s).outline = s.outline := by
  unfold assessBand; dsimp only; split <;> simp

@[simp] theorem insertAtIdle_outline (l : Nat) (e : Lane) (b : BandNo) (seen : Recognised) (s : State) :
    (insertAtIdle l e b seen s).outline = s.outline := by
  unfold insertAtIdle; (repeat' split) <;> simp

@[simp] theorem insertBand_outline (l : Nat) (b : BandNo) (seen : Recognised) (s : State) :
    (insertBand l b seen s).outline = s.outline := by
  unfold insertBand; (repeat' split) <;> simp

@[simp] theorem unquote_outline (b : Option BandNo) (s : State) : (unquote b s).outline = s.outline := by
  unfold unquote; split <;> simp

@[simp] theorem endQuote_outline (l : Nat) (e : Lane) (last : Option (BandNo × Nat)) (s : State) :
    (endQuote l e last s).outline = s.outline := by simp [endQuote]

@[simp] theorem giveBackQuote_outline (l : Nat) (e : Lane) (last : Option (BandNo × Nat)) (s : State) :
    (giveBackQuote l e last s).outline = s.outline := by
  unfold giveBackQuote; dsimp only; split <;> simp

@[simp] theorem announceEnd_outline (l : Nat) (e : Lane) (cause : QuoteEnd) (s : State) :
    (announceEnd l e cause s).outline = s.outline := by
  unfold announceEnd; split <;> simp

@[simp] theorem takeQuoteExpiry_outline (l : Nat) (s : State) : (takeQuoteExpiry l s).outline = s.outline := by
  unfold takeQuoteExpiry; (repeat' split) <;> simp

@[simp] theorem endPass_outline (l : Nat) (e : Lane) (s : State) : (endPass l e s).outline = s.outline :=
  moveLane_outline _ _ _

@[simp] theorem takePassExpiry_outline (l : Nat) (s : State) : (takePassExpiry l s).outline = s.outline := by
  unfold takePassExpiry; (repeat' split) <;> simp

@[simp] theorem passSensed_outline (l : Nat) (s : State) : (passSensed l s).outline = s.outline := by
  unfold passSensed; (repeat' split) <;> simp

@[simp] theorem collectorFault_outline (l : Nat) (s : State) : (collectorFault l s).outline = s.outline := by
  unfold collectorFault; split <;> simp

@[simp] theorem paid_outline (a : PaidArgs) (s : State) : (paid a s).1.outline = s.outline := by
  unfold paid paidAgainst; dsimp only; (repeat' split) <;> simp [refused, done]

@[simp] theorem cancelQuote_outline (l : Nat) (s : State) : (cancelQuote l s).1.outline = s.outline := by
  unfold cancelQuote; (repeat' split) <;> simp [refused, done]

@[simp] theorem loseLane_outline (l : Nat) (s : State) : (loseLane l s).outline = s.outline := by
  unfold loseLane; (repeat' split) <;> simp

@[simp] theorem regainLane_outline (l : Nat) (slot : Option BandNo) (s : State) :
    (regainLane l slot s).outline = s.outline := by
  unfold regainLane; split
  · rfl
  · dsimp only; simp; split <;> simp

@[simp] theorem reopenGate_outline (l : Nat) (e : Lane) (s : State) : (reopenGate l e s).outline = s.outline := by
  unfold reopenGate; split <;> simp

@[simp] theorem reconcileLane_outline (l : Nat) (slot : Option BandNo) (s : State) :
    (reconcileLane l slot s).outline = s.outline := by
  unfold reconcileLane; dsimp only; (repeat' split) <;> simp

@[simp] theorem unwindQuote_outline (l : Nat) (s : State) : (unwindQuote l s).outline = s.outline := by
  unfold unwindQuote; (repeat' split) <;> simp

/-! ## The band orders -/

@[simp] theorem issueBand_outline (a : IssueArgs) (s : State) : (issueBand a s).1.outline = s.outline :=
  outline_congr (by simp) (by simp) (by simp)

@[simp] theorem barBand_outline (b : BandNo) (s : State) : (barBand b s).1.outline = s.outline := by
  unfold barBand; (repeat' split) <;> simp [refused, done]

@[simp] theorem replaceBand_outline (old new : BandNo) (s : State) : (replaceBand old new s).1.outline = s.outline := by
  have hrelink : ∀ link u, (relink old new link u).outline = u.outline := fun link u => by
    unfold relink; (repeat' split) <;> simp
  have hbdr : ∀ r : BandRegister, ({ s with bdr := r } : State).outline = s.outline := fun _ => rfl
  unfold replaceBand
  (repeat' split) <;> simp [refused, done, hrelink, hbdr]

/-! ## Presentations and events -/

@[simp] theorem recognise_outline (reader : Reader) (b : BandNo) (s : State) :
    (recognise reader b s).1.outline = s.outline := outline_congr (by simp) (by simp) (by simp)

theorem presentAt_outline (reader : Reader) (b : BandNo) (master : State → State) (band : BandRecord → State → State)
    (s : State) (hm : ∀ t, (master t).outline = t.outline) (hb : ∀ r t, (band r t).outline = t.outline) :
    (presentAt reader b master band s).outline = s.outline := by
  unfold presentAt; dsimp only; split <;> simp [hm, hb, refuseRecognition]

@[simp] theorem routeEvent_outline (addr : Nat) (ev : StationEvent) (s : State) :
    (routeEvent addr ev s).outline = s.outline := by
  unfold routeEvent
  split
  case h_1 => cases ev <;> simp only [bankEvent] <;> (try split) <;> simp [presentAt_outline]
  case h_2 => cases ev <;> simp [cabinEvent, presentAt_outline]
  case h_3 => cases ev <;> simp [padEvent, presentAt_outline]
  case h_4 =>
    have hlane : ∀ l b, (presentAtLane l b s).outline = s.outline := fun l b => by
      unfold presentAtLane; dsimp only; split <;> simp
    cases ev <;> simp [laneEvent, hlane]

@[simp] theorem reconcileOwner_outline (addr : Nat) (r : StatusReport) (s : State) :
    (reconcileOwner addr r s).outline = s.outline := by cases r <;> simp [reconcileOwner]

@[simp] theorem regainOwner_outline (addr : Nat) (r : StatusReport) (s : State) :
    (regainOwner addr r s).outline = s.outline := by cases r <;> simp [regainOwner]

@[simp] theorem loseOwner_outline (addr : Nat) (s : State) : (loseOwner addr s).outline = s.outline := by
  unfold loseOwner; split <;> simp

/-! ## The clock and the day -/

@[simp] theorem takeTimedEntry_outline (addr : Nat) (k : EntryKey) (s : State) :
    (takeTimedEntry addr k s).outline = s.outline := by
  unfold takeTimedEntry
  (repeat' split)
  · rfl
  · exact outline_mapStation addr _ (fun st => st.writeMarked_bare _ k _) rfl rfl rfl
  · rfl

@[simp] theorem takeEntryTimers_outline (s : State) : (takeEntryTimers s).outline = s.outline := by
  simp [takeEntryTimers, apply_ite]

@[simp] theorem takeWatchExpiry_outline (tag : Byte) (s : State) : (takeWatchExpiry tag s).outline = s.outline :=
  outline_congr (by simp) (by simp) (by simp)

@[simp] theorem takeDue_outline (s : State) : (takeDue s).outline = s.outline := by simp [takeDue]

@[simp] theorem raiseBoundary_outline (minute : Nat) (s : State) : (raiseBoundary minute s).outline = s.outline := by
  have hswap : ∀ u, (swapTariff minute u).outline = u.outline := fun u => outline_congr (by simp) (by simp) (by simp)
  simp [raiseBoundary, hswap]

@[simp] theorem closeDayWith_outline (reason : Nat → Nat → Nat → DayReason) (s : State) :
    (closeDayWith reason s).outline = s.outline := by
  have hday : ({ s with sck := { s.sck with day := .closed } } : State).outline = s.outline := rfl
  simp [closeDayWith, hday]

@[simp] theorem dayLogic_outline (s : State) : (dayLogic s).outline = s.outline := by
  have hwrap : ∀ u, (wrapDay u).outline = u.outline := fun u => outline_congr (by simp) (by simp) (by simp)
  unfold dayLogic; split <;> simp [hwrap]

@[simp] theorem advanceSecond_outline (s : State) : (advanceSecond s).outline = s.outline := by
  unfold advanceSecond; (repeat' split) <;> simp

@[simp] theorem secondPasses_outline (s : State) : (secondPasses s).outline = s.outline := by simp [secondPasses]

@[simp] theorem runClock_outline (n : Nat) (s : State) : (runClock n s).outline = s.outline := by
  induction n generalizing s with
  | zero => rfl
  | succ n ih => simp [runClock, ih]

theorem runToTimer_outline (timer : Option Nat) (act : State → State) (s : State)
    (h : ∀ t, (act t).outline = t.outline) : (runToTimer timer act s).outline = s.outline := by
  cases timer <;> simp [runToTimer, h]

@[simp] theorem carryTimers_outline (f : Nat → Nat) (s : State) : (carryTimers f s).outline = s.outline := by
  simp [State.outline, carryTimers, FieldLine.bare, Function.comp_def]

@[simp] theorem setClock_outline (second : Nat) (s : State) : (setClock second s).1.outline = s.outline := by
  have hset : (clockSetTo second s).outline = s.outline := by
    unfold clockSetTo
    dsimp only
    split
    · exact (raiseBoundary_outline _ _).trans (carryTimers_outline _ s)
    · exact carryTimers_outline _ s
  unfold setClock; (repeat' split) <;> simp [refused, done, hset]

@[simp] theorem adjustForward_outline (n : Nat) (s : State) : (adjustForward n s).outline = s.outline := by
  induction n generalizing s with
  | zero => rfl
  | succ n ih => simp [adjustForward, ih]

@[simp] theorem adjustClock_outline (k : Int) (s : State) : (adjustClock k s).1.outline = s.outline := by
  have hto : ∀ second, (adjustTo second s).outline = s.outline := fun second => by
    unfold adjustTo; (repeat' split) <;> simp [adjustBack]
  unfold adjustClock; dsimp only; (repeat' split) <;> simp [refused, done, hto]

@[simp] theorem openDay_outline (s : State) : (openDay s).1.outline = s.outline := by
  have hopen : ∀ live, (openedDay live s).outline = s.outline := fun live => by simp [State.outline, openedDay, raiseNotice]
  unfold openDay; (repeat' split) <;> simp [refused, done, hopen]

@[simp] theorem closeDay_outline (s : State) : (closeDay s).1.outline = s.outline := by
  unfold closeDay; split <;> simp [refused, done]

end Sys2Proof.Machine

/-! The tables and the committed site table (O10): what they hold, what leaves them alone, and the two rebuilds. -/
namespace Sys2Proof.Machine

/-! ## The layout of the tables -/

/-- What R136 and R138 fix of a station table: each station's address with the keys of its image. -/
def FieldLine.keys (f : FieldLine) : List (Nat × List EntryKey) := f.stations.map (fun st => (st.addr, st.image.map (·.key)))

/-- How many cabins, groups and lanes there are, and the station table's addresses and keys. -/
def State.layout (s : State) : Nat × Nat × Nat × List (Nat × List EntryKey) :=
  (s.cbu.cabins.length, s.cbu.groups.length, s.xlu.lanes.length, s.flm.keys)

theorem FieldLine.bare_keys (f : FieldLine) : f.bare.keys = f.keys := by
  rw [FieldLine.keys, FieldLine.bare, List.map_map]
  exact List.map_congr_left fun st _ => Prod.ext rfl st.bare_keys

/-- Tables of one outline have one layout. -/
theorem State.layout_of_outline {s t : State} (h : t.outline = s.outline) : t.layout = s.layout := by
  simp only [State.outline, Outline.mk.injEq] at h
  obtain ⟨hcabins, hgroups, hlanes, hline⟩ := h
  have hkeys : t.flm.keys = s.flm.keys := by rw [← t.flm.bare_keys, hline, s.flm.bare_keys]
  simp only [State.layout, hcabins, hgroups, hlanes, hkeys]

/-- The tables of two states hold the same where their banks have the same doors and their layouts agree. -/
theorem TablesMatchSite.congr {s t : State} (h : TablesMatchSite s) (hdoors : t.lmu.doorCounts = s.lmu.doorCounts)
    (hlayout : t.layout = s.layout) (hsite : t.sts.site = s.sts.site) : TablesMatchSite t := by
  have htable : t.table = s.table := by simp [State.table, hsite]
  simp only [State.layout, Prod.mk.injEq] at hlayout
  obtain ⟨hcabins, hgroups, hlanes, hkeys⟩ := hlayout
  obtain ⟨hb, hc, hg, hl, hst⟩ := h
  rw [TablesMatchSite, htable]
  exact ⟨Eq.trans hdoors hb, hcabins.trans hc, hgroups.trans hg, hlanes.trans hl, Eq.trans hkeys hst⟩

/-! ## The field line master's own records -/

/-- A station's address and the keys of its image stand. -/
def Station.SameKeys (st st' : Station) : Prop := st'.addr = st.addr ∧ st'.image.map (·.key) = st.image.map (·.key)

theorem Station.sameKeys_mapImage (st : Station) (g : Entry → Entry) (hg : ∀ e, (g e).key = e.key) :
    st.SameKeys { st with image := st.image.map g } := ⟨rfl, by simp [Function.comp_def, hg]⟩

theorem Station.sameKeys_acknowledge (st : Station) : st.SameKeys st.acknowledge :=
  st.sameKeys_mapImage _ fun e => by split <;> rfl

theorem Station.sameKeys_dropCarried (st : Station) : st.SameKeys st.dropCarried := st.sameKeys_mapImage _ fun _ => rfl

theorem markCarried_keys (k : Nat) (l : List Entry) : (markCarried k l).map (·.key) = l.map (·.key) := by
  induction l generalizing k with
  | nil => cases k <;> rfl
  | cons e es ih =>
    cases k with
    | zero => rfl
    | succ k => unfold markCarried; split <;> simp [ih]

theorem Station.sameKeys_polled (st : Station) : st.SameKeys st.polled := by
  unfold Station.polled
  split
  · exact ⟨rfl, rfl⟩
  · exact ⟨rfl, markCarried_keys _ _⟩

theorem FieldLine.keys_map (f : FieldLine) (g : Station → Station) (hg : ∀ st : Station, st.SameKeys (g st)) :
    (f.stations.map g).map (fun st => (st.addr, st.image.map (·.key))) = f.keys := by
  rw [List.map_map]
  exact List.map_congr_left fun st _ => Prod.ext (hg st).1 (hg st).2

theorem FieldLine.keys_update (f : FieldLine) (a : Nat) (g : Station → Station) (hg : ∀ st : Station, st.SameKeys (g st)) :
    (f.update a g).keys = f.keys :=
  f.keys_map (fun st => if st.addr = a then g st else st) fun st => by split; exacts [hg st, ⟨rfl, rfl⟩]

theorem updateStation_layout (a : Nat) (g : Station → Station) (s : State) (hg : ∀ st : Station, st.SameKeys (g st)) :
    (updateStation a g s).layout = s.layout := by simp [State.layout, FieldLine.keys_update _ _ _ hg]

@[simp] theorem setHealth_layout (a : Nat) (h : Health) (s : State) : (setHealth a h s).layout = s.layout := by
  simp [State.layout, FieldLine.keys_update _ _ _ fun st => show st.SameKeys { st with health := h } from ⟨rfl, rfl⟩]

@[simp] theorem raiseNotice_layout (c : NoticeContent) (s : State) : (raiseNotice c s).layout = s.layout := rfl

@[simp] theorem endPoll_layout (s : State) : (endPoll s).layout = s.layout := rfl

@[simp] theorem endVisit_layout (s : State) : (endVisit s).layout = s.layout := rfl

@[simp] theorem continueVisit_layout (event : Bool) (s : State) : (continueVisit event s).layout = s.layout := rfl

@[simp] theorem sendPoll_layout (s : State) : (sendPoll s).layout = s.layout := by
  unfold sendPoll
  (repeat' split)
  · rfl
  · exact congrArg (fun k => (s.cbu.cabins.length, s.cbu.groups.length, s.xlu.lanes.length, k))
      (s.flm.keys_update _ Station.polled Station.sameKeys_polled)
  · rfl

/-! ## Answers and misses -/

@[simp] theorem takeRestart_layout (a : Nat) (flag : Bool) (s : State) : (takeRestart a flag s).layout = s.layout := by
  have hmark := updateStation_layout a Station.restarted s fun st => ⟨rfl, rfl⟩
  unfold takeRestart; dsimp only; (repeat' split) <;> simp [hmark]

@[simp] theorem takeEvent_layout (a : Nat) (event : Option (StationEvent × Bool)) (s : State) :
    (takeEvent a event s).layout = s.layout := by
  unfold takeEvent
  (repeat' split)
  · rfl
  · rfl
  · next bit _ =>
    exact (State.layout_of_outline (routeEvent_outline a _ _)).trans
      (updateStation_layout a (fun st => { st with lastBit := some bit }) s fun st => ⟨rfl, rfl⟩)

@[simp] theorem takeOverrun_layout (a : Nat) (flag : Bool) (read : Option ReadKind) (s : State) :
    (takeOverrun a flag read s).layout = s.layout := by
  unfold takeOverrun
  split
  · exact updateStation_layout a _ s fun st => ⟨rfl, rfl⟩
  · rfl

theorem markAll_layout (a : Nat) (s : State) : (updateStation a Station.markAll s).layout = s.layout :=
  updateStation_layout a _ s fun st => st.sameKeys_mapImage _ fun _ => rfl

@[simp] theorem takeStatus_layout (a : Nat) (r : StatusReport) (s : State) : (takeStatus a r s).layout = s.layout := by
  have hheld := updateStation_layout a (fun st => st.heldStatus r s.now) s fun st => ⟨rfl, rfl⟩
  have hstart : ∀ u, (endStarting a u).layout = u.layout := fun u => by unfold endStarting; split <;> simp
  rw [takeStatus, markAll_layout, State.layout_of_outline (reconcileOwner_outline a r _), hstart, hheld]

@[simp] theorem regainStation_layout (a : Nat) (r : StatusReport) (s : State) : (regainStation a r s).layout = s.layout := by
  rw [regainStation, raiseNotice_layout, markAll_layout, State.layout_of_outline (regainOwner_outline a r _), setHealth_layout]
  exact updateStation_layout a _ s fun st => ⟨rfl, rfl⟩

@[simp] theorem goodAnswer_layout (p : Poll) (reply : PollReply) (status : Option StatusReport) (s : State) :
    (goodAnswer p reply status s).layout = s.layout := by
  have hstatus : ∀ u, (takeStatusOf p.addr status u).layout = u.layout := fun u => by cases status <;> simp [takeStatusOf]
  have hanswered := updateStation_layout p.addr (fun st => st.answered (endPoll s).now) (endPoll s) fun st =>
    st.sameKeys_acknowledge
  unfold goodAnswer
  (repeat' split) <;> simp [takeAnswer, hstatus, hanswered]

@[simp] theorem missedPoll_layout (p : Poll) (s : State) : (missedPoll p s).layout = s.layout := by
  have hmissed : ∀ u, (updateStation p.addr Station.missed u).layout = u.layout := fun u =>
    updateStation_layout _ _ u Station.sameKeys_dropCarried
  have hlose : ∀ u, (loseStation p.addr u).layout = u.layout := fun u => by
    rw [loseStation, raiseNotice_layout, State.layout_of_outline (loseOwner_outline p.addr _)]
    exact (updateStation_layout p.addr (fun st => st.markRead .clearing) _ fun st => ⟨rfl, rfl⟩).trans (setHealth_layout _ _ u)
  unfold missedPoll missAnswer
  dsimp only
  (repeat' split) <;> simp [hmissed, hlose]

/-! ## PURGE and the warm reset -/

@[simp] theorem purge_layout (s : State) : (purge s).1.layout = s.layout := by
  have hlanes : (purgeLanes s).outline = s.outline := by
    have hunwound : (overLanes unwindQuote s).outline = s.outline := by simp
    rw [← hunwound]; simp [purgeLanes, State.outline, LaneUnit.forgetExpiries]
  have hreads : ∀ u, (purgeReads u).layout = u.layout := fun u =>
    congrArg (fun k => (u.cbu.cabins.length, u.cbu.groups.length, u.xlu.lanes.length, k))
      (u.flm.keys_map _ fun st => by unfold Station.purgeRead; split <;> exact ⟨rfl, rfl⟩)
  have hlockers : ∀ u, (purgeLockers u).layout = u.layout := fun u =>
    (hreads _).trans (State.layout_of_outline (foldl_outline _ _ u purgeLocker_outline))
  have hcabins : ∀ u, (overCabins purgeCabin u).layout = u.layout := fun u =>
    State.layout_of_outline (overCabins_outline _ u purgeCabin_outline)
  have hsck : ∀ (u : State) (k : SiteClock), ({ u with sck := k } : State).layout = u.layout := fun _ _ => rfl
  have hempty : ∀ u, (emptyBands u).layout = u.layout := fun _ => rfl
  have hacts : (purgeActs s).layout = s.layout := by
    rw [purgeActs, hsck, hcabins, hlockers, hempty, State.layout_of_outline hlanes]
  unfold purge
  split
  · rfl
  · simpa [done] using hacts

@[simp] theorem warmReset_layout (s : State) : (warmReset s).layout = s.layout := by
  have hwarm : ∀ u, (warmLine u).layout = u.layout := fun u =>
    congrArg (fun k => (u.cbu.cabins.length, u.cbu.groups.length, u.xlu.lanes.length, k))
      (u.flm.keys_map _ fun st => by unfold Station.warm; split <;> exact st.sameKeys_dropCarried)
  have hown : ∀ u, (warmOwners u).layout = u.layout := fun u => by
    unfold warmOwners
    split
    · exact (hwarm _).trans (State.layout_of_outline (by simp [warmLanes]))
    · rfl
  exact hown (linkReset s)

@[simp] theorem takeBreak_layout (s : State) : (takeBreak s).layout = s.layout := by
  unfold takeBreak
  dsimp only
  split
  · exact warmReset_layout _
  · rfl

/-! ## The step -/

/-- What no command but a rebuild changes: the layout of the tables and the committed site table. -/
def SameTables (s t : State) : Prop := t.layout = s.layout ∧ t.sts.site = s.sts.site

theorem sameTables_of_outline {s t : State} (h : t.outline = s.outline) (hsts : t.sts = s.sts) : SameTables s t :=
  ⟨State.layout_of_outline h, congrArg SiteStore.site hsts⟩

theorem runOrder_sameTables (k : OrderKind) (tag : Byte) (body : List Byte) (owner : State → Owned) (s : State)
    (ho : ∀ u, SameTables u (owner u).1) : SameTables s (runOrder k tag body owner s) :=
  runOrder_owner (SameTables s) k tag body owner s (fun _ _ hu => hu)
    (fun u hu => ⟨(ho u).1.trans hu.1, (ho u).2.trans hu.2⟩) ⟨rfl, rfl⟩

theorem siteLoad_site (body : List Byte) (s : State) : (siteLoad body s).1.sts.site = s.sts.site := by
  unfold siteLoad; dsimp only; (repeat' split) <;> rfl

theorem exec_sameTables (c : Instr) (s t : State) (ht : exec c s = .next t) (hr : ∀ straps, c ≠ .coldReset straps)
    (hs : ∀ tag body, c ≠ .siteCommit tag body) : SameTables s t := by
  cases c
  case coldReset => exact absurd rfl (hr _)
  case siteCommit => exact absurd rfl (hs _ _)
  all_goals
    injection ht with ht
    subst ht
  case unknownOrder =>
    split
    · exact ⟨rfl, rfl⟩
    · unfold dispatchOrder; (repeat' split) <;> exact ⟨rfl, rfl⟩
  case lockerServiceOut | lockerServiceIn | cabinServiceOut | cabinServiceIn =>
    split
    · exact ⟨rfl, rfl⟩
    · exact runOrder_sameTables _ _ _ _ _ fun u => sameTables_of_outline (by simp) (by simp)
  case pollAnswer | missedAnswer => (repeat' split) <;> simp [SameTables]
  case openingExpiry | offerExpiry | entryExpiry | cleaningExpiry | abandonment | quoteExpiry | passExpiry | watchExpiry
      | desiredEntryExpiry =>
    refine sameTables_of_outline (runToTimer_outline _ _ _ fun t => by simp) ?_
    unfold runToTimer
    split <;> simp
  case storeWriteEnd copy => cases copy <;> exact ⟨rfl, rfl⟩
  case warmReset => split <;> simp [SameTables]
  case lineBreak => split <;> simp [SameTables]
  case poll => exact ⟨sendPoll_layout s, by simp⟩
  case minuteBoundary | midnightRollover => exact sameTables_of_outline (by simp) (by simp)
  case frameReceived | frameLengthOutOfRange | byteWithoutStopBit | interByteGap | transmissionEnd
      | noticeHoldAsserted | noticeHoldNegated | startByteReceived | lineReturnToMark =>
    (repeat' split) <;> simp [SameTables, State.layout]
  case purge => exact runOrder_sameTables _ _ _ _ _ fun u => ⟨purge_layout u, by simp⟩
  case siteLoad => exact runOrder_sameTables _ _ _ _ _ fun u => ⟨by simp [State.layout], siteLoad_site _ u⟩
  case issueBand | barBand | replaceBand | releaseLocker | clearForced | resetUseCount | lockerWindowLoad | cabinAssign
      | setCabinLimit | cleaned | paid | cancelQuote | setClock | adjustClock | openDay | closeDay =>
    exact runOrder_sameTables _ _ _ _ _ fun u => sameTables_of_outline (by simp) (by simp)
  all_goals
    exact runOrder_sameTables _ _ _ _ _ fun u =>
      sameTables_of_outline (outline_congr (by simp) (by simp) (by simp)) (by simp)

/-! ## The rebuilds (R170, R171) -/

theorem rebuild_tablesMatchSite (t : SiteTable) (s : State) (h : s.sts.site = some t) : TablesMatchSite (rebuild t s) := by
  have htable : (rebuild t s).table = t := by simp [State.table, h]
  rw [TablesMatchSite, htable]
  simp [rebuild, freshLockers, freshCabins, freshLanes, freshLine, freshBank, Function.comp_def]

theorem coldReset_tablesMatchSite (straps : BitVec 2) (s : State) : TablesMatchSite (coldReset straps s) := by
  unfold coldReset
  dsimp only
  split
  · exact rebuild_tablesMatchSite _ _ rfl
  · exact ⟨rfl, rfl, rfl, rfl, rfl⟩

theorem siteCommit_tablesMatchSite (s : State) (h : TablesMatchSite s) : TablesMatchSite (siteCommit s).1 := by
  unfold siteCommit
  (repeat' split)
  · exact h
  · exact h
  · exact rebuild_tablesMatchSite _ _ rfl

theorem exec_tablesMatchSite (c : Instr) (s t : State) (h : TablesMatchSite s) (ht : exec c s = .next t) :
    TablesMatchSite t := by
  by_cases hr : ∃ straps, c = .coldReset straps
  · obtain ⟨straps, rfl⟩ := hr
    injection ht with ht
    subst ht
    exact coldReset_tablesMatchSite straps s
  by_cases hs : ∃ tag body, c = .siteCommit tag body
  · obtain ⟨tag, body, rfl⟩ := hs
    injection ht with ht
    subst ht
    exact runOrder_owner TablesMatchSite .siteCommit tag body siteCommit s (fun _ _ hu => hu) siteCommit_tablesMatchSite h
  have hr' : ∀ straps, c ≠ .coldReset straps := fun straps hc => hr ⟨straps, hc⟩
  have hs' : ∀ tag body, c ≠ .siteCommit tag body := fun tag body hc => hs ⟨tag, body, hc⟩
  obtain ⟨hlayout, hsite⟩ := exec_sameTables c s t ht hr' hs'
  exact h.congr (exec_banks c s t ht hr' hs').doors hlayout hsite

/-- Settles O10: no act but a rebuild changes the number of an entry, an address, a key or the committed table, and a rebuild
makes the tables from the table it commits. -/
theorem stepKeepsTablesOfSite : Obligations.StepKeepsTablesOfSite := by
  intro s t h ht
  unfold step at ht
  split at ht
  · injection ht with ht
    subst ht
    exact h.congr (secondPasses_banks (.refl s.lmu)).doors (State.layout_of_outline (by simp)) (by simp)
  · next c rest _ => exact exec_tablesMatchSite c { s with pending := rest } t h ht

end Sys2Proof.Machine

/-! The orders on lockers: RELEASE LOCKER, CLEAR FORCED, LOCKER SERVICE, RESET USE COUNT and LOCKER WINDOW LOAD (R37, R39 to
R43). -/
namespace Sys2Proof.Machine

/-! ## An order taken -/

section
variable {k : OrderKind} {tag : Byte} {body : List Byte} {owner : State → Owned} {s u : State}

theorem next_runOrder_done {b : AnswerBody} (h : Taken k tag body s) (hu : owner (popOrder s) = done b u) :
    (.next (runOrder k tag body owner s) : Host.Outcome State Fault Refusal) = .next (placeAnswer (doneAnswer tag b) u) := by
  rw [runOrder_taken _ _ _ _ _ h, hu, settleOwned_done]

theorem next_runOrder_refused {c : ResultCode} (h : Taken k tag body s)
    (hu : owner (popOrder s) = refused c (popOrder s)) :
    (.next (runOrder k tag body owner s) : Host.Outcome State Fault Refusal)
      = .next (placeAnswer (plainAnswer tag c) (popOrder s)) := by
  rw [runOrder_taken _ _ _ _ _ h, hu, settleOwned_refused]

/-- An order changes what its owner changes, and the link controller. -/
theorem KeepsAllBut.ofOrder {l : List Block} (h : KeepsAllBut l (popOrder s) u) (hl : .lkc ∈ l) (a : Answer) :
    KeepsAllBut l s (placeAnswer a u) := fun b hb => by
  have hu := h b hb
  cases b with
  | lkc => exact absurd hl hb
  | _ => exact hu

end

/-! ## RELEASE LOCKER (R39) -/

/-- A locker released: given up, or remembering that while it is Unreachable (R39, R46). -/
def Locker.releasedEntry (l : Locker) : Locker :=
  { l with
    state := if l.state = .unreachable then .unreachable else if l.pendingOut then .outOfService else .vacant
    remembered := if l.state = .unreachable then some (if l.pendingOut then .outOfService else .vacant) else l.remembered
    holder := none, openedBy := none, openingExpiry := none, pendingOut := false }

theorem releaseLocker_invalid (n : Nat) (l : Locker) (s : State) (hl : s.lmu.find n = some l)
    (ha : l.acting = .vacant ∨ l.acting = .outOfService) : releaseLocker n s = refused .invalid s := by
  simp [releaseLocker, hl, ha]

/-- The state a release leaves and what it answers (R39): by whether the locker is Unreachable. -/
theorem releaseLocker_done (n : Nat) (l : Locker) (s : State) (hl : s.lmu.find n = some l) (hv : l.acting ≠ .vacant)
    (ho : l.acting ≠ .outOfService) :
    ∃ u, releaseLocker n s = done (.released l.holder (if l.pendingOut then .outOfService else .vacant)) u
      ∧ u.lmu.find n = some l.releasedEntry ∧ (∀ m, m ≠ n → u.lmu.find m = s.lmu.find m)
      ∧ u.bdr = (dropLocker l.holder n s).bdr ∧ KeepsAllBut [.bdr, .lmu, .flm, .lkc] s u := by
  by_cases hs : l.state = .unreachable
  · refine ⟨_, by simp [releaseLocker, hl, hv, ho, hs]; rfl, ?_, fun m hm => ?_, ?_, by simp [keepsAllBut_iff]⟩
    · simp [LockerMap.find_put_some _ _ _ _ hl, Locker.releasedEntry, hs]
    · simp [LockerMap.find_put_other _ _ _ _ hm]
    · cases hh : l.holder <;> simp [dropLocker]
  · refine ⟨_, by simp [releaseLocker, hl, hv, ho, hs]; rfl, ?_, fun m hm => ?_, ?_, by simp [keepsAllBut_iff]⟩
    · simp [vacate_find n l l s hl, Locker.releasedEntry, Locker.givenUp, hs]
    · simp [vacate_find_other n m l s hm]
    · simp [vacate_bdr]

/-! ## CLEAR FORCED (R37) -/

theorem clearForced_invalid (n : Nat) (l : Locker) (s : State) (hl : s.lmu.find n = some l) (hs : l.state ≠ .forced) :
    clearForced n s = refused .invalid s := by simp [clearForced, hl, hs]

/-- CLEAR FORCED acts as `unforced` does, and answers with the state it leaves. -/
theorem clearForced_done (n : Nat) (l x : Locker) (s : State) (hl : s.lmu.find n = some l) (hs : l.state = .forced)
    (hx : (unforced n l s).lmu.find n = some x) :
    clearForced n s = done (.lockerState x.state) (quietAlarm (lockerBank n) (unforced n l s)) := by
  simp [clearForced, hl, hs, clearLocker_eq, hx]

/-- Settles O27. -/
theorem releaseLockerAndClearForced : Obligations.ReleaseLockerAndClearForced := by
  refine ⟨fun tag body s l h hl => ⟨fun ha => ?_, fun hv ho => ?_⟩, fun tag body s l h hl => ⟨fun hs => ?_, fun hs => ?_⟩⟩
  · exact next_runOrder_refused h (releaseLocker_invalid _ l (popOrder s) hl ha)
  · obtain ⟨u, hu, hself, hother, hbdr, hkeep⟩ := releaseLocker_done _ l (popOrder s) hl hv ho
    refine ⟨_, next_runOrder_done h hu, hself, hother, ?_, answered_placeAnswer _ _, hkeep.ofOrder (by simp) _⟩
    rw [(placeAnswer_keeps _ u).2.1, hbdr]
    cases l.holder <;> rfl
  · have hself := unforced_find (u16At body 0) l (popOrder s) hl
    have hu := clearForced_done (u16At body 0) l _ (popOrder s) hl hs hself
    have hkeep : KeepsAllBut [.bdr, .lmu, .flm, .lkc] (popOrder s)
        (quietAlarm (lockerBank (u16At body 0)) (unforced (u16At body 0) l (popOrder s))) :=
      ((unforced_keeps (u16At body 0) l (popOrder s)).mono (by simp)).trans (by simp [keepsAllBut_iff])
    refine ⟨_, next_runOrder_done h hu, fun hh => ?_, fun hh => ?_, fun m hm => ?_, ?_, hkeep.ofOrder (by simp) _⟩
    · simp only [hh, if_true] at hself ⊢
      exact ⟨by simpa using hself, answered_placeAnswer _ _⟩
    · simp only [hh, Option.isSome_none, Bool.false_eq_true, if_false] at hself ⊢
      exact ⟨by simpa [hh] using hself, answered_placeAnswer _ _⟩
    · simpa using unforced_find_other _ l (popOrder s) m hm
    · simpa using unforced_bdr _ l (popOrder s)
  · exact next_runOrder_refused h (clearForced_invalid _ l (popOrder s) hl hs)

/-! ## LOCKER SERVICE (R40, R46) -/

/-- A locker taken out of service, or marked so while it is in use; the same of what an Unreachable one remembers. -/
def Locker.servicedOut (l : Locker) : Locker :=
  if l.acting = .vacant then { l with inService := false }.act .outOfService
  else if l.acting = .outOfService then { l with inService := false }
  else { l with inService := false, pendingOut := true }

/-- A locker put back in service, its mark cleared. -/
def Locker.servicedIn (l : Locker) : Locker :=
  if l.acting = .outOfService then { l with inService := true, pendingOut := false }.act .vacant
  else { l with inService := true, pendingOut := false }

theorem serviceOut_lmu (n : Nat) (l : Locker) (s : State) : (serviceOut n l s).lmu = s.lmu.put n l.servicedOut := by
  cases hs : l.state with
  | unreachable =>
    cases hr : l.remembered with
    | none => simp [serviceOut, Locker.servicedOut, Locker.acting, hs, hr]
    | some x => cases x <;> simp [serviceOut, Locker.servicedOut, Locker.acting, Locker.act, hs, hr]
  | _ => simp [serviceOut, Locker.servicedOut, Locker.acting, Locker.act, hs]

theorem serviceIn_lmu (n : Nat) (l : Locker) (s : State) : (serviceIn n l s).lmu = s.lmu.put n l.servicedIn := by
  cases hs : l.state with
  | unreachable =>
    cases hr : l.remembered with
    | none => simp [serviceIn, Locker.servicedIn, Locker.acting, hs, hr]
    | some x => cases x <;> simp [serviceIn, Locker.servicedIn, Locker.acting, Locker.act, hs, hr]
  | _ => simp [serviceIn, Locker.servicedIn, Locker.acting, Locker.act, hs]

/-- Settles O28. -/
theorem lockerServiceSetsTheMark : Obligations.LockerServiceSetsTheMark := by
  intro tag body s l h hl _
  have hfind : ∀ (x : Locker), (s.lmu.put (u16At body 0) x).find (u16At body 0) = some x := fun x =>
    LockerMap.find_put_some _ _ x l hl
  refine ⟨fun hd => ?_, fun hd => ?_⟩
  · have hexec : exec (.lockerServiceOut tag body) s
        = .next (runOrder .lockerService tag body (lockerService (u16At body 0) (byteAt body 2)) s) := by
      simp [exec, execLockerServiceOut, hd]
    have hu : lockerService (u16At body 0) (byteAt body 2) (popOrder s)
        = done (serviceBody (u16At body 0) (serviceOut (u16At body 0) l (popOrder s)))
            (serviceOut (u16At body 0) l (popOrder s)) := by
      simp only [lockerService, popOrder_keeps, hl, hd]
    refine ⟨_, hexec.trans (next_runOrder_done h hu), ?_, fun m hm => ?_, KeepsAllBut.ofOrder ?_ (by simp) _⟩
    · rw [(placeAnswer_keeps _ _).2.2.1, serviceOut_lmu]
      exact hfind l.servicedOut
    · simpa [serviceOut_lmu] using LockerMap.find_put_other _ _ _ l.servicedOut hm
    · simp [keepsAllBut_iff]
  · have hexec : exec (.lockerServiceIn tag body) s
        = .next (runOrder .lockerService tag body (lockerService (u16At body 0) (byteAt body 2)) s) := by
      simp [exec, execLockerServiceIn, hd]
    have hu : lockerService (u16At body 0) (byteAt body 2) (popOrder s)
        = done (serviceBody (u16At body 0) (serviceIn (u16At body 0) l (popOrder s)))
            (serviceIn (u16At body 0) l (popOrder s)) := by
      simp only [lockerService, popOrder_keeps, hl, hd]
    refine ⟨_, hexec.trans (next_runOrder_done h hu), ?_, fun m hm => ?_, KeepsAllBut.ofOrder ?_ (by simp) _⟩
    · rw [(placeAnswer_keeps _ _).2.2.1, serviceIn_lmu]
      exact hfind l.servicedIn
    · simpa [serviceIn_lmu] using LockerMap.find_put_other _ _ _ l.servicedIn hm
    · simp [keepsAllBut_iff]

/-! ## LOCKER WINDOW LOAD (R42, R43) -/

theorem Locker.load_eq (l : Locker) (a : WindowArgs) : l.load a = { l with
    retention := if a.retention = 0 then .single else if a.retention = 1 then .visit else l.retention
    staffOnly := if a.staffOnly = 0 then false else if a.staffOnly = 1 then true else l.staffOnly } := by
  simp only [Locker.load]
  congr 1 <;> split <;> simp_all

theorem Locker.loadedBy_eq (l : Locker) (a : WindowArgs) :
    l.loadedBy a
      = if a.inService = 0 then (l.load a).servicedOut else if a.inService = 1 then (l.load a).servicedIn else l.load a := by
  rw [Locker.load_eq]; rfl

theorem Locker.load_load (l : Locker) (a : WindowArgs) : (l.load a).load a = l.load a := by
  simp only [Locker.load_eq]
  congr 1
  · by_cases h0 : a.retention = 0 <;> by_cases h1 : a.retention = 1 <;> simp [h0, h1]
  · by_cases h0 : a.staffOnly = 0 <;> simp [h0]

theorem Locker.act_load (l : Locker) (st : LockerState) (a : WindowArgs) : (l.act st).load a = (l.load a).act st := by
  by_cases hs : l.state = .unreachable <;> simp [Locker.act, Locker.load, hs]

theorem Locker.acting_act (l : Locker) (st : LockerState) (h : st ≠ .unreachable) : (l.act st).acting = st := by
  by_cases hs : l.state = .unreachable <;> simp [Locker.act, Locker.acting, hs, h]

/-- Loading the attributes again, beside a service, changes no more. -/
theorem Locker.load_servicedOut (l : Locker) (a : WindowArgs) : l.servicedOut.load a = (l.load a).servicedOut := by
  have hacting : (l.load a).acting = l.acting := rfl
  simp only [Locker.servicedOut, hacting]
  split
  · exact Locker.act_load _ _ _
  · split <;> rfl

theorem Locker.load_servicedIn (l : Locker) (a : WindowArgs) : l.servicedIn.load a = (l.load a).servicedIn := by
  have hacting : (l.load a).acting = l.acting := rfl
  simp only [Locker.servicedIn, hacting]
  split
  · exact Locker.act_load _ _ _
  · rfl

theorem Locker.servicedOut_servicedOut (l : Locker) : l.servicedOut.servicedOut = l.servicedOut := by
  by_cases hv : l.acting = .vacant
  · have hl : l.servicedOut = { l with inService := false }.act .outOfService := by simp [Locker.servicedOut, hv]
    have ha : l.servicedOut.acting = .outOfService := by rw [hl]; exact Locker.acting_act _ _ nofun
    rw [Locker.servicedOut, ha, if_neg nofun, if_pos rfl, hl]
    by_cases hs : l.state = .unreachable <;> simp [Locker.act, hs]
  · by_cases ho : l.acting = .outOfService
    · have hl : l.servicedOut = { l with inService := false } := by simp [Locker.servicedOut, ho]
      have ha : l.servicedOut.acting = .outOfService := by rw [hl]; exact ho
      rw [Locker.servicedOut, ha, if_neg nofun, if_pos rfl, hl]
    · have hl : l.servicedOut = { l with inService := false, pendingOut := true } := by simp [Locker.servicedOut, hv, ho]
      have ha : l.servicedOut.acting = l.acting := by rw [hl]; rfl
      rw [Locker.servicedOut, ha, if_neg hv, if_neg ho, hl]

theorem Locker.servicedIn_servicedIn (l : Locker) : l.servicedIn.servicedIn = l.servicedIn := by
  by_cases ho : l.acting = .outOfService
  · have hl : l.servicedIn = { l with inService := true, pendingOut := false }.act .vacant := by simp [Locker.servicedIn, ho]
    have ha : l.servicedIn.acting = .vacant := by rw [hl]; exact Locker.acting_act _ _ nofun
    rw [Locker.servicedIn, ha, if_neg nofun, hl]
    by_cases hs : l.state = .unreachable <;> simp [Locker.act, hs]
  · have hl : l.servicedIn = { l with inService := true, pendingOut := false } := by simp [Locker.servicedIn, ho]
    have ha : l.servicedIn.acting = l.acting := by rw [hl]; rfl
    rw [Locker.servicedIn, ha, if_neg ho, hl]

theorem Locker.loadedBy_loadedBy (l : Locker) (a : WindowArgs) : (l.loadedBy a).loadedBy a = l.loadedBy a := by
  rw [Locker.loadedBy_eq, Locker.loadedBy_eq]
  split
  · rw [Locker.load_servicedOut, Locker.load_load, Locker.servicedOut_servicedOut]
  · split
    · rw [Locker.load_servicedIn, Locker.load_load, Locker.servicedIn_servicedIn]
    · exact Locker.load_load l a

theorem windowLocker_lmu (a : WindowArgs) (s : State) (n : Nat) (l : Locker) (hl : s.lmu.find n = some l) :
    (windowLocker a s n).lmu = s.lmu.put n (l.loadedBy a) := by
  simp only [windowLocker, hl, Locker.loadedBy_eq]
  split
  · next h0 => rw [serviceOut_lmu, if_pos h0]
  · next h1 => rw [serviceIn_lmu, if_neg (by omega), if_pos h1]
  · next h0 h1 => rw [putLocker_lmu, if_neg h0, if_neg h1]

theorem windowLocker_find_self (a : WindowArgs) (s : State) (n : Nat) :
    (windowLocker a s n).lmu.find n = (s.lmu.find n).map (fun l => l.loadedBy a) := by
  cases hl : s.lmu.find n with
  | none => simp [windowLocker, hl]
  | some l => rw [windowLocker_lmu a s n l hl, LockerMap.find_put_some _ _ _ _ hl, Option.map_some]

theorem windowLocker_find_other (a : WindowArgs) (s : State) (n m : Nat) (hm : m ≠ n) :
    (windowLocker a s n).lmu.find m = s.lmu.find m := by
  cases hl : s.lmu.find n with
  | none => simp [windowLocker, hl]
  | some l => rw [windowLocker_lmu a s n l hl, LockerMap.find_put_other _ _ _ _ hm]

/-- The map with the lockers of a window loaded. -/
def windowLoaded (a : WindowArgs) (s : State) : State := (s.lmu.numbers.filter (inWindow a)).foldl (windowLocker a) s

/-- The lockers of the window are loaded, and no other (R43). -/
theorem windowLoaded_find (a : WindowArgs) (s : State) (n : Nat) :
    (windowLoaded a s).lmu.find n = if inWindow a n then (s.lmu.find n).map (fun l => l.loadedBy a) else s.lmu.find n := by
  rw [windowLoaded, foldl_entries (fun t m => t.lmu.find m) (windowLocker a) (fun l => l.loadedBy a)
    (windowLocker_find_self a) (windowLocker_find_other a) (fun l => l.loadedBy_loadedBy a)]
  cases hl : s.lmu.find n with
  | none => simp
  | some l => simp [LockerMap.mem_numbers hl]

/-- What LOCKER WINDOW LOAD counts: a change of in-service, retention, staff-only or the pending mark (R43). -/
theorem attributesDiffer_iff (a : WindowArgs) (s : State) (n : Nat) :
    attributesDiffer s (windowLoaded a s) n
      = decide ((s.lmu.find n).map (fun l => (l.inService, l.retention, l.staffOnly, l.pendingOut))
          ≠ ((windowLoaded a s).lmu.find n).map (fun l => (l.inService, l.retention, l.staffOnly, l.pendingOut))) := by
  have hsome : ((windowLoaded a s).lmu.find n).isSome = (s.lmu.find n).isSome := by
    rw [windowLoaded_find]; split <;> simp
  unfold attributesDiffer
  cases hs : s.lmu.find n with
  | none =>
    have ht : (windowLoaded a s).lmu.find n = none := by simpa [hs] using hsome
    simp [ht]
  | some l =>
    obtain ⟨l', ht⟩ := Option.isSome_iff_exists.mp (hsome.trans (by simp [hs]))
    simp only [ht, Option.map_some]
    simp [Bool.or_assoc]

theorem Locker.loadedBy_fields (l : Locker) (a : WindowArgs) :
    (l.loadedBy a).retention = (if a.retention = 0 then .single else if a.retention = 1 then .visit else l.retention)
      ∧ (l.loadedBy a).staffOnly = (if a.staffOnly = 0 then false else if a.staffOnly = 1 then true else l.staffOnly)
      ∧ (l.loadedBy a).inService = (if a.inService = 0 then false else if a.inService = 1 then true else l.inService)
      ∧ (l.loadedBy a).holder = l.holder ∧ (l.loadedBy a).claimRetention = l.claimRetention := by
  have hact : ∀ (k : Locker) st, (k.act st).retention = k.retention ∧ (k.act st).staffOnly = k.staffOnly
      ∧ (k.act st).inService = k.inService ∧ (k.act st).holder = k.holder ∧ (k.act st).claimRetention = k.claimRetention :=
    fun k st => by unfold Locker.act; split <;> simp
  unfold Locker.loadedBy
  dsimp only
  (repeat' split) <;> simp_all

theorem lockerWindowLoad_done (a : WindowArgs) (s : State) (h : windowOutOfRange a s.lmu.banks.length = false) :
    lockerWindowLoad a s
      = done (.windowCount (s.lmu.numbers.filter (attributesDiffer s (windowLoaded a s))).length) (windowLoaded a s) := by
  simp [lockerWindowLoad, h, windowLoaded]

/-- Settles O29. -/
theorem lockerAttributesLoaded : Obligations.LockerAttributesLoaded := by
  refine ⟨?reset, ?load, ?range, ?count⟩
  case reset =>
    intro tag body s l h hl
    have hu : resetUseCount (u16At body 0) (popOrder s)
        = done .none (putLocker (u16At body 0) { l with useCount := 0, serviceNotified := false } (popOrder s)) := by
      simp only [resetUseCount, popOrder_keeps, hl]
    exact ⟨_, next_runOrder_done h hu, answered_placeAnswer _ _, LockerMap.find_put_some _ _ _ l hl,
      fun m hm => LockerMap.find_put_other _ _ _ _ hm, KeepsAllBut.ofOrder (by simp [keepsAllBut_iff]) (by simp) _⟩
  case load =>
    intro tag body s h hr
    refine ⟨_, next_runOrder_done h (lockerWindowLoad_done _ (popOrder s) hr), fun n hn => ?_, fun n l l' hn hl hl' => ?_,
      KeepsAllBut.ofOrder (by simp [keepsAllBut_iff, windowLoaded]) (by simp) _⟩
    · rw [(placeAnswer_keeps _ _).2.2.1, windowLoaded_find, hn, if_neg nofun, (popOrder_keeps s).2.2.1]
    · rw [(placeAnswer_keeps _ _).2.2.1, windowLoaded_find, hn, if_pos rfl, (popOrder_keeps s).2.2.1, hl, Option.map_some,
        Option.some.injEq] at hl'
      exact hl' ▸ l.loadedBy_fields _
  case range =>
    intro tag body s h hr
    exact next_runOrder_refused h (by simp [lockerWindowLoad, hr])
  case count =>
    intro tag body s h hr
    refine ⟨_, next_runOrder_done h (lockerWindowLoad_done _ (popOrder s) hr), fun n l hn hl _ => ?_, ?_⟩
    · rw [(placeAnswer_keeps _ _).2.2.1, windowLoaded_find, hn, if_pos rfl, (popOrder_keeps s).2.2.1, hl, Option.map_some]
    · rw [funext (attributesDiffer_iff (windowArgs body) (popOrder s))]
      exact answered_placeAnswer _ _

end Sys2Proof.Machine

/-! The timers of lockers and lanes (R34, R46, R114, R116), at the second a command takes them and at every second that passes. -/
namespace Sys2Proof.Machine

/-! ## Sweeps at one second -/

/-- A sweep whose visit of an entry changes that entry alone, by a rule that holds wherever an invariant of the sweep does, and
changes it no further at a second visit. -/
theorem foldl_entries_of {α : Type} (I : State → Prop) (get : State → Nat → Option α) (f : State → Nat → State) (φ : α → α)
    (hI : ∀ t n, I t → I (f t n)) (hself : ∀ t n, I t → get (f t n) n = (get t n).map φ)
    (hother : ∀ t n m, m ≠ n → get (f t n) m = get t m) (hidem : ∀ x, φ (φ x) = φ x) (l : List Nat) (s : State) (hs : I s)
    (m : Nat) : get (l.foldl f s) m = if m ∈ l then (get s m).map φ else get s m := by
  induction l generalizing s with
  | nil => simp
  | cons n l ih =>
    rw [List.foldl_cons, ih _ (hI s n hs)]
    by_cases hmn : m = n
    · subst hmn
      have hφ : φ ∘ φ = φ := funext hidem
      by_cases hm : m ∈ l <;> simp [hself _ _ hs, hm, hφ]
    · simp [hother _ _ _ hmn, hmn]

/-! ## The opening window of a locker (R34, R46) -/

/-- A locker whose opening window is over: Held with a holder and Orphaned without, or remembering that. -/
def Locker.windowOver (l : Locker) : Locker :=
  { l with openedBy := none, openingExpiry := none }.act (if l.holder.isSome then .held else .orphaned)

/-- A locker once the timers of a second have been taken. -/
def Locker.afterSecond (second : Nat) (l : Locker) : Locker :=
  if l.acting = .opening ∧ l.openingExpiry = some second then l.windowOver else l

theorem Locker.windowOver_acting (l : Locker) : l.windowOver.acting ≠ .opening := by
  rw [Locker.windowOver, Locker.acting_act _ _ (by split <;> simp)]
  split <;> simp

theorem Locker.afterSecond_of_expiry {l : Locker} {x second : Nat} (hx : l.openingExpiry = some x) (h : second ≠ x) :
    l.afterSecond second = l := by
  have hne : ¬x = second := fun he => h he.symm
  simp [Locker.afterSecond, hx, hne]

theorem Locker.afterSecond_at {l : Locker} {x : Nat} (ha : l.acting = .opening) (hx : l.openingExpiry = some x) :
    l.afterSecond x = l.windowOver := by simp [Locker.afterSecond, ha, hx]

theorem Locker.afterSecond_windowOver (l : Locker) (second : Nat) : l.windowOver.afterSecond second = l.windowOver := by
  simp [Locker.afterSecond, l.windowOver_acting]

theorem Locker.afterSecond_afterSecond (l : Locker) (second : Nat) :
    (l.afterSecond second).afterSecond second = l.afterSecond second := by
  by_cases h : l.acting = .opening ∧ l.openingExpiry = some second
  · have hl : l.afterSecond second = l.windowOver := if_pos h
    rw [hl, Locker.afterSecond_windowOver]
  · have hl : l.afterSecond second = l := if_neg h
    rw [hl, hl]

theorem takeOpeningExpiry_find_self (s : State) (n : Nat) :
    (takeOpeningExpiry n s).lmu.find n = (s.lmu.find n).map (Locker.afterSecond s.now) := by
  cases hl : s.lmu.find n with
  | none => simp [takeOpeningExpiry, hl]
  | some l =>
    by_cases h : l.acting = .opening ∧ l.openingExpiry = some s.now
    · simp [takeOpeningExpiry, hl, h, Locker.afterSecond, Locker.windowOver, LockerMap.find_put_some _ _ _ _ hl]
    · simp [takeOpeningExpiry, hl, h, Locker.afterSecond]

theorem takeOpeningExpiry_find_other (s : State) (n m : Nat) (hm : m ≠ n) :
    (takeOpeningExpiry n s).lmu.find m = s.lmu.find m := by
  unfold takeOpeningExpiry
  (repeat' split) <;> simp [LockerMap.find_put_other _ _ _ _ hm]

/-! ## The quote window and the pass window of a lane (R114, R116) -/

/-- A lane whose quote has expired at a second: Idle, or remembering that, with the expiry held as its last. -/
def Lane.quoteOver (second : Nat) (e : Lane) : Lane :=
  { e with band := none, quoteAmount := none, quoteExpiry := none, lastExpiry := e.band.map (fun b => (b, second)) }.act .idle

/-- A lane whose pass window is over: Idle, or remembering that. -/
def Lane.passOver (e : Lane) : Lane := { e with band := none, cause := none, passExpiry := none }.act .idle

/-- A lane once the quote timers of a second have been taken. -/
def Lane.afterQuotes (second : Nat) (e : Lane) : Lane :=
  if e.acting = .holding ∧ e.quoteExpiry = some second then e.quoteOver second else e

/-- A lane once the pass timers of a second have been taken. -/
def Lane.afterPasses (second : Nat) (e : Lane) : Lane :=
  if e.acting = .passing ∧ e.passExpiry = some second then e.passOver else e

theorem Lane.act_idle_acting (e : Lane) : (e.act .idle).acting = .idle := by
  rcases e.acting_act .idle with h | h
  · exact h
  · exact absurd h.2 nofun

theorem Lane.afterQuotes_of_not_holding {e : Lane} (second : Nat) (h : e.acting ≠ .holding) : e.afterQuotes second = e := by
  simp [Lane.afterQuotes, h]

theorem Lane.afterPasses_of_not_passing {e : Lane} (second : Nat) (h : e.acting ≠ .passing) : e.afterPasses second = e := by
  simp [Lane.afterPasses, h]

theorem Lane.quoteOver_acting (e : Lane) (second : Nat) : (e.quoteOver second).acting = .idle := Lane.act_idle_acting _

theorem Lane.passOver_acting (e : Lane) : e.passOver.acting = .idle := Lane.act_idle_acting _

theorem Lane.afterQuotes_afterQuotes (e : Lane) (second : Nat) :
    (e.afterQuotes second).afterQuotes second = e.afterQuotes second := by
  by_cases h : e.acting = .holding ∧ e.quoteExpiry = some second
  · have he : e.afterQuotes second = e.quoteOver second := if_pos h
    rw [he, Lane.afterQuotes_of_not_holding _ (by simp [e.quoteOver_acting])]
  · have he : e.afterQuotes second = e := if_neg h
    rw [he, he]

theorem Lane.afterPasses_afterPasses (e : Lane) (second : Nat) :
    (e.afterPasses second).afterPasses second = e.afterPasses second := by
  by_cases h : e.acting = .passing ∧ e.passExpiry = some second
  · have he : e.afterPasses second = e.passOver := if_pos h
    rw [he, Lane.afterPasses_of_not_passing _ (by simp [e.passOver_acting])]
  · have he : e.afterPasses second = e := if_neg h
    rw [he, he]

/-- The quote timer of a lane, where it is reached (R114). -/
theorem takeQuoteExpiry_taken {l : Nat} {e : Lane} {s : State} (he : s.xlu.find l = some e) (ha : e.acting = .holding)
    (hx : e.quoteExpiry = some s.now) :
    takeQuoteExpiry l s = announceEnd l e .window (giveBackQuote l e (e.band.map (fun b => (b, s.now))) s) := by
  simp [takeQuoteExpiry, he, ha, hx]

/-- The pass timer of a lane, where it is reached (R116). -/
theorem takePassExpiry_taken {l : Nat} {e : Lane} {s : State} (he : s.xlu.find l = some e) (ha : e.acting = .passing)
    (hx : e.passExpiry = some s.now) : takePassExpiry l s = raiseNotice (.noPass l e.band e.cause) (endPass l e s) := by
  simp [takePassExpiry, he, ha, hx]

theorem takeQuoteExpiry_find_self (s : State) (l : Nat) :
    (takeQuoteExpiry l s).xlu.find l = (s.xlu.find l).map (Lane.afterQuotes s.now) := by
  cases he : s.xlu.find l with
  | none => simp [takeQuoteExpiry, he]
  | some e =>
    by_cases h : e.acting = .holding ∧ e.quoteExpiry = some s.now
    · rw [takeQuoteExpiry_taken he h.1 h.2]
      simp [giveBackQuote_xlu, he, Lane.afterQuotes, h, Lane.quoteOver]
    · simp [takeQuoteExpiry, he, h, Lane.afterQuotes]

theorem takeQuoteExpiry_find_other (s : State) (l m : Nat) (hm : m ≠ l) : (takeQuoteExpiry l s).xlu.find m = s.xlu.find m := by
  unfold takeQuoteExpiry
  (repeat' split) <;> simp [giveBackQuote_xlu, hm]

theorem takePassExpiry_find_self (s : State) (l : Nat) :
    (takePassExpiry l s).xlu.find l = (s.xlu.find l).map (Lane.afterPasses s.now) := by
  cases he : s.xlu.find l with
  | none => simp [takePassExpiry, he]
  | some e =>
    by_cases h : e.acting = .passing ∧ e.passExpiry = some s.now
    · rw [takePassExpiry_taken he h.1 h.2]
      simp [endPass, he, Lane.afterPasses, h, Lane.passOver]
    · simp [takePassExpiry, he, h, Lane.afterPasses]

theorem takePassExpiry_find_other (s : State) (l m : Nat) (hm : m ≠ l) : (takePassExpiry l s).xlu.find m = s.xlu.find m := by
  unfold takePassExpiry
  (repeat' split) <;> simp [endPass, hm]

/-! ## A timer's command at the timer's own second -/

/-- A timer that names the present second is taken as the clock stands (R125). -/
theorem runToTimer_now (act : State → State) (s : State) : runToTimer (some s.now) act s = act s := by
  have hzero : secondsUntil s.now s.now = 0 := by
    rw [secondsUntil, Nat.add_sub_cancel_left, Nat.mod_self]
  rw [runToTimer, hzero, runClock]

/-- Settles O43. -/
theorem openingAndLaneWindowsEnd : Obligations.OpeningAndLaneWindowsEnd := by
  refine ⟨?opening, ?quote, ?pass⟩
  case opening =>
    intro n l s hl ha hx
    have hexec : exec (.openingExpiry n) s = .next (takeOpeningExpiry n s) := by
      have htimer : openingExpiryOf n s = some s.now := by simp [openingExpiryOf, hl, ha, hx, State.now]
      simp only [exec, execOpeningExpiry, htimer, runToTimer_now]
    refine ⟨_, hexec, ?_, fun m hm => takeOpeningExpiry_find_other s n m hm, by simp [keepsAllBut_iff]⟩
    rw [takeOpeningExpiry_find_self, hl, Option.map_some, State.now_eq, Locker.afterSecond_at ha hx]
    rfl
  case quote =>
    intro l e b r s he ha hx hb hr
    have hexec : exec (.quoteExpiry l) s = .next (takeQuoteExpiry l s) := by
      have htimer : laneTimer l .holding (·.quoteExpiry) s = some s.now := by simp [laneTimer, he, ha, hx, State.now]
      simp only [exec, execQuoteExpiry, htimer, runToTimer_now]
    have htaken := takeQuoteExpiry_taken he ha hx
    have hbdr : (takeQuoteExpiry l s).bdr = s.bdr.update b (fun r => { r with state := .inside, quote := none }) := by
      rw [htaken, (announceEnd_keeps _ _ _ _).2.1, giveBackQuote_bdr, hb, unquote, updateBand_bdr]
    refine ⟨_, hexec, ?_, fun m hm => takeQuoteExpiry_find_other s l m hm, ?_, fun x hx => ?_, ?_, by simp [keepsAllBut_iff]⟩
    · simp [takeQuoteExpiry_find_self, he, Lane.afterQuotes, ha, hx, Lane.quoteOver, hb, State.now]
    · simp [hbdr, hr]
    · simp [hbdr, hx]
    · simp [htaken, announceEnd, hb, NoticeContent.cls, NoticeClass.code]
  case pass =>
    intro l e s he ha hx
    have hexec : exec (.passExpiry l) s = .next (takePassExpiry l s) := by
      have htimer : laneTimer l .passing (·.passExpiry) s = some s.now := by simp [laneTimer, he, ha, hx, State.now]
      simp only [exec, execPassExpiry, htimer, runToTimer_now]
    refine ⟨_, hexec, ?_, fun m hm => takePassExpiry_find_other s l m hm, ?_, by simp [keepsAllBut_iff]⟩
    · simp [takePassExpiry_find_self, he, Lane.afterPasses, ha, hx, Lane.passOver, State.now]
    · simp [takePassExpiry_taken he ha hx, NoticeContent.cls, NoticeClass.code]

end Sys2Proof.Machine

/-! ADJUST CLOCK (R126, R128): the counter, the boundaries, the tariff bank, the timers passed over, and the cabins counted. -/
namespace Sys2Proof.Machine

/-! ## Conditions stay latched (R156) -/

/-- Every condition bit that is set stays set. -/
def Conditions.Within (c c' : Conditions) : Prop := ∀ i, c.bits.getLsbD i = true → c'.bits.getLsbD i = true

@[simp] theorem Conditions.Within.refl (c : Conditions) : c.Within c := fun _ h => h

section
variable {c : Conditions} {s : State}

@[simp] theorem Conditions.Within.latch {c' : Conditions} (h : c.Within c') (k : NoticeClass) : c.Within (c'.latch k) :=
  fun i hi => by simp [h i hi]

theorem overCabins_within (h : c.Within s.cnu) (f : Nat → State → State) (hf : ∀ n t, c.Within t.cnu → c.Within (f n t).cnu) :
    c.Within (overCabins f s).cnu :=
  List.foldlRecOn _ _ (motive := fun t : State => c.Within t.cnu) h fun t ht n _ => hf n t ht

theorem overLanes_within (h : c.Within s.cnu) (f : Nat → State → State) (hf : ∀ n t, c.Within t.cnu → c.Within (f n t).cnu) :
    c.Within (overLanes f s).cnu :=
  List.foldlRecOn _ _ (motive := fun t : State => c.Within t.cnu) h fun t ht n _ => hf n t ht

@[simp] theorem takeOfferExpiry_within (h : c.Within s.cnu) (n : Nat) : c.Within (takeOfferExpiry n s).cnu := by
  have hmiss : ∀ k e, c.Within (missOffer n k e s).cnu := fun k e => by
    rw [missOffer, (allocate_keeps _ _).2.2.2.2.2.2]
    simp only [raiseNotice_cnu]
    refine Conditions.Within.latch ?_ _
    split <;> simpa using h
  unfold takeOfferExpiry
  (repeat' split) <;> simp [hmiss, h]

@[simp] theorem takeAbandonment_within (h : c.Within s.cnu) (n : Nat) : c.Within (takeAbandonment n s).cnu := by
  unfold takeAbandonment; (repeat' split) <;> simp [abandonCabin, h]

@[simp] theorem takeQuoteExpiry_within (h : c.Within s.cnu) (l : Nat) : c.Within (takeQuoteExpiry l s).cnu := by
  unfold takeQuoteExpiry announceEnd; (repeat' split) <;> simp [h]

@[simp] theorem takePassExpiry_within (h : c.Within s.cnu) (l : Nat) : c.Within (takePassExpiry l s).cnu := by
  unfold takePassExpiry; (repeat' split) <;> simp [h]

@[simp] theorem countCabin_within (h : c.Within s.cnu) (n : Nat) : c.Within (countCabin n s).cnu := by
  unfold countCabin; dsimp only; (repeat' split) <;> simp [h]

@[simp] theorem raiseBoundary_within (h : c.Within s.cnu) (minute : Nat) : c.Within (raiseBoundary minute s).cnu := by
  have hcount : c.Within (countOccupancy s).cnu := overCabins_within h _ fun n t ht => countCabin_within ht n
  unfold raiseBoundary swapTariff
  split <;> simp [hcount]

/-- What is reached at a second clears no condition. -/
@[simp] theorem takeDue_within (h : c.Within s.cnu) : c.Within (takeDue s).cnu := by
  have hlockers : (s.lmu.numbers.foldl (fun t n => takeOpeningExpiry n t) s).cnu = s.cnu := by simp
  have hwatches : ∀ (ws : List Watch) (t : State), (ws.foldl (fun t w => takeWatchExpiry w.tag t) t).cnu = t.cnu :=
    fun ws t => by simp
  simp only [takeDue, hwatches, takeEntryTimers_keeps]
  refine overLanes_within (overLanes_within (overCabins_within (overCabins_within (overCabins_within (overCabins_within
    (hlockers ▸ h) _ ?_) _ ?_) _ ?_) _ ?_) _ ?_) _ ?_
  all_goals exact fun n t ht => by simp [ht]

end

/-! ## The second that passes on a forward change (R126) -/

theorem advanceSecond_sck (s : State) (h : s.sck.counter + 1 < 86400) :
    (advanceSecond s).sck = { s.sck with counter := s.sck.counter + 1 } := by
  have hday : ¬Config.daySeconds ≤ s.now + 1 := by simp only [Config.daySeconds, State.now]; omega
  rw [advanceSecond, if_neg hday]
  split <;> simp [State.now]

theorem advanceSecond_within (s : State) (h : s.sck.counter + 1 < 86400) : s.cnu.Within (advanceSecond s).cnu := by
  have hday : ¬Config.daySeconds ≤ s.now + 1 := by simp only [Config.daySeconds, State.now]; omega
  rw [advanceSecond, if_neg hday]
  split <;> simp

theorem adjustForward_sck (n : Nat) (s : State) (h : s.sck.counter + n < 86400) :
    (adjustForward n s).sck = { s.sck with counter := s.sck.counter + n } := by
  induction n generalizing s with
  | zero => rfl
  | succ n ih =>
    have hstep : (takeDue (advanceSecond s)).sck = { s.sck with counter := s.sck.counter + 1 } := by
      rw [(takeDue_keeps _).2.2.1, advanceSecond_sck s (by omega)]
    rw [adjustForward, ih _ (by rw [hstep]; show s.sck.counter + 1 + n < 86400; omega), hstep]
    simp only [SiteClock.mk.injEq, and_self, and_true]
    omega

theorem adjustForward_within (n : Nat) (s : State) (h : s.sck.counter + n < 86400) : s.cnu.Within (adjustForward n s).cnu := by
  induction n generalizing s with
  | zero => exact .refl _
  | succ n ih =>
    have hsck : (takeDue (advanceSecond s)).sck.counter + n < 86400 := by
      rw [(takeDue_keeps _).2.2.1, advanceSecond_sck s (by omega)]
      show s.sck.counter + 1 + n < 86400
      omega
    exact fun i hi => ih _ hsck i (takeDue_within (advanceSecond_within s (by omega)) i hi)

/-! ## The tariff bank (R86) -/

/-- A bank that is Complete has been put in force, and TariffSwitched set (R86). -/
def SwitchedTo (bank : List Byte) (s : State) : Prop :=
  s.tfs.live = some bank ∧ s.tfs.load = .empty ∧ s.cnu.bits.getLsbD 5 = true

theorem raiseBoundary_tfs_kept (minute : Nat) (s : State) (h : s.tfs.load ≠ .complete) :
    (raiseBoundary minute s).tfs = s.tfs := by simp [raiseBoundary, swapTariff, h]

theorem raiseBoundary_switches (minute : Nat) (s : State) (h : s.tfs.load = .complete) :
    SwitchedTo s.tfs.standby (raiseBoundary minute s) := by
  simp [SwitchedTo, raiseBoundary, swapTariff, h, NoticeContent.cls, NoticeClass.code]

theorem setCounter_tfs (counter : Nat) (s : State) : (setCounter counter s).tfs = s.tfs := rfl

/-- A second within its minute raises no boundary. -/
theorem advanceSecond_within_minute (s : State) (h : (s.sck.counter + 1) / 60 = s.sck.counter / 60)
    (hday : s.sck.counter + 1 < 86400) : advanceSecond s = setCounter (s.sck.counter + 1) s := by
  have hday' : ¬Config.daySeconds ≤ s.now + 1 := by simp only [Config.daySeconds, State.now]; omega
  have hmin : ¬(s.now + 1) % 60 = 0 := by simp only [State.now]; omega
  rw [advanceSecond, if_neg hday', if_neg hmin]
  rfl

/-- A second that begins a minute raises its boundary. -/
theorem advanceSecond_at_minute (s : State) (h : (s.sck.counter + 1) / 60 ≠ s.sck.counter / 60)
    (hday : s.sck.counter + 1 < 86400) :
    advanceSecond s = raiseBoundary ((s.sck.counter + 1) / 60) (setCounter (s.sck.counter + 1) s) := by
  have hday' : ¬Config.daySeconds ≤ s.now + 1 := by simp only [Config.daySeconds, State.now]; omega
  have hmin : (s.now + 1) % 60 = 0 := by simp only [State.now]; omega
  rw [advanceSecond, if_neg hday', if_pos hmin]
  rfl

theorem adjustForward_tfs_kept (n : Nat) (s : State) (hday : s.sck.counter + n < 86400)
    (h : s.tfs.load ≠ .complete ∨ (s.sck.counter + n) / 60 = s.sck.counter / 60) : (adjustForward n s).tfs = s.tfs := by
  induction n generalizing s with
  | zero => rfl
  | succ n ih =>
    have hsck : (takeDue (advanceSecond s)).sck.counter = s.sck.counter + 1 := by
      rw [(takeDue_keeps _).2.2.1, advanceSecond_sck s (by omega)]
    have htfs : (takeDue (advanceSecond s)).tfs = s.tfs := by
      rw [(takeDue_keeps _).2.1]
      by_cases hm : (s.sck.counter + 1) / 60 = s.sck.counter / 60
      · rw [advanceSecond_within_minute s hm (by omega)]; simp
      · have hload : s.tfs.load ≠ .complete := h.resolve_right (by omega)
        rw [advanceSecond_at_minute s hm (by omega), raiseBoundary_tfs_kept _ _ (by simpa using hload)]; simp
    rw [adjustForward, ih _ (by omega) (by rw [htfs, hsck]; exact h.imp_right fun hm => by omega), htfs]

theorem SwitchedTo.takeDue {bank : List Byte} {s : State} (h : SwitchedTo bank s) : SwitchedTo bank (takeDue s) := by
  obtain ⟨hlive, hload, hbit⟩ := h
  have htfs := (takeDue_keeps s).2.1
  exact ⟨by rw [htfs, hlive], by rw [htfs, hload], takeDue_within (.refl _) 5 hbit⟩

/-- A bank in force stays in force where none is Complete after it. -/
theorem SwitchedTo.forward {bank : List Byte} {s : State} (h : SwitchedTo bank s) (n : Nat) (hday : s.sck.counter + n < 86400) :
    SwitchedTo bank (adjustForward n s) := by
  obtain ⟨hlive, hload, hbit⟩ := h
  have htfs := adjustForward_tfs_kept n s hday (.inl (by simp [hload]))
  exact ⟨by rw [htfs, hlive], by rw [htfs, hload], adjustForward_within n s hday 5 hbit⟩

theorem adjustForward_switches (n : Nat) (s : State) (hday : s.sck.counter + n < 86400) (hload : s.tfs.load = .complete)
    (h : (s.sck.counter + n) / 60 ≠ s.sck.counter / 60) : SwitchedTo s.tfs.standby (adjustForward n s) := by
  induction n generalizing s with
  | zero => exact absurd rfl h
  | succ n ih =>
    have hsck : (takeDue (advanceSecond s)).sck.counter = s.sck.counter + 1 := by
      rw [(takeDue_keeps _).2.2.1, advanceSecond_sck s (by omega)]
    by_cases hm : (s.sck.counter + 1) / 60 = s.sck.counter / 60
    · have htfs : (takeDue (advanceSecond s)).tfs = s.tfs := by
        rw [(takeDue_keeps _).2.1, advanceSecond_within_minute s hm (by omega)]; simp
      have hlater := ih (takeDue (advanceSecond s)) (by omega) (by rw [htfs]; exact hload) (by omega)
      rw [htfs] at hlater
      rw [adjustForward]
      exact hlater
    · have hswitched : SwitchedTo s.tfs.standby (advanceSecond s) := by
        have hstandby := raiseBoundary_switches ((s.sck.counter + 1) / 60) (setCounter (s.sck.counter + 1) s)
          (by rw [setCounter_tfs]; exact hload)
        rw [setCounter_tfs] at hstandby
        rw [advanceSecond_at_minute s hm (by omega)]
        exact hstandby
      rw [adjustForward]
      exact hswitched.takeDue.forward n (by omega)

/-! ## The timers that a forward change passes over (R125, R128) -/

theorem takeDue_find_locker (s : State) (n : Nat) : (takeDue s).lmu.find n = (s.lmu.find n).map (Locker.afterSecond s.now) := by
  have hsweep := foldl_entries_of (fun t => t.sck = s.sck) (fun t m => t.lmu.find m) (fun t n => takeOpeningExpiry n t)
    (Locker.afterSecond s.now) (fun t n ht => by simpa using ht)
    (fun t n ht => by rw [takeOpeningExpiry_find_self, State.now_eq, State.now_eq, ht])
    (fun t n m => takeOpeningExpiry_find_other t n m) (fun l => l.afterSecond_afterSecond _) s.lmu.numbers s rfl n
  have hlmu : (takeDue s).lmu = (s.lmu.numbers.foldl (fun t n => takeOpeningExpiry n t) s).lmu := by simp [takeDue]
  rw [hlmu, hsweep]
  cases hl : s.lmu.find n with
  | none => simp
  | some l => simp [LockerMap.mem_numbers hl]

/-- The quote timers of a second, or its pass timers, at every lane. -/
theorem overLanes_find (f : Nat → State → State) (φ : Lane → Lane) (s : State) (hI : ∀ n t, (f n t).sck = t.sck)
    (hself : ∀ t n, t.sck = s.sck → (f n t).xlu.find n = (t.xlu.find n).map φ)
    (hother : ∀ t n m, m ≠ n → (f n t).xlu.find m = t.xlu.find m) (hidem : ∀ e, φ (φ e) = φ e) (l : Nat) :
    (overLanes f s).xlu.find l = (s.xlu.find l).map φ := by
  rw [overLanes, foldl_entries_of (fun t => t.sck = s.sck) (fun t m => t.xlu.find m) (fun t n => f n t) φ
    (fun t n ht => (hI n t).trans ht) hself hother hidem _ s rfl]
  cases he : s.xlu.find l with
  | none => simp
  | some e => simp [LaneUnit.lt_of_find he]

theorem takeDue_find_lane (s : State) (l : Nat) :
    (takeDue s).xlu.find l = (s.xlu.find l).map (fun e => (e.afterQuotes s.now).afterPasses s.now) := by
  obtain ⟨t, hxlu, hsck, htaken⟩ : ∃ t : State, t.xlu = s.xlu ∧ t.sck = s.sck
      ∧ (takeDue s).xlu = (overLanes takePassExpiry (overLanes takeQuoteExpiry t)).xlu :=
    ⟨overCabins takeAbandonment (overCabins takeCleaningExpiry (overCabins takeEntryExpiry (overCabins takeOfferExpiry
      (s.lmu.numbers.foldl (fun t n => takeOpeningExpiry n t) s)))), by simp, by simp, by simp [takeDue]⟩
  have hquotes : ∀ t : State, (overLanes takeQuoteExpiry t).xlu.find l = (t.xlu.find l).map (Lane.afterQuotes t.now) :=
    fun t => overLanes_find _ _ t (by simp) (fun u n hu => by rw [takeQuoteExpiry_find_self, State.now_eq, State.now_eq, hu])
      takeQuoteExpiry_find_other (fun e => e.afterQuotes_afterQuotes _) l
  have hpasses : ∀ t : State, (overLanes takePassExpiry t).xlu.find l = (t.xlu.find l).map (Lane.afterPasses t.now) :=
    fun t => overLanes_find _ _ t (by simp) (fun u n hu => by rw [takePassExpiry_find_self, State.now_eq, State.now_eq, hu])
      takePassExpiry_find_other (fun e => e.afterPasses_afterPasses _) l
  have hnow : (overLanes takeQuoteExpiry t).now = s.now := by rw [State.now_eq, State.now_eq, ← hsck]; simp
  rw [htaken, hpasses, hquotes, Option.map_map, hnow, hxlu, State.now_eq t, hsck, ← State.now_eq]
  rfl

/-- What a forward change does to an entry that only the timers of a second change: the seconds' changes in turn. -/
theorem adjustForward_sweep {α : Type} (get : State → Option α) (φ : Nat → α → α)
    (hdue : ∀ t, get (takeDue t) = (get t).map (φ t.sck.counter)) (hadvance : ∀ t, get (advanceSecond t) = get t) (n : Nat)
    (s : State) (hday : s.sck.counter + n < 86400) :
    get (adjustForward n (takeDue s)) =
      (get s).map (fun a => (List.range' s.sck.counter (n + 1)).foldl (fun a second => φ second a) a) := by
  induction n generalizing s with
  | zero => simp [adjustForward, hdue]
  | succ n ih =>
    have hsck : (advanceSecond (takeDue s)).sck.counter = s.sck.counter + 1 := by
      have hkept := (takeDue_keeps s).2.2.1
      rw [advanceSecond_sck _ (by rw [hkept]; omega), hkept]
    rw [adjustForward, ih _ (by omega), hadvance, hdue, hsck, Option.map_map, List.range'_succ (n := n + 1)]
    rfl

/-- No second of a list changes an entry that each of them leaves. -/
theorem foldl_seconds_stands {α : Type} {φ : Nat → α → α} {a : α} {l : List Nat} (h : ∀ y ∈ l, φ y a = a) :
    l.foldl (fun a second => φ second a) a = a := by
  induction l with
  | nil => rfl
  | cons y l ih => rw [List.foldl_cons, h y List.mem_cons_self, ih fun z hz => h z (List.mem_cons_of_mem y hz)]

/-- An entry with its timer at one second of a list is changed there and at no other. -/
theorem foldl_seconds_takes {α : Type} {φ : Nat → α → α} {a a' : α} {l : List Nat} {x : Nat} (hx : x ∈ l) (hat : φ x a = a')
    (hbefore : ∀ y, y ≠ x → φ y a = a) (hafter : ∀ y, φ y a' = a') : l.foldl (fun a second => φ second a) a = a' := by
  induction l with
  | nil => exact absurd hx List.not_mem_nil
  | cons y l ih =>
    rw [List.foldl_cons]
    by_cases hy : y = x
    · rw [hy, hat]; exact foldl_seconds_stands fun z _ => hafter z
    · rw [hbefore y hy]; exact ih ((List.mem_cons.mp hx).resolve_left (Ne.symm hy))

/-- An opening window that a forward change passes over is over; another stands (R34, R128). -/
theorem adjustForward_locker {n : Nat} {s : State} (hday : s.sck.counter + n < 86400) {k x : Nat} {l : Locker}
    (hl : s.lmu.find k = some l) (ha : l.acting = .opening) (hx : l.openingExpiry = some x) :
    (s.sck.counter < x → x ≤ s.sck.counter + n → (adjustForward n (takeDue s)).lmu.find k = some l.windowOver)
    ∧ (x < s.sck.counter ∨ s.sck.counter + n < x → (adjustForward n (takeDue s)).lmu.find k = some l) := by
  rw [adjustForward_sweep (fun t => t.lmu.find k) Locker.afterSecond (fun t => takeDue_find_locker t k)
    (fun t => by simp) n s hday, hl, Option.map_some, Option.some.injEq, Option.some.injEq]
  refine ⟨fun hlow hhigh => ?_, fun hout => ?_⟩
  · exact foldl_seconds_takes (List.mem_range'_1.mpr (by omega)) (Locker.afterSecond_at ha hx)
      (fun y hy => Locker.afterSecond_of_expiry hx hy) (fun y => l.afterSecond_windowOver y)
  · refine foldl_seconds_stands fun y hy => Locker.afterSecond_of_expiry hx fun heq => ?_
    have := List.mem_range'_1.mp hy
    omega

/-- A lane that holds for its quote, at a second: only the quote's own ends it. -/
theorem Lane.afterSecond_of_holding {e : Lane} {x : Nat} (ha : e.acting = .holding) (hx : e.quoteExpiry = some x) (y : Nat) :
    (e.afterQuotes y).afterPasses y = if y = x then e.quoteOver x else e := by
  by_cases hy : y = x
  · subst hy
    have hover : e.afterQuotes y = e.quoteOver y := if_pos ⟨ha, hx⟩
    rw [hover, Lane.afterPasses_of_not_passing _ (by simp [e.quoteOver_acting]), if_pos rfl]
  · have hstands : e.afterQuotes y = e := by simp [Lane.afterQuotes, hx, Ne.symm hy]
    rw [hstands, Lane.afterPasses_of_not_passing _ (by simp [ha]), if_neg hy]

/-- A quote window that a forward change passes over has expired; another stands (R114, R128). -/
theorem adjustForward_lane {n : Nat} {s : State} (hday : s.sck.counter + n < 86400) {k x : Nat} {e : Lane}
    (he : s.xlu.find k = some e) (ha : e.acting = .holding) (hx : e.quoteExpiry = some x) :
    (s.sck.counter < x → x ≤ s.sck.counter + n → (adjustForward n (takeDue s)).xlu.find k = some (e.quoteOver x))
    ∧ (x < s.sck.counter ∨ s.sck.counter + n < x → (adjustForward n (takeDue s)).xlu.find k = some e) := by
  have hsecond := Lane.afterSecond_of_holding ha hx
  rw [adjustForward_sweep (fun t => t.xlu.find k) (fun y e => (e.afterQuotes y).afterPasses y) (fun t => takeDue_find_lane t k)
    (fun t => by simp) n s hday, he, Option.map_some, Option.some.injEq, Option.some.injEq]
  refine ⟨fun hlow hhigh => ?_, fun hout => ?_⟩
  · refine foldl_seconds_takes (x := x) (List.mem_range'_1.mpr (by omega)) (by rw [hsecond, if_pos rfl])
      (fun y hy => by rw [hsecond, if_neg hy]) (fun y => ?_)
    have hidle := e.quoteOver_acting x
    rw [Lane.afterQuotes_of_not_holding _ (by simp [hidle]), Lane.afterPasses_of_not_passing _ (by simp [hidle])]
  · refine foldl_seconds_stands fun y hy => ?_
    have := List.mem_range'_1.mp hy
    exact (hsecond y).trans (if_neg (by omega))

/-! ## The cabins counted at each boundary (R67) -/

/-- A cabin counted once (R67). -/
def Cabin.counted (c : Cabin) : Cabin :=
  if c.acting = .occupied then
    if countDown c.counter = 0 then { c with counter := 0, overstayFlag := true } else { c with counter := countDown c.counter }
  else c

theorem countCabin_find_self (s : State) (n : Nat) : (countCabin n s).cbu.find n = (s.cbu.find n).map Cabin.counted := by
  cases hc : s.cbu.find n with
  | none => simp [countCabin, hc]
  | some c =>
    have hput : ∀ e, (s.cbu.put n e).find n = some e := fun e => CabinUnit.find_put_self _ _ _ _ hc
    by_cases hocc : c.acting = .occupied
    · by_cases hzero : countDown c.counter = 0 <;> simp [countCabin, hc, hocc, hzero, hput, Cabin.counted]
    · simp [countCabin, hc, hocc, Cabin.counted]

theorem countCabin_find_other (s : State) (n m : Nat) (hm : m ≠ n) : (countCabin n s).cbu.find m = s.cbu.find m := by
  unfold countCabin
  dsimp only
  (repeat' split) <;> simp [CabinUnit.find_put_other _ _ _ _ hm]

/-- A sweep that visits each entry once and changes it alone. -/
theorem foldl_entries_once {α : Type} (get : State → Nat → Option α) (f : State → Nat → State) (φ : Nat → α → α)
    (hself : ∀ t n, get (f t n) n = (get t n).map (φ n)) (hother : ∀ t n m, m ≠ n → get (f t n) m = get t m) {l : List Nat}
    (hl : l.Nodup) (s : State) (m : Nat) : get (l.foldl f s) m = if m ∈ l then (get s m).map (φ m) else get s m := by
  induction l generalizing s with
  | nil => simp
  | cons n l ih =>
    obtain ⟨hn, hl⟩ := List.nodup_cons.mp hl
    rw [List.foldl_cons, ih hl]
    by_cases hmn : m = n
    · subst hmn
      simp [hn, hself]
    · simp [hother _ _ _ hmn, hmn]

theorem raiseBoundary_find_cabin (minute : Nat) (s : State) (n : Nat) :
    (raiseBoundary minute s).cbu.find n = (s.cbu.find n).map Cabin.counted := by
  have hcbu : (raiseBoundary minute s).cbu = (countOccupancy s).cbu := by simp [raiseBoundary]
  rw [hcbu, countOccupancy, overCabins, foldl_entries_once (fun t m => t.cbu.find m) (fun t n => countCabin n t)
    (fun _ => Cabin.counted) countCabin_find_self countCabin_find_other List.nodup_range]
  cases hc : s.cbu.find n with
  | none => simp
  | some c => simp [CabinUnit.lt_of_find hc]

theorem Cabin.counted_occupied {c : Cabin} (h : c.acting = .occupied) :
    ∃ flag, c.counted = { c with counter := countDown c.counter, overstayFlag := flag } := by
  by_cases hzero : countDown c.counter = 0
  · exact ⟨true, by simp [Cabin.counted, h, hzero]⟩
  · exact ⟨c.overstayFlag, by simp [Cabin.counted, h, hzero]⟩

/-- An occupied cabin after `k` boundaries: its counter lower by `k`, stopping at −1,440, and the rest but the flag as it was. -/
theorem Cabin.counted_iterate_occupied {c : Cabin} (hocc : c.acting = .occupied) (hlow : -1440 ≤ c.counter) (k : Nat) :
    ∃ flag, Cabin.counted^[k] c = { c with counter := max (c.counter - k) (-1440), overstayFlag := flag } := by
  induction k with
  | zero => exact ⟨c.overstayFlag, by simp [hlow]⟩
  | succ k ih =>
    obtain ⟨flag, hk⟩ := ih
    have hdown : countDown (max (c.counter - k) (-1440)) = max (c.counter - (k + 1 : Nat)) (-1440) := by
      simp only [countDown]
      split <;> omega
    obtain ⟨flag', hstep⟩ := Cabin.counted_occupied
      (c := { c with counter := max (c.counter - k) (-1440), overstayFlag := flag }) hocc
    exact ⟨flag', by rw [Function.iterate_succ_apply', hk, hstep, hdown]⟩

theorem Cabin.counted_iterate_other {c : Cabin} (h : c.acting ≠ .occupied) (k : Nat) : Cabin.counted^[k] c = c :=
  Function.iterate_fixed (show c.counted = c from if_neg h) k

/-! ## The boundaries of a backward change (R126 (b), R128) -/

/-- The boundaries of some minutes, each at the first second of its minute. -/
def boundariesOf (minutes : List Nat) (s : State) : State :=
  minutes.foldl (fun t m => raiseBoundary m (setCounter (m * 60) t)) s

/-- The minutes that a backward change meets, the last first (R128). -/
def minutesBack (second : Nat) (s : State) : List Nat :=
  (List.range (minuteOf s.now - minuteOf second)).map (fun i => minuteOf s.now - 1 - i)

theorem adjustBack_eq (second : Nat) (s : State) :
    adjustBack second s = setCounter second (boundariesOf (minutesBack second s) s) := rfl

theorem minutesBack_length (second : Nat) (s : State) : (minutesBack second s).length = s.sck.counter / 60 - second / 60 := by
  simp [minutesBack, minuteOf, State.now_eq]

theorem boundariesOf_cons (m : Nat) (minutes : List Nat) (s : State) :
    boundariesOf (m :: minutes) s = boundariesOf minutes (raiseBoundary m (setCounter (m * 60) s)) := rfl

theorem boundariesOf_find_cabin (minutes : List Nat) (s : State) (n : Nat) :
    (boundariesOf minutes s).cbu.find n = (s.cbu.find n).map Cabin.counted^[minutes.length] := by
  induction minutes generalizing s with
  | nil => simp [boundariesOf]
  | cons m minutes ih =>
    rw [boundariesOf_cons, ih, raiseBoundary_find_cabin, (setCounter_keeps _ _).2.2.2.1, Option.map_map]
    rfl

theorem boundariesOf_tfs_kept (minutes : List Nat) (s : State) (h : s.tfs.load ≠ .complete ∨ minutes = []) :
    (boundariesOf minutes s).tfs = s.tfs := by
  induction minutes generalizing s with
  | nil => rfl
  | cons m minutes ih =>
    have hload := h.resolve_right (List.cons_ne_nil m minutes)
    have htfs : (raiseBoundary m (setCounter (m * 60) s)).tfs = s.tfs := by
      rw [raiseBoundary_tfs_kept _ _ (by rw [setCounter_tfs]; exact hload), setCounter_tfs]
    rw [boundariesOf_cons, ih _ (.inl (by rw [htfs]; exact hload)), htfs]

theorem boundariesOf_within {c : Conditions} (minutes : List Nat) (s : State) (h : c.Within s.cnu) :
    c.Within (boundariesOf minutes s).cnu :=
  List.foldlRecOn minutes _ (motive := fun t : State => c.Within t.cnu) h
    fun t ht m _ => raiseBoundary_within (by simpa using ht) m

theorem boundariesOf_switches (minutes : List Nat) (s : State) (hload : s.tfs.load = .complete) (h : minutes ≠ []) :
    SwitchedTo s.tfs.standby (boundariesOf minutes s) := by
  cases minutes with
  | nil => exact absurd rfl h
  | cons m minutes =>
    have hswitched := raiseBoundary_switches m (setCounter (m * 60) s) (by rw [setCounter_tfs]; exact hload)
    rw [setCounter_tfs] at hswitched
    rw [boundariesOf_cons]
    obtain ⟨hlive, hempty, hbit⟩ := hswitched
    have htfs := boundariesOf_tfs_kept minutes _ (.inl (by rw [hempty]; nofun))
    exact ⟨by rw [htfs, hlive], by rw [htfs, hempty], boundariesOf_within minutes _ (.refl _) 5 hbit⟩

@[simp] theorem raiseNotice_watches (content : NoticeContent) (s : State) :
    (raiseNotice content s).lkc.watches = s.lkc.watches := by
  simp only [raiseNotice]
  split <;> simp

@[simp] theorem moveCabin_lkc (n : Nat) (c : Cabin) (s : State) : (moveCabin n c s).lkc = (putCabin n c s).lkc := rfl

theorem countCabin_watches (n : Nat) (s : State) : (countCabin n s).lkc.watches = s.lkc.watches := by
  cases hc : s.cbu.find n with
  | none => simp [countCabin, hc]
  | some c =>
    by_cases hocc : c.acting = .occupied
    · by_cases hzero : countDown c.counter = 0 <;> simp [countCabin, hc, hocc, hzero]
    · simp [countCabin, hc, hocc]

theorem raiseBoundary_watches (minute : Nat) (s : State) : (raiseBoundary minute s).lkc.watches = s.lkc.watches := by
  have hcount : (countOccupancy s).lkc.watches = s.lkc.watches :=
    List.foldlRecOn _ _ (motive := fun t : State => t.lkc.watches = s.lkc.watches) rfl fun t ht n _ =>
      (countCabin_watches n t).trans ht
  unfold raiseBoundary swapTariff
  split <;> simp [hcount]

theorem boundariesOf_watches (minutes : List Nat) (s : State) : (boundariesOf minutes s).lkc.watches = s.lkc.watches :=
  List.foldlRecOn minutes _ (motive := fun t : State => t.lkc.watches = s.lkc.watches) rfl fun _ ht m _ =>
    (raiseBoundary_watches m _).trans ht

theorem boundariesOf_sck (minutes : List Nat) (s : State) (second : Nat) :
    { (boundariesOf minutes s).sck with counter := second } = { s.sck with counter := second } :=
  List.foldlRecOn minutes _ (motive := fun t : State => { t.sck with counter := second } = { s.sck with counter := second }) rfl
    fun t ht m _ => by rw [(raiseBoundary_keeps _ _).2.2.2.2.1]; exact ht

theorem adjustBack_sck (second : Nat) (s : State) : (adjustBack second s).sck = { s.sck with counter := second } :=
  boundariesOf_sck (minutesBack second s) s second

/-! ## The clock adjusted (R128) -/

section
variable {tag : Byte} {body : List Byte} {s : State}

theorem adjustTo_sck (second : Nat) (s : State) (h : second < 86400) :
    (adjustTo second s).sck = { s.sck with counter := second } := by
  unfold adjustTo
  by_cases hforward : s.now < second
  · have hkept := (takeDue_keeps s).2.2.1
    have hsum : s.sck.counter + (second - s.now) = second := by simp only [State.now_eq] at *; omega
    rw [if_pos hforward, adjustForward_sck _ _ (by rw [hkept]; omega), hkept, hsum]
  · rw [if_neg hforward]
    by_cases hback : second < s.now
    · rw [if_pos hback, adjustBack_sck]
    · have heq : second = s.sck.counter := by simp only [State.now_eq] at *; omega
      rw [if_neg hback, heq]

/-- A bank that is Complete is put in force where a minute is crossed, and no bank where none is (R86, R128). -/
theorem adjustTo_tfs (second : Nat) (s : State) (h : second < 86400) :
    (s.tfs.load = .complete → second / 60 ≠ s.sck.counter / 60 → SwitchedTo s.tfs.standby (adjustTo second s))
    ∧ (s.tfs.load ≠ .complete ∨ second / 60 = s.sck.counter / 60 → (adjustTo second s).tfs = s.tfs) := by
  have hsck := (takeDue_keeps s).2.2.1
  have htfs := (takeDue_keeps s).2.1
  unfold adjustTo
  rw [State.now_eq]
  by_cases hforward : s.sck.counter < second
  · have hsum : s.sck.counter + (second - s.sck.counter) = second := by omega
    rw [if_pos hforward, ← htfs]
    refine ⟨fun hload hminute => adjustForward_switches _ _ ?_ hload ?_, fun hkept => adjustForward_tfs_kept _ _ ?_ ?_⟩
    all_goals rw [hsck, hsum]
    all_goals assumption
  · rw [if_neg hforward]
    by_cases hback : second < s.sck.counter
    · have hlength := minutesBack_length second s
      rw [if_pos hback, adjustBack_eq, SwitchedTo, setCounter_tfs]
      refine ⟨fun hload hminute => boundariesOf_switches _ _ hload fun hnil => ?_, fun hkept =>
        boundariesOf_tfs_kept _ _ (hkept.imp_right fun hminute => List.length_eq_zero_iff.mp ?_)⟩
      · rw [hnil, List.length_nil] at hlength
        omega
      · omega
    · have heq : second = s.sck.counter := by omega
      rw [if_neg hback, heq]
      exact ⟨fun _ hminute => absurd rfl hminute, fun _ => rfl⟩

theorem popOrder_counter (s : State) : (popOrder s).now = s.sck.counter := rfl

/-- The adjustment in range, on a valid clock (R128). -/
theorem execAdjustClock_taken {b : Nat} (ht : Taken .adjustClock tag body s) (hlow : -300 ≤ s16At body 0)
    (hhigh : s16At body 0 ≤ 300) (hb : (b : Int) = s.sck.counter + s16At body 0) (hday : b ≤ 86399)
    (hvalid : s.sck.clockValid = true) :
    exec (.adjustClock tag body) s
      = .next (placeAnswer (doneAnswer tag (.clockAdjusted b)) (adjustTo b (popOrder s))) := by
  refine next_runOrder_done ht ?_
  have hrange : ¬((s16At body 0 < -300 || 300 < s16At body 0 || (popOrder s).now + s16At body 0 < 0
      || 86399 < (popOrder s).now + s16At body 0) = true) := by
    simp only [Bool.or_eq_true, decide_eq_true_eq]
    rw [popOrder_counter]
    omega
  have hclock : ¬((!(popOrder s).sck.clockValid) = true) := by simp [hvalid]
  have htarget : ((popOrder s).now + s16At body 0).toNat = b := by
    simp only [popOrder_counter]
    omega
  rw [adjustClock, if_neg hrange, if_neg hclock, htarget]

theorem execAdjustClock_range (ht : Taken .adjustClock tag body s) (hout : s16At body 0 < -300 ∨ 300 < s16At body 0
      ∨ s.sck.counter + s16At body 0 < 0 ∨ 86399 < s.sck.counter + s16At body 0) :
    exec (.adjustClock tag body) s = .next (placeAnswer (plainAnswer tag .range) (popOrder s)) := by
  refine next_runOrder_refused ht ?_
  rw [adjustClock, if_pos]
  simp only [Bool.or_eq_true, decide_eq_true_eq]
  rw [popOrder_counter]
  omega

theorem execAdjustClock_invalid (ht : Taken .adjustClock tag body s) (hlow : -300 ≤ s16At body 0) (hhigh : s16At body 0 ≤ 300)
    (hnonneg : 0 ≤ s.sck.counter + s16At body 0) (hday : s.sck.counter + s16At body 0 ≤ 86399)
    (hinvalid : s.sck.clockValid = false) :
    exec (.adjustClock tag body) s = .next (placeAnswer (plainAnswer tag .invalid) (popOrder s)) := by
  refine next_runOrder_refused ht ?_
  have hrange : ¬((s16At body 0 < -300 || 300 < s16At body 0 || (popOrder s).now + s16At body 0 < 0
      || 86399 < (popOrder s).now + s16At body 0) = true) := by
    simp only [Bool.or_eq_true, decide_eq_true_eq]
    rw [popOrder_counter]
    omega
  rw [adjustClock, if_neg hrange, if_pos (by simp [hinvalid])]

end

/-- The seconds of a forward change, one by one (R126). -/
theorem adjustForward_seconds (n : Nat) (u : State) (hday : u.sck.counter + 1 < 86400) :
    adjustForward 0 u = u
    ∧ ((u.sck.counter + 1) % 60 ≠ 0 → adjustForward (n + 1) u = adjustForward n (takeDue (setCounter (u.sck.counter + 1) u)))
    ∧ ((u.sck.counter + 1) % 60 = 0 →
      adjustForward (n + 1) u = adjustForward n (takeDue (swapTariff ((u.sck.counter + 1) / 60)
        (countOccupancy (setCounter (u.sck.counter + 1) u))))) := by
  refine ⟨rfl, fun hwithin => ?_, fun hminute => ?_⟩
  · rw [adjustForward, advanceSecond_within_minute u (by omega) hday]
  · rw [adjustForward, advanceSecond_at_minute u (by omega) hday, raiseBoundary]

/-- Settles O47: the counter and the bank by the whole change, each timer by the seconds passed over, each cabin by the number
of boundaries of a backward change. -/
theorem adjustClockMovesTheCounter : Obligations.AdjustClockMovesTheCounter := by
  refine ⟨?answers, ?effects, fun n u hday => adjustForward_seconds n u hday⟩
  case answers =>
    intro tag body s ht hclock
    refine ⟨fun hlow hhigh hnonneg hday hvalid => ?_, execAdjustClock_range ht, execAdjustClock_invalid ht⟩
    obtain ⟨b, hb⟩ := Int.eq_ofNat_of_zero_le hnonneg
    rw [hb] at hday ⊢
    have hsck : (adjustTo b (popOrder s)).sck = { s.sck with counter := b } := adjustTo_sck b (popOrder s) (by omega)
    refine ⟨_, execAdjustClock_taken ht hlow hhigh hb.symm (by omega) hvalid, ?_⟩
    rw [(placeAnswer_keeps _ _).2.2.2.2.2.2.1, hsck]
    exact ⟨rfl, hvalid, rfl, rfl, rfl, by simp, answered_placeAnswer _ _⟩
  case effects =>
    intro tag body s b ht hclock hlow hhigh hb hday hvalid
    have htfs := adjustTo_tfs b (popOrder s) (by omega)
    refine ⟨_, execAdjustClock_taken ht hlow hhigh hb hday hvalid, fun heq => ?same, htfs.1, htfs.2, fun hforward => ?forward,
      fun hback => ?back⟩
    case same =>
      have hto : adjustTo b (popOrder s) = popOrder s := by
        simp [adjustTo, State.now_eq, heq]
      rw [hto]
      exact KeepsAllBut.ofOrder (fun _ _ => by cases ‹Block› <;> rfl) (by simp) _
    case forward =>
      have hto : adjustTo b (popOrder s) = adjustForward (b - s.sck.counter) (takeDue (popOrder s)) := if_pos hforward
      have hsum : (popOrder s).sck.counter + (b - s.sck.counter) = b := by
        have : (popOrder s).sck.counter = s.sck.counter := rfl
        omega
      rw [hto]
      refine ⟨rfl, fun n l x hl ha hx => ?_, fun k e x w he ha hx hw => ?_⟩
      · have hlocker := adjustForward_locker (n := b - s.sck.counter) (by omega) (s := popOrder s) hl ha hx
        rw [hsum] at hlocker
        exact hlocker
      · have hlane := adjustForward_lane (n := b - s.sck.counter) (by omega) (s := popOrder s) he ha hx
        rw [hsum, Lane.quoteOver, hw] at hlane
        exact hlane
    case back =>
      have hto : adjustTo b (popOrder s) = adjustBack b (popOrder s) := by
        rw [adjustTo, popOrder_counter, if_neg (by omega), if_pos hback]
      rw [hto]
      refine ⟨rfl, fun n c hc => ?_, ?_, ?_⟩
      · have hfind : (adjustBack b (popOrder s)).cbu.find n = some (Cabin.counted^[s.sck.counter / 60 - b / 60] c) := by
          rw [adjustBack_eq, (setCounter_keeps _ _).2.2.2.1, boundariesOf_find_cabin, minutesBack_length]
          exact congrArg (Option.map _) hc
        refine ⟨_, hfind, fun hocc hlow => ?_, fun hother => Cabin.counted_iterate_other hother _⟩
        obtain ⟨flag, hcounted⟩ := Cabin.counted_iterate_occupied hocc hlow (s.sck.counter / 60 - b / 60)
        rw [hcounted]
        exact ⟨rfl, rfl⟩
      · exact KeepsAllBut.ofOrder (by simp [keepsAllBut_iff]) (by simp) _
      · simp [adjustBack_eq, boundariesOf_watches]

end Sys2Proof.Machine

/-! POLL (R137, R139, R144): the visit, what the poll carries, and the marks of its entries. -/
namespace Sys2Proof.Machine

/-! ## The entries a poll carries (R139) -/

/-- Keys, values and marks stand when the entries of a poll are marked as carried. -/
theorem markCarried_values (k : Nat) (l : List Entry) :
    (markCarried k l).map (fun e => (e.key, e.value, e.dirty)) = l.map (fun e => (e.key, e.value, e.dirty)) := by
  induction l generalizing k with
  | nil => cases k <;> rfl
  | cons e es ih =>
    cases k with
    | zero => rfl
    | succ k => unfold markCarried; split <;> simp [ih]

/-- Where no entry was carried, those carried are the first dirty ones, in the image order. -/
theorem markCarried_carried (k : Nat) (l : List Entry) (h : ∀ e ∈ l, e.carried = false) :
    (markCarried k l).filter (·.carried) = ((l.filter (·.dirty)).take k).map (fun e => { e with carried := true }) := by
  have hnone : ∀ l : List Entry, (∀ e ∈ l, e.carried = false) → l.filter (·.carried) = [] := fun l hl =>
    List.filter_eq_nil_iff.mpr fun e he => by simp [hl e he]
  induction l generalizing k with
  | nil => cases k <;> rfl
  | cons e es ih =>
    have hes := fun x hx => h x (List.mem_cons_of_mem e hx)
    cases k with
    | zero => simp [markCarried, hnone _ h]
    | succ k =>
      have he := h e List.mem_cons_self
      cases hd : e.dirty with
      | true => simp [markCarried, hd, ih k hes]
      | false => simp [markCarried, hd, he, ih (k + 1) hes]

theorem Station.polled_addr (st : Station) : st.polled.addr = st.addr := by
  unfold Station.polled
  split <;> rfl

theorem Station.polled_of_read {st : Station} (h : st.readNow.isSome = true) : st.polled = st := if_pos h

theorem Station.polled_of_ordinary {st : Station} (h : st.readNow = none) :
    st.polled = { st with image := markCarried 12 st.image } := by simp [Station.polled, h, Config.entriesPerPoll]

theorem Station.readNow_of_lost {st : Station} (h : st.health = .lost) : st.readNow.isSome = true := by
  simp [Station.readNow, h]

theorem Station.readNow_of_not_lost {st : Station} (h : st.health ≠ .lost) : st.readNow = st.statusDue := if_neg h

theorem Station.poll_sent_of_read {st : Station} (h : st.readNow.isSome = true) (t : SiteTable) (now : Nat) :
    (st.poll t now).sent = [] := by simp [Station.poll, h]

theorem Station.poll_sent_of_ordinary {st : Station} (h : st.readNow = none) (t : SiteTable) (now : Nat) :
    (st.poll t now).sent = ((st.image.filter (fun e => e.dirty)).take 12).map (fun e =>
      (e.key.physical (bankMirrored t st.addr) (bankDoors t st.addr), e.value.sent now (stationPitch t st.addr))) := by
  simp [Station.poll, h, Station.carries, Station.dirtyEntries, Config.entriesPerPoll]

/-! ## The rotation (R137) -/

theorem FieldLine.nextFrom_eq_some {f : FieldLine} {addr a : Nat} :
    f.nextFrom addr = some a ↔
      (a ∈ f.stations.map (·.addr) ∧ addr ≤ a) ∧ ∀ b, b ∈ f.stations.map (·.addr) → addr ≤ b → a ≤ b := by
  simp [FieldLine.nextFrom, List.min?_eq_some_iff]

theorem FieldLine.nextFrom_eq_none {f : FieldLine} {addr : Nat} :
    f.nextFrom addr = none ↔ ∀ b ∈ f.stations.map (·.addr), b < addr := by
  simp [FieldLine.nextFrom]

/-- A standing visit that goes on: the same address, one poll more (R137). -/
theorem FieldLine.nextVisit_again {f : FieldLine} {v : Visit} (hv : f.visit = some v) (h : v.again = true) :
    f.nextVisit = some { addr := v.addr, polls := v.polls + 1, again := false } := by simp [FieldLine.nextVisit, hv, h]

/-- A visit at its end: the next configured address above it, or the lowest (R137). -/
theorem FieldLine.nextVisit_next {f : FieldLine} {v w : Visit} (hv : f.visit = some v) (h : v.again = false)
    (hw : f.nextVisit = some w) :
    ∃ a, w = { addr := a, polls := 1, again := false }
      ∧ (f.nextFrom (v.addr + 1) = some a ∨ f.nextFrom (v.addr + 1) = none ∧ f.nextFrom 0 = some a) := by
  cases habove : f.nextFrom (v.addr + 1) with
  | some a =>
    simp only [FieldLine.nextVisit, hv, h, habove, Bool.false_eq_true, if_false, Option.map_some, Option.some.injEq] at hw
    exact ⟨a, hw.symm, .inl rfl⟩
  | none =>
    simp only [FieldLine.nextVisit, hv, h, habove, Bool.false_eq_true, if_false, Option.map_eq_some_iff] at hw
    obtain ⟨a, ha, rfl⟩ := hw
    exact ⟨a, rfl, .inr ⟨rfl, ha⟩⟩

theorem FieldLine.nextVisit_start {f : FieldLine} {w : Visit} (hv : f.visit = none) (hw : f.nextVisit = some w) :
    w.polls = 1 ∧ w.again = false := by
  simp only [FieldLine.nextVisit, hv, Option.map_eq_some_iff] at hw
  obtain ⟨a, -, rfl⟩ := hw
  exact ⟨rfl, rfl⟩

/-- The address of the next visit (R137). -/
theorem FieldLine.nextVisit_addr {f : FieldLine} {v w : Visit} (hv : f.visit = some v) (h : v.again = false)
    (hw : f.nextVisit = some w) :
    w.polls = 1 ∧ w.again = false ∧ w.addr ∈ f.stations.map (·.addr)
    ∧ ((∃ st ∈ f.stations, v.addr < st.addr) → v.addr < w.addr ∧ ∀ st ∈ f.stations, v.addr < st.addr → w.addr ≤ st.addr)
    ∧ ((∀ st ∈ f.stations, st.addr ≤ v.addr) → ∀ st ∈ f.stations, w.addr ≤ st.addr) := by
  have hmem : ∀ st ∈ f.stations, st.addr ∈ f.stations.map (·.addr) := fun st hst => List.mem_map_of_mem hst
  obtain ⟨a, rfl, habove | ⟨hnone, hlowest⟩⟩ := FieldLine.nextVisit_next hv h hw
  · obtain ⟨⟨ha, hva⟩, hleast⟩ := FieldLine.nextFrom_eq_some.mp habove
    refine ⟨rfl, rfl, ha, fun _ => ⟨hva, fun st hst hlt => hleast _ (hmem st hst) hlt⟩, fun hall => ?_⟩
    obtain ⟨st, hst, rfl⟩ := List.mem_map.mp ha
    exact absurd (hall st hst) (Nat.not_le.mpr hva)
  · obtain ⟨⟨ha, -⟩, hleast⟩ := FieldLine.nextFrom_eq_some.mp hlowest
    refine ⟨rfl, rfl, ha, fun ⟨st, hst, hlt⟩ => ?_, fun _ st hst => hleast _ (hmem st hst) (Nat.zero_le _)⟩
    have := FieldLine.nextFrom_eq_none.mp hnone _ (hmem st hst)
    omega

/-- The next visit has at most four polls (R137). -/
theorem nextVisit_within_four {s : State} {w : Visit} (h : VisitWithinFour s) (hw : s.flm.nextVisit = some w) : w.polls ≤ 4 := by
  cases hv : s.flm.visit with
  | none => exact (FieldLine.nextVisit_start hv hw).1 ▸ by decide
  | some v =>
    obtain ⟨-, hagain⟩ := h v hv
    cases ha : v.again with
    | true =>
      rw [FieldLine.nextVisit_again hv ha, Option.some.injEq] at hw
      subst hw
      exact hagain ha
    | false => exact (FieldLine.nextVisit_addr hv ha hw).1 ▸ by decide

/-! ## The image order (R139) -/

/-- The entries of the doors up to a count, in the image order. -/
theorem freshDoors_rank (doors : Nat) :
    (((List.range doors).flatMap freshDoor).map (fun e => e.key.rank)).Pairwise (· < ·)
    ∧ ∀ r ∈ ((List.range doors).flatMap freshDoor).map (fun e => e.key.rank), 5 ≤ r ∧ r < 5 + 3 * doors := by
  induction doors with
  | zero => simp
  | succ d ih =>
    obtain ⟨hsorted, hbounds⟩ := ih
    have hdoor : (freshDoor d).map (fun e => e.key.rank) = [5 + 3 * d, 6 + 3 * d, 7 + 3 * d] := rfl
    rw [List.range_succ, List.flatMap_append, List.map_append, List.flatMap_singleton, hdoor]
    refine ⟨List.pairwise_append.mpr ⟨hsorted, by simp, fun r hr r' hr' => ?_⟩, fun r hr => ?_⟩
    · have := (hbounds r hr).2
      simp only [List.mem_cons, List.not_mem_nil, or_false] at hr'
      omega
    · rcases List.mem_append.mp hr with hr | hr
      · have := hbounds r hr
        omega
      · simp only [List.mem_cons, List.not_mem_nil, or_false] at hr
        omega

/-- Every station's image stands in the image order (R139). -/
theorem freshStations_sorted (t : SiteTable) (st : Station) (h : st ∈ freshStations t) :
    (st.image.map (fun e => e.key.rank)).Pairwise (· < ·) := by
  simp only [freshStations, List.mem_append, List.mem_map] at h
  obtain ((⟨b, -, rfl⟩ | ⟨c, -, rfl⟩) | ⟨g, -, rfl⟩) | ⟨l, -, rfl⟩ := h
  · obtain ⟨hsorted, hbounds⟩ := freshDoors_rank (((t.banks[b]?).map (·.doors)).getD 0)
    exact List.pairwise_cons.mpr ⟨fun r hr => Nat.lt_of_lt_of_le (by decide : 0 < 5) (hbounds r hr).1, hsorted⟩
  · exact (by decide : (freshCabinImage.map (fun e => e.key.rank)).Pairwise (· < ·))
  · exact (by decide : (freshPadImage.map (fun e => e.key.rank)).Pairwise (· < ·))
  · exact (by decide : (freshLaneImage.map (fun e => e.key.rank)).Pairwise (· < ·))

/-! ## Durations (R139) -/

theorem secondsUntil_eq {now x : Nat} (hnow : now < 86400) (hx : x < 86400) :
    secondsUntil now x = if now ≤ x then x - now else x + 86400 - now := by
  simp only [secondsUntil, Config.daySeconds]
  split <;> omega

/-- POLL with none in flight (R137). -/
theorem sendPoll_sent {v : Visit} {st : Station} {s : State} (hidle : s.flm.inFlight = none) (hv : s.flm.nextVisit = some v)
    (hst : s.flm.find v.addr = some st) :
    sendPoll s = { s with flm := { s.flm.update v.addr Station.polled with
      visit := some v, inFlight := some (st.poll s.table s.now) } } := by simp [sendPoll, hidle, hv, hst]

/-- Settles O50. -/
theorem pollSent : Obligations.PollSent := by
  refine ⟨?sent, ?busy, ?rotation, freshStations_sorted, fun mirrored doors d => ⟨rfl, rfl, rfl⟩, ?durations⟩
  case sent =>
    intro v st s hidle hv hst
    have hfind : ∀ a, (s.flm.update v.addr Station.polled).find a
        = if a = v.addr then (s.flm.find a).map Station.polled else s.flm.find a := fun a =>
      FieldLine.find_update _ _ _ _ Station.polled_addr
    have hself : (s.flm.update v.addr Station.polled).find v.addr = some st.polled := by rw [hfind, if_pos rfl, hst]; rfl
    refine ⟨_, st.poll s.table s.now, congrArg Host.Outcome.next (sendPoll_sent hidle hv hst), rfl, rfl, rfl, rfl,
      Station.readNow_of_lost, Station.readNow_of_not_lost, fun hread => ⟨Station.poll_sent_of_read hread _ _, ?_⟩,
      fun hread => ⟨Station.poll_sent_of_ordinary hread _ _, fun hnone => ⟨_, hself, ?_⟩⟩,
      fun hfour => nextVisit_within_four hfour hv, fun a ha => (hfind a).trans (if_neg ha), by simp [keepsAllBut_iff]⟩
    · rw [Station.polled_of_read hread] at hself
      exact hself
    · rw [Station.polled_of_ordinary hread]
      exact ⟨markCarried_carried 12 _ hnone, markCarried_values 12 _⟩
  case busy =>
    intro s hbusy
    obtain ⟨p, hp⟩ := Option.isSome_iff_exists.mp hbusy
    show Host.Outcome.next (sendPoll s) = .next s
    rw [sendPoll, hp]
  case rotation =>
    intro f v w hv hw
    refine ⟨fun ha => ?_, fun ha => FieldLine.nextVisit_addr hv ha hw⟩
    rw [FieldLine.nextVisit_again hv ha, Option.some.injEq] at hw
    exact hw.symm
  case durations =>
    intro x now pitch hnow hx
    simp only [EntryValue.sent, secondsUntil_eq hnow hx, and_self]

end Sys2Proof.Machine

/-! MISSED_ANSWER (R142): the count of a station's misses, and its owner told at the third (R46, R76, R118). -/
namespace Sys2Proof.Machine

/-! ## The lockers of one bank (R24) -/

theorem LockerMap.numbersOf_nodup (m : LockerMap) (b : Nat) : (m.numbersOf b).Nodup :=
  List.nodup_range.map fun _ _ h => Nat.add_left_cancel h

/-- A locker of the map stands among the numbers of its bank. -/
theorem LockerMap.mem_numbersOf {m : LockerMap} {n : Nat} {l : Locker} (h : m.find n = some l) :
    n ∈ m.numbersOf (lockerBank n) := by
  obtain ⟨b, hb, hd⟩ := Option.bind_eq_some_iff.mp h
  have hdoor : lockerDoor n < b.lockers.length := (List.getElem?_eq_some_iff.mp hd).1
  exact List.mem_map.mpr ⟨lockerDoor n, by simpa [LockerMap.doors, hb] using hdoor, lockerNumber_bank n⟩

/-- Where no bank has more than 24 doors, the numbers of a bank are numbers of no other. -/
theorem LockerMap.bank_of_mem_numbersOf {m : LockerMap} {n b : Nat} (hdoors : ∀ k ∈ m.banks, k.lockers.length ≤ 24)
    (h : n ∈ m.numbersOf b) : lockerBank n = b := by
  obtain ⟨d, hd, rfl⟩ := List.mem_map.mp h
  have hlt : d < 24 := by
    cases hb : m.banks[b]? with
    | none => simp [LockerMap.doors, hb] at hd
    | some k =>
      have hk := hdoors k (List.mem_of_getElem? hb)
      simp only [LockerMap.doors, hb, Option.map_some, Option.getD_some, List.mem_range] at hd
      omega
  simp only [lockerBank, lockerNumber, Config.doorsPerBank]
  omega

/-- An act over a bank's lockers that changes each alone. -/
theorem overBank_find (b : Nat) (f : State → Nat → State) (φ : Nat → Locker → Locker)
    (hself : ∀ t n, (f t n).lmu.find n = (t.lmu.find n).map (φ n)) (hother : ∀ t n m, m ≠ n → (f t n).lmu.find m = t.lmu.find m)
    (s : State) (n : Nat) (hn : lockerBank n = b) : (overBank b f s).lmu.find n = (s.lmu.find n).map (φ n) := by
  rw [overBank, foldl_entries_once (fun t m => t.lmu.find m) f φ hself hother (s.lmu.numbersOf_nodup b)]
  cases hl : s.lmu.find n with
  | none => simp
  | some l => simp [hn ▸ LockerMap.mem_numbersOf hl]

/-- An act over a bank's lockers leaves the lockers of the other banks. -/
theorem overBank_find_other (b : Nat) (f : State → Nat → State) (φ : Nat → Locker → Locker)
    (hself : ∀ t n, (f t n).lmu.find n = (t.lmu.find n).map (φ n)) (hother : ∀ t n m, m ≠ n → (f t n).lmu.find m = t.lmu.find m)
    (s : State) (hdoors : ∀ k ∈ s.lmu.banks, k.lockers.length ≤ 24) (n : Nat) (hn : lockerBank n ≠ b) :
    (overBank b f s).lmu.find n = s.lmu.find n := by
  rw [overBank, foldl_entries_once (fun t m => t.lmu.find m) f φ hself hother (s.lmu.numbersOf_nodup b),
    if_neg fun hmem => hn (LockerMap.bank_of_mem_numbersOf hdoors hmem)]

/-! ## What a Lost station's owner does (R46, R76, R118) -/

/-- A locker once its station is Lost. -/
def Locker.lost (l : Locker) : Locker :=
  if l.state = .unreachable then l else { l with state := .unreachable, remembered := some l.state }

theorem loseLocker_find_self (s : State) (n : Nat) : (loseLocker s n).lmu.find n = (s.lmu.find n).map Locker.lost := by
  cases hl : s.lmu.find n with
  | none => simp [loseLocker, hl]
  | some l =>
    by_cases h : l.state = .unreachable
    · simp [loseLocker, hl, h, Locker.lost]
    · simp [loseLocker, hl, h, Locker.lost, LockerMap.find_put_some _ _ _ _ hl]

theorem loseLocker_find_other (s : State) (n m : Nat) (hm : m ≠ n) : (loseLocker s n).lmu.find m = s.lmu.find m := by
  unfold loseLocker
  (repeat' split) <;> simp [LockerMap.find_put_other _ _ _ _ hm]

/-- The cabin of a Lost station, the others and the groups. -/
theorem loseCabin_cbu (n : Nat) (s : State) :
    (∀ c, s.cbu.find n = some c → (loseCabin n s).cbu.find n
      = some (if c.state = .unreachable then c else { c with state := .unreachable, remembered := some c.state }))
    ∧ (∀ m, m ≠ n → (loseCabin n s).cbu.find m = s.cbu.find m) ∧ (loseCabin n s).cbu.groups = s.cbu.groups := by
  unfold loseCabin
  refine ⟨fun c hc => ?_, fun m hm => ?_, ?_⟩
  · by_cases h : c.state = .unreachable <;> simp [hc, h, CabinUnit.find_put_self _ _ _ _ hc]
  · (repeat' split) <;> simp [CabinUnit.find_put_other _ _ _ _ hm]
  · (repeat' split) <;> simp [CabinUnit.put]

/-- The lane of a Lost station, and the others. -/
theorem loseLane_xlu (l : Nat) (s : State) :
    (∀ e, s.xlu.find l = some e → (loseLane l s).xlu.find l
      = some (if e.state = .unreachable then e else { e with state := .unreachable, remembered := some e.state }))
    ∧ (∀ m, m ≠ l → (loseLane l s).xlu.find m = s.xlu.find m) := by
  unfold loseLane
  refine ⟨fun e he => ?_, fun m hm => ?_⟩
  · by_cases h : e.state = .unreachable <;> simp [he, h]
  · (repeat' split) <;> simp [hm]

/-! ## The station's record (R142) -/

theorem ReadKind.join_clearing (due : Option ReadKind) : ReadKind.join due .clearing = some .clearing := by
  rcases due with - | (- | -) <;> rfl

/-- A miss marks nothing and acknowledges nothing. -/
theorem Station.missed_image (st : Station) :
    st.missed.image.map (fun e => (e.key, e.value, e.dirty)) = st.image.map (fun e => (e.key, e.value, e.dirty)) := by
  simp [Station.missed, Station.dropCarried]

theorem loseStation_find (addr : Nat) (s : State) :
    (loseStation addr s).flm.find addr
      = (s.flm.find addr).map (fun st => { st with health := .lost, statusDue := some .clearing }) := by
  simp [loseStation, Function.comp_def, Station.markRead, ReadKind.join_clearing]

/-- A miss below the third (R142). -/
theorem missedPoll_counted {p : Poll} {st : Station} {s : State} (hst : s.flm.find p.addr = some st) (h : st.missCount < 2) :
    missedPoll p s = endVisit (updateStation p.addr Station.missed (endPoll s)) := by
  have hcount : st.missed.missCount ≠ 3 := by simp only [Station.missed]; omega
  have hst' : (endPoll s).flm.find p.addr = some st := hst
  simp [missedPoll, missAnswer, hst', hcount]

/-- The third miss (R142). -/
theorem missedPoll_third {p : Poll} {st : Station} {s : State} (hst : s.flm.find p.addr = some st) (h : st.missCount = 2)
    (hhealth : st.health ≠ .lost) :
    missedPoll p s = endVisit (loseStation p.addr (updateStation p.addr Station.missed (endPoll s))) := by
  have hcount : st.missed.missCount = 3 := by simp [Station.missed, h]
  have hst' : (endPoll s).flm.find p.addr = some st := hst
  simp [missedPoll, missAnswer, hst', hcount, hhealth]

/-- The act of a Lost station's owner, in a state with the owners' tables as they were. -/
theorem loseStation_owner (addr : Nat) (s : State) :
    ∃ u, u.lmu = s.lmu ∧ u.cbu = s.cbu ∧ u.xlu = s.xlu ∧ (loseStation addr s).lmu = (loseOwner addr u).lmu
      ∧ (loseStation addr s).cbu = (loseOwner addr u).cbu ∧ (loseStation addr s).xlu = (loseOwner addr u).xlu :=
  ⟨updateStation addr (fun st => st.markRead .clearing) (setHealth addr .lost s), by simp, by simp, by simp,
    by simp [loseStation], by simp [loseStation], by simp [loseStation]⟩

/-- Settles O52. -/
theorem missedAnswersCounted : Obligations.MissedAnswersCounted := by
  intro cause p st s hp hst hhealth
  have hexec : exec (.missedAnswer cause) s = .next (missedPoll p s) := by simp only [exec, execMissedAnswer, hp]
  have hmissed : (updateStation p.addr Station.missed (endPoll s)).flm.find p.addr = some st.missed := by
    have hst' : (endPoll s).flm.find p.addr = some st := hst
    rw [updateStation_flm, FieldLine.find_update_self _ _ Station.missed fun _ => rfl, hst', Option.map_some]
  refine ⟨fun hcount => ?counted, fun hcount => ?third⟩
  case counted =>
    rw [missedPoll_counted hst hcount] at hexec
    refine ⟨_, st.missed, hexec, rfl, hmissed, ?_, rfl, st.missed_image, by simp [keepsAllBut_iff]⟩
    simp only [Station.missed]
    omega
  case third =>
    rw [missedPoll_third hst hcount hhealth] at hexec
    have hlost := loseStation_find p.addr (updateStation p.addr Station.missed (endPoll s))
    rw [hmissed, Option.map_some] at hlost
    obtain ⟨u, hlmu, hcbu, hxlu, hlmu', hcbu', hxlu'⟩ :=
      loseStation_owner p.addr (updateStation p.addr Station.missed (endPoll s))
    have hlmu : u.lmu = s.lmu := by simp [hlmu]
    have hcbu : u.cbu = s.cbu := by simp [hcbu]
    have hxlu : u.xlu = s.xlu := by simp [hxlu]
    refine ⟨_, _, hexec, by simp [endVisit, loseStation, endPoll, FieldLine.update], hlost, by simp [Station.missed, hcount],
      rfl, rfl,
      by simp [loseStation, NoticeContent.cls, NoticeClass.code], fun hkind => ?bank, fun hkind => ?cabin, fun hkind => ?pad,
      fun hkind => ?lane⟩
    case bank =>
      have hbank : (loseOwner p.addr u).lmu = (overBank (p.addr - 1) loseLocker u).lmu := by simp [loseOwner, hkind]
      refine ⟨by simp [keepsAllBut_iff, loseStation, loseOwner, hkind], fun n l hn hl => ?_, fun hdoors n hn => ?_⟩
      · rw [(endVisit_keeps _).2.2.1, hlmu', hbank,
          overBank_find _ _ (fun _ => Locker.lost) loseLocker_find_self loseLocker_find_other u n hn, hlmu, hl, Option.map_some]
        rfl
      · rw [(endVisit_keeps _).2.2.1, hlmu', hbank,
          overBank_find_other _ _ (fun _ => Locker.lost) loseLocker_find_self loseLocker_find_other u
            (by rw [hlmu]; exact hdoors) n hn, hlmu]
    case cabin =>
      have hcabin : (loseOwner p.addr u).cbu = (loseCabin (p.addr - 33) u).cbu := by simp [loseOwner, hkind]
      obtain ⟨hself, hother, hgroups⟩ := loseCabin_cbu (p.addr - 33) u
      rw [(endVisit_keeps _).2.2.2.1, hcbu', hcabin]
      rw [hcbu] at hself hother hgroups
      exact ⟨by simp [keepsAllBut_iff, loseStation, loseOwner, hkind], hgroups, hself, hother⟩
    case pad => simp [keepsAllBut_iff, loseStation, loseOwner, hkind]
    case lane =>
      have hlane : (loseOwner p.addr u).xlu = (loseLane (p.addr - 85) u).xlu := by simp [loseOwner, hkind]
      obtain ⟨hself, hother⟩ := loseLane_xlu (p.addr - 85) u
      rw [(endVisit_keeps _).2.2.2.2.2.1, hxlu', hlane]
      rw [hxlu] at hself hother
      exact ⟨by simp [keepsAllBut_iff, loseStation, loseOwner, hkind], hself, hother⟩

end Sys2Proof.Machine

/-! POLL_ANSWER to a status read (R143, R144): the station's record, and its owner's entries reconciled or regained
(R46, R47, R76, R119, R120). -/
namespace Sys2Proof.Machine

/-! ## A locker reconciled (R47) -/

/-- What the table of R47 makes of a locker whose positions have been sensed. -/
def Locker.treated (l : Locker) : Locker :=
  match l.state with
  | .vacant => if !l.doorOpen && l.boltLocked && l.orphanCheck then { l with state := .orphaned } else l
  | .held => if l.doorOpen then { l with state := .forced } else l
  | .opening => if l.doorOpen then l.openedAt else l
  | .opened => if l.doorOpen then l else { l with state := .held, openedBy := none, openingExpiry := none }
  | .forced => if l.holder.isNone && !l.doorOpen && l.orphanCheck then { l with state := .orphaned } else l
  | .orphaned => if l.doorOpen then { l with state := .forced } else l
  | .outOfService => l
  | .unreachable => l

theorem treatLocker_find (n : Nat) (l : Locker) (s : State) (h : s.lmu.find n = some l) :
    (treatLocker n l s).lmu.find n = some l.treated := by
  have hput : ∀ x, (s.lmu.put n x).find n = some x := fun x => LockerMap.find_put_some _ _ _ _ h
  cases hs : l.state with
  | vacant =>
    cases hd : l.doorOpen <;> cases hb : l.boltLocked <;> cases ho : l.orphanCheck <;>
      simp [treatLocker, Locker.treated, hs, hd, hb, ho, hput, h]
  | held => cases hd : l.doorOpen <;> simp [treatLocker, Locker.treated, hs, hd, hput, h]
  | opening => cases hd : l.doorOpen <;> simp [treatLocker, Locker.treated, hs, hd, openedInWindow_find n l l s h, h]
  | opened => cases hd : l.doorOpen <;> simp [treatLocker, Locker.treated, hs, hd, hput, h]
  | forced =>
    by_cases hc : (l.holder.isNone && !l.doorOpen && l.orphanCheck) = true
    · simp only [treatLocker, Locker.treated, hs, hc, if_true, (quietAlarm_keeps _ _).2.2.1, moveLocker_lmu, hput]
    · simp only [treatLocker, Locker.treated, hs, hc, if_false, Bool.false_eq_true, h]
  | orphaned => cases hd : l.doorOpen <;> simp [treatLocker, Locker.treated, hs, hd, hput, h]
  | outOfService => simp [treatLocker, Locker.treated, hs, h]
  | unreachable => simp [treatLocker, Locker.treated, hs, h]

theorem treatLocker_find_other (n m : Nat) (l : Locker) (s : State) (hm : m ≠ n) :
    (treatLocker n l s).lmu.find m = s.lmu.find m := by
  unfold treatLocker
  (repeat' split) <;> simp [openedInWindow_find_other n m l s hm, LockerMap.find_put_other _ _ _ _ hm]

theorem clearOrphanCheck_find_self (n : Nat) (s : State) :
    (clearOrphanCheck n s).lmu.find n = (s.lmu.find n).map (fun l => { l with orphanCheck := false }) := by
  cases hl : s.lmu.find n with
  | none => simp [clearOrphanCheck, hl]
  | some l => simp [clearOrphanCheck, hl, LockerMap.find_put_some _ _ _ _ hl]

theorem clearOrphanCheck_find_other (n m : Nat) (s : State) (hm : m ≠ n) :
    (clearOrphanCheck n s).lmu.find m = s.lmu.find m := by
  unfold clearOrphanCheck
  split <;> simp [LockerMap.find_put_other _ _ _ _ hm]

/-- The table of R47 sets the orphan check apart from the rest. -/
theorem Locker.readAt_eq (l : Locker) (d : DoorReading) :
    l.readAt d = { { l with doorOpen := d.isOpen, boltLocked := d.locked }.treated with orphanCheck := false } := by
  cases hs : l.state with
  | vacant =>
    cases hd : d.isOpen <;> cases hb : d.locked <;> cases ho : l.orphanCheck <;>
      simp [Locker.readAt, Locker.treated, hs, hd, hb, ho]
  | opening =>
    cases hd : d.isOpen with
    | false => simp [Locker.readAt, Locker.treated, hs, hd]
    | true =>
      simp only [Locker.readAt, Locker.treated, hs, hd, if_true, Locker.openedAt]
      split <;> rfl
  | forced =>
    cases hd : d.isOpen <;> cases ho : l.orphanCheck <;> cases hh : l.holder <;>
      simp [Locker.readAt, Locker.treated, hs, hd, ho, hh]
  | held => cases hd : d.isOpen <;> simp [Locker.readAt, Locker.treated, hs, hd]
  | opened => cases hd : d.isOpen <;> simp [Locker.readAt, Locker.treated, hs, hd]
  | orphaned => cases hd : d.isOpen <;> simp [Locker.readAt, Locker.treated, hs, hd]
  | outOfService => cases hd : d.isOpen <;> simp [Locker.readAt, Locker.treated, hs, hd]
  | unreachable => cases hd : d.isOpen <;> simp [Locker.readAt, Locker.treated, hs, hd]

/-- A locker of a bank read: by the reading of its door, where the status has one. -/
def Locker.readFrom (doors : List DoorReading) (n : Nat) (l : Locker) : Locker :=
  match doors[lockerDoor n]? with
  | some d => l.readAt d
  | none => l

theorem reconcileLocker_find_self (doors : List DoorReading) (s : State) (n : Nat) :
    (reconcileLocker doors s n).lmu.find n = (s.lmu.find n).map (Locker.readFrom doors n) := by
  cases hl : s.lmu.find n with
  | none => simp [reconcileLocker, hl]
  | some l =>
    cases hd : doors[lockerDoor n]? with
    | none => simp [reconcileLocker, hl, hd, Locker.readFrom]
    | some d =>
      have hsensed : (putLocker n { l with doorOpen := d.isOpen, boltLocked := d.locked } s).lmu.find n
          = some { l with doorOpen := d.isOpen, boltLocked := d.locked } := LockerMap.find_put_some _ _ _ _ hl
      simp only [reconcileLocker, hl, hd, clearOrphanCheck_find_self, treatLocker_find _ _ _ hsensed, Option.map_some,
        Locker.readFrom, Locker.readAt_eq]

theorem reconcileLocker_find_other (doors : List DoorReading) (s : State) (n m : Nat) (hm : m ≠ n) :
    (reconcileLocker doors s n).lmu.find m = s.lmu.find m := by
  unfold reconcileLocker
  split
  · simp [clearOrphanCheck_find_other n m _ hm, treatLocker_find_other n m _ _ hm, LockerMap.find_put_other _ _ _ _ hm]
  · rfl

/-- A locker as a regained bank restores it (R46). -/
def Locker.restored (l : Locker) : Locker :=
  if l.state = .unreachable then { l with state := l.remembered.getD .vacant, remembered := none } else l

theorem restoreLocker_find_self (s : State) (n : Nat) : (restoreLocker s n).lmu.find n = (s.lmu.find n).map Locker.restored := by
  cases hl : s.lmu.find n with
  | none => simp [restoreLocker, hl]
  | some l =>
    by_cases h : l.state = .unreachable
    · simp [restoreLocker, hl, h, Locker.restored, LockerMap.find_put_some _ _ _ _ hl]
    · simp [restoreLocker, hl, h, Locker.restored]

theorem restoreLocker_find_other (s : State) (n m : Nat) (hm : m ≠ n) : (restoreLocker s n).lmu.find m = s.lmu.find m := by
  unfold restoreLocker
  (repeat' split) <;> simp [LockerMap.find_put_other _ _ _ _ hm]

theorem endAwaiting_find (b n : Nat) (s : State) : (endAwaiting b s).lmu.find n = s.lmu.find n := by
  simp only [endAwaiting, LockerMap.find, List.getElem?_modify]
  split
  · cases s.lmu.banks[lockerBank n]? <;> rfl
  · simp

/-- A bank's lockers at its reconcile (R47). -/
theorem reconcileBank_find (doors : List DoorReading) (s : State) {b n : Nat} (hn : lockerBank n = b) :
    (reconcileBank b doors s).lmu.find n = (s.lmu.find n).map (Locker.readFrom doors n) := by
  rw [reconcileBank, endAwaiting_find,
    overBank_find _ _ (Locker.readFrom doors) (reconcileLocker_find_self doors) (reconcileLocker_find_other doors) s n hn]

/-- A bank's lockers at its regain (R46). -/
theorem regainBank_find (doors : List DoorReading) (s : State) {b n : Nat} (hn : lockerBank n = b) :
    (regainBank b doors s).lmu.find n = (s.lmu.find n).map (fun l => l.restored.readFrom doors n) := by
  rw [regainBank, reconcileBank_find doors _ hn, (followAlarm_keeps _ _).2.2.1,
    overBank_find _ _ (fun _ => Locker.restored) restoreLocker_find_self restoreLocker_find_other s n hn, Option.map_map]
  rfl

/-- The reading of a logical door, under the bank's own door index (R25). -/
theorem logicalDoors_get {mirrored : Bool} {doors i : Nat} {readings : List DoorReading} (hfits : doors ≤ readings.length)
    (hi : i < doors) :
    (logicalDoors mirrored doors readings)[i]? = readings[if mirrored then doors - 1 - i else i]? := by
  cases mirrored with
  | false => simp [logicalDoors, hi]
  | true =>
    have hlength : (readings.take doors).length = doors := by simp [hfits]
    have hback : doors - 1 - i < doors := by omega
    have hi' : i < (readings.take doors).length := by omega
    show (readings.take doors).reverse[i]? = readings[doors - 1 - i]?
    rw [List.getElem?_reverse hi', hlength, List.getElem?_take_of_lt hback]

/-! ## A cabin reconciled (R76) -/

/-- A cabin with its door sensed at a second. -/
def Cabin.sensedAt (c : Cabin) (d : DoorReading) (second : Nat) : Cabin :=
  { c with
    doorOpen := d.isOpen
    doorOpenSince := if c.state = .occupied then (if d.isOpen then some second else none) else c.doorOpenSince }

theorem reconcileCabin_find {n : Nat} {c : Cabin} {s : State} (d : DoorReading) (hc : s.cbu.find n = some c) :
    (reconcileCabin n d s).cbu.find n = some (c.sensedAt d s.now) := by
  simp [reconcileCabin, hc, Cabin.sensedAt, CabinUnit.find_put_self _ _ _ _ hc]

/-- A cabin regained to another state than Free (R76). -/
theorem regainCabin_find {n : Nat} {c : Cabin} {s : State} {x : CabinState} (d : DoorReading) (hc : s.cbu.find n = some c)
    (hs : c.state = .unreachable) (hr : c.remembered = some x) (hx : x ≠ .free) :
    (regainCabin n d s).cbu.find n = some ({ c with state := x, remembered := none }.sensedAt d s.now) := by
  have hrestored : (restoreCabin n s).cbu.find n = some { c with state := x, remembered := none } := by
    simp [restoreCabin, hc, hs, hr, CabinUnit.find_put_self _ _ _ _ hc]
  have hfind := reconcileCabin_find d hrestored
  have hnow : (restoreCabin n s).now = s.now := by rw [State.now_eq, State.now_eq]; simp
  rw [hnow] at hfind
  rw [regainCabin, allocateIfFree_idle hfind (.inl hx), hfind]

/-! ## A lane reconciled and a lane regained (R119, R120) -/

/-- A lane that needs no return of a quote: Idle, Passing, or Holding the band in its slot (R120). -/
theorem reconcileLane_kept {l : Nat} {e : Lane} {s : State} {slot : Option BandNo} (he : s.xlu.find l = some e)
    (h : e.state = .idle ∨ e.state = .passing ∨ (e.state = .holding ∧ slot.isSome = true ∧ slot = e.band)) :
    (reconcileLane l slot s).xlu.find l = some { e with slot := slot } ∧ (reconcileLane l slot s).bdr = s.bdr := by
  rcases h with h | h | ⟨h, hslot, hband⟩
  · simp [reconcileLane, he, h]
  · simp [reconcileLane, he, h]
  · subst hband
    obtain ⟨b, hb⟩ := Option.isSome_iff_exists.mp hslot
    simp [reconcileLane, he, h, hb]

/-- A lane whose slot does not hold its band: the quote is ended and its band is In (R120). -/
theorem reconcileLane_ended {l : Nat} {e : Lane} {s : State} {slot : Option BandNo} {b : BandNo} (he : s.xlu.find l = some e)
    (hs : e.state = .holding) (hb : e.band = some b) (hslot : slot ≠ some b) :
    (reconcileLane l slot s).xlu.find l
        = some { e with state := .idle, band := none, quoteAmount := none, quoteExpiry := none, slot := slot }
      ∧ (reconcileLane l slot s).bdr = s.bdr.update b (fun r => { r with state := .inside, quote := none })
      ∧ (reconcileLane l slot s).cnu.bits.getLsbD 3 = true := by
  refine ⟨?_, ?_, ?_⟩ <;>
    simp [reconcileLane, he, hs, hb, hslot, endQuote, unquote, announceEnd, Lane.act, NoticeContent.cls, NoticeClass.code]

/-- A lane regained (R119). -/
theorem regainLane_find {l : Nat} {e : Lane} {s : State} (slot : Option BandNo) (he : s.xlu.find l = some e) :
    (regainLane l slot s).xlu.find l = some (e.regained slot) := by
  simp only [regainLane, he]
  split <;> simp [he]

/-- A regained lane that remembers Holding: its quote is ended and its band is In (R119). -/
theorem regainLane_ended {l : Nat} {e : Lane} {s : State} (slot : Option BandNo) {b : BandNo} (he : s.xlu.find l = some e)
    (ha : e.acting = .holding) (hb : e.band = some b) :
    (regainLane l slot s).bdr = s.bdr.update b (fun r => { r with state := .inside, quote := none })
      ∧ (regainLane l slot s).cnu.bits.getLsbD 3 = true := by
  refine ⟨?_, ?_⟩ <;> simp [regainLane, he, ha, hb, unquote, announceEnd, NoticeContent.cls, NoticeClass.code]

/-! ## The station's record (R143, R144) -/

/-- The record of a station that has answered a status read. -/
structure Station.ReadHeld (st : Station) (report : StatusReport) (second : Nat) (bit : Option Bool) : Prop where
  health : st.health = .answering
  missCount : st.missCount = 0
  statusDue : st.statusDue = none
  lastGood : st.lastGood = some second
  lastStatus : st.lastStatus = some (report, second)
  lastBit : st.lastBit = bit

/-- The record is kept where the values and marks of the image alone change. -/
theorem Station.ReadHeld.of_bare {st st' : Station} {report : StatusReport} {second : Nat} {bit : Option Bool}
    (h : st.ReadHeld report second bit) (hbare : st'.bare = st.bare) : st'.ReadHeld report second bit where
  health := (congrArg Station.health hbare).trans h.health
  missCount := (congrArg Station.missCount hbare).trans h.missCount
  statusDue := (congrArg Station.statusDue hbare).trans h.statusDue
  lastGood := (congrArg Station.lastGood hbare).trans h.lastGood
  lastStatus := (congrArg Station.lastStatus hbare).trans h.lastStatus
  lastBit := (congrArg Station.lastBit hbare).trans h.lastBit

theorem Station.markAll_dirty (st : Station) : ∀ e ∈ st.markAll.image, e.dirty = true := by
  simp [Station.markAll]

/-- A station's record is found again where an act has left the outline. -/
theorem find_of_outline {u v : State} {a : Nat} {st : Station} (h : u.outline = v.outline) (hst : v.flm.find a = some st) :
    ∃ st', u.flm.find a = some st' ∧ st'.bare = st.bare := by
  have hbare : (u.flm.find a).map Station.bare = some st.bare := by
    rw [← FieldLine.bare_find, show u.flm.bare = v.flm.bare from congrArg Outline.line h, FieldLine.bare_find, hst, Option.map_some]
  exact Option.map_eq_some_iff.mp hbare

/-! ## What a status read leaves (R143, R144) -/

/-- The state that the owner of a status read acts on: the owners' tables and the clock as they were, the record held. -/
structure ReadBefore (addr : Nat) (report : StatusReport) (bit : Option Bool) (s v : State) : Prop where
  bdr : v.bdr = s.bdr
  lmu : v.lmu = s.lmu
  cbu : v.cbu = s.cbu
  xlu : v.xlu = s.xlu
  sck : v.sck = s.sck
  idle : v.flm.inFlight = none
  record : ∃ st, v.flm.find addr = some st ∧ st.ReadHeld report s.sck.counter bit

/-- The state after the owner's act: the owners' tables as the act leaves them, every entry of the station marked. -/
structure ReadAfter (addr : Nat) (u t : State) : Prop where
  bdr : t.bdr = u.bdr
  lmu : t.lmu = u.lmu
  cbu : t.cbu = u.cbu
  xlu : t.xlu = u.xlu
  cnu : u.cnu.Within t.cnu
  inFlight : t.flm.inFlight = u.flm.inFlight
  find : t.flm.find addr = (u.flm.find addr).map Station.markAll

theorem ReadBefore.now {addr : Nat} {report : StatusReport} {bit : Option Bool} {s v : State}
    (h : ReadBefore addr report bit s v) : v.now = s.sck.counter := by rw [State.now_eq, h.sck]

/-- The record after an owner's act that leaves the outline. -/
theorem ReadBefore.record_after {addr : Nat} {report : StatusReport} {bit : Option Bool} {s v u t : State}
    (h : ReadBefore addr report bit s v) (hu : u.outline = v.outline) (ht : ReadAfter addr u t) :
    t.flm.inFlight = none ∧ ∃ st', t.flm.find addr = some st' ∧ st'.ReadHeld report s.sck.counter bit
      ∧ ∀ e ∈ st'.image, e.dirty = true := by
  obtain ⟨st, hst, hheld⟩ := h.record
  obtain ⟨st', hst', hbare⟩ := find_of_outline hu hst
  have hflight : u.flm.inFlight = v.flm.inFlight :=
    show u.flm.bare.inFlight = v.flm.bare.inFlight from congrArg (fun o => o.line.inFlight) hu
  refine ⟨ht.inFlight.trans (hflight.trans h.idle), st'.markAll, by rw [ht.find, hst', Option.map_some],
    hheld.of_bare ((Station.markAll_bare st').trans hbare), st'.markAll_dirty⟩

section
variable {p : Poll} {st : Station} {r : StatusReport} {s : State}

/-- The answer to a status read with its report. -/
def statusReply (r : StatusReport) : PollReply := { event := none, overrun := false, restart := false, status := some r }

theorem execPollAnswer_status (hp : s.flm.inFlight = some p) (hread : p.read.isSome = true)
    (hfits : reportFits r s.table p.addr = true) :
    exec (.pollAnswer (statusReply r)) s
      = .next (goodAnswer p (statusReply r) (some (logicalReport r s.table p.addr)) s) := by
  obtain ⟨k, hk⟩ := Option.isSome_iff_exists.mp hread
  have hstatus : statusFor p (statusReply r) s.table = some (some (logicalReport r s.table p.addr)) := by
    simp [statusFor, hk, statusReply, hfits]
  simp only [exec, execPollAnswer, hp, hstatus]

/-- The state that the owner of a station not Lost reconciles in: the answer acknowledged and the status held (R144). -/
def beforeReconcile (addr : Nat) (report : StatusReport) (s : State) : State :=
  endStarting addr (updateStation addr (fun st => st.heldStatus report s.now)
    (updateStation addr (fun st => st.answered s.now) (endPoll s)))

/-- The state that the owner of a Lost station regains its entries in (R143). -/
def beforeRegain (addr : Nat) (report : StatusReport) (s : State) : State :=
  setHealth addr .answering (updateStation addr
    (fun st => { st.heldStatus report s.now with missCount := 0, lastBit := none, lastGood := some s.now }) (endPoll s))

theorem beforeReconcile_record {addr : Nat} (hst : s.flm.find addr = some st) (hhealth : st.health ≠ .lost)
    (report : StatusReport) :
    ∃ st', (beforeReconcile addr report s).flm.find addr = some st' ∧ st'.ReadHeld report s.sck.counter st.lastBit := by
  have hst' : (endPoll s).flm.find addr = some st := hst
  have hanswered : ((endPoll s).flm.update addr (fun st => st.answered s.now)).find addr = some (st.answered s.now) := by
    rw [FieldLine.find_update_self _ _ (fun st => st.answered s.now) fun _ => rfl, hst', Option.map_some]
  have hheld : (updateStation addr (fun st => st.heldStatus report s.now)
      (updateStation addr (fun st => st.answered s.now) (endPoll s))).flm.find addr
        = some ((st.answered s.now).heldStatus report s.now) := by
    rw [updateStation_flm, FieldLine.find_update_self _ _ (fun st => st.heldStatus report s.now) fun _ => rfl, updateStation_flm,
      hanswered, Option.map_some]
  unfold beforeReconcile endStarting
  by_cases hstarting : st.health = .starting
  · rw [if_pos (by rw [FieldLine.health, hheld]; exact congrArg some hstarting), setHealth_flm,
      FieldLine.find_update_self _ _ (fun st => { st with health := .answering }) fun _ => rfl, hheld]
    exact ⟨_, rfl, rfl, rfl, rfl, rfl, rfl, rfl⟩
  · have hanswering : st.health = .answering := by
      cases h : st.health with
      | starting => exact absurd h hstarting
      | answering => rfl
      | lost => exact absurd h hhealth
    rw [if_neg (by rw [FieldLine.health, hheld]; exact fun h => hstarting (Option.some.inj h)), hheld]
    exact ⟨_, rfl, hanswering, rfl, rfl, rfl, rfl, rfl⟩

theorem beforeRegain_record {addr : Nat} (hst : s.flm.find addr = some st) (report : StatusReport) :
    ∃ st', (beforeRegain addr report s).flm.find addr = some st' ∧ st'.ReadHeld report s.sck.counter none := by
  have hst' : (endPoll s).flm.find addr = some st := hst
  rw [beforeRegain, setHealth_flm, FieldLine.find_update_self _ _ (fun st => { st with health := .answering }) fun _ => rfl,
    updateStation_flm, FieldLine.find_update_self _ _ (fun st =>
      { st.heldStatus report s.now with missCount := 0, lastBit := none, lastGood := some s.now }) fun _ => rfl, hst']
  exact ⟨_, rfl, rfl, rfl, rfl, rfl, rfl, rfl⟩

/-- The status read of a station not Lost: its owner reconciles (R144). -/
theorem goodAnswer_reconciles (hst : s.flm.find p.addr = some st) (hhealth : st.health ≠ .lost) (report : StatusReport) :
    ReadBefore p.addr report st.lastBit s (beforeReconcile p.addr report s)
    ∧ ReadAfter p.addr (reconcileOwner p.addr report (beforeReconcile p.addr report s))
        (goodAnswer p (statusReply r) (some report) s) := by
  have hlost : ¬s.flm.health p.addr = some .lost := by simp [FieldLine.health, hst, hhealth]
  have htaken : goodAnswer p (statusReply r) (some report) s = continueVisit false (updateStation p.addr Station.markAll
      (reconcileOwner p.addr report (beforeReconcile p.addr report s))) := by
    rw [goodAnswer, if_neg hlost]
    rfl
  have hflight : (beforeReconcile p.addr report s).flm.inFlight = none := by
    unfold beforeReconcile endStarting
    split <;> rfl
  rw [htaken]
  generalize hv : beforeReconcile p.addr report s = v at hflight
  refine ⟨⟨?_, ?_, ?_, ?_, ?_, hflight, hv ▸ beforeReconcile_record hst hhealth report⟩, ?_⟩
  iterate 5 simp [← hv, beforeReconcile]
  exact ⟨by simp, by simp, by simp, by simp, by simp, rfl, FieldLine.find_update_self _ _ Station.markAll fun _ => rfl⟩

/-- The status read of a Lost station: its owner regains its entries (R143). -/
theorem goodAnswer_regains (hst : s.flm.find p.addr = some st) (hhealth : st.health = .lost) (report : StatusReport) :
    ReadBefore p.addr report none s (beforeRegain p.addr report s)
    ∧ ReadAfter p.addr (regainOwner p.addr report (beforeRegain p.addr report s))
        (goodAnswer p (statusReply r) (some report) s)
    ∧ (goodAnswer p (statusReply r) (some report) s).cnu.bits.getLsbD 4 = true := by
  have hlost : s.flm.health p.addr = some .lost := by simp [FieldLine.health, hst, hhealth]
  have htaken : goodAnswer p (statusReply r) (some report) s = endVisit (raiseNotice
      (.stationHealth p.addr (kindOf p.addr) .regained s.now) (updateStation p.addr Station.markAll
        (regainOwner p.addr report (beforeRegain p.addr report s)))) := by
    rw [goodAnswer, if_pos hlost]
    rfl
  rw [htaken]
  generalize hv : beforeRegain p.addr report s = v
  refine ⟨⟨?_, ?_, ?_, ?_, ?_, hv ▸ rfl, hv ▸ beforeRegain_record hst report⟩, ?_, ?_⟩
  iterate 5 simp [← hv, beforeRegain]
  · exact ⟨by simp, by simp, by simp, by simp, by simp, rfl, FieldLine.find_update_self _ _ Station.markAll fun _ => rfl⟩
  · simp [NoticeContent.cls, NoticeClass.code]

end

/-! ## The owners' entries after a status read -/

theorem reportFits_lockBank {doors : List DoorReading} {t : SiteTable} {addr : Nat}
    (h : reportFits (.lockBank doors) t addr = true) : bankDoors t addr ≤ doors.length := by
  unfold reportFits at h
  split at h
  · next hr _ => exact StatusReport.lockBank.inj hr ▸ of_decide_eq_true h
  all_goals simp_all

theorem logicalReport_of_other {r : StatusReport} (h : ∀ doors, r ≠ .lockBank doors) (t : SiteTable) (addr : Nat) :
    logicalReport r t addr = r := by
  cases r with
  | lockBank doors => exact absurd rfl (h doors)
  | _ => rfl

theorem Locker.readFrom_of_get {doors : List DoorReading} {n : Nat} {d : DoorReading} (h : doors[lockerDoor n]? = some d)
    (l : Locker) : l.readFrom doors n = l.readAt d := by simp [Locker.readFrom, h]

section
variable {addr : Nat} {table : SiteTable} {bit : Option Bool} {s v t : State}

/-- The reading of a locker's door in the status by logical door. -/
theorem logicalDoors_reading {doors : List DoorReading} {n : Nat} {d : DoorReading}
    (hfits : reportFits (.lockBank doors) table addr = true) (hn : lockerDoor n < bankDoors table addr)
    (hd : doors[if bankMirrored table addr then bankDoors table addr - 1 - lockerDoor n else lockerDoor n]? = some d) :
    (logicalDoors (bankMirrored table addr) (bankDoors table addr) doors)[lockerDoor n]? = some d :=
  (logicalDoors_get (reportFits_lockBank hfits) hn).trans hd

theorem ReadBefore.locker_reconciled {doors : List DoorReading} {n : Nat} {l : Locker} {d : DoorReading}
    (hb : ReadBefore addr (logicalReport (.lockBank doors) table addr) bit s v)
    (ha : ReadAfter addr (reconcileOwner addr (logicalReport (.lockBank doors) table addr) v) t)
    (hd : (logicalDoors (bankMirrored table addr) (bankDoors table addr) doors)[lockerDoor n]? = some d)
    (hn : lockerBank n = addr - 1) (hl : s.lmu.find n = some l) : t.lmu.find n = some (l.readAt d) := by
  rw [ha.lmu, logicalReport, reconcileOwner, reconcileBank_find _ _ hn, hb.lmu, hl, Option.map_some, Locker.readFrom_of_get hd]

theorem ReadBefore.locker_regained {doors : List DoorReading} {n : Nat} {l : Locker} {d : DoorReading} {x : LockerState}
    (hb : ReadBefore addr (logicalReport (.lockBank doors) table addr) bit s v)
    (ha : ReadAfter addr (regainOwner addr (logicalReport (.lockBank doors) table addr) v) t)
    (hd : (logicalDoors (bankMirrored table addr) (bankDoors table addr) doors)[lockerDoor n]? = some d)
    (hn : lockerBank n = addr - 1) (hl : s.lmu.find n = some l) (hs : l.state = .unreachable) (hx : l.remembered = some x) :
    t.lmu.find n = some ({ l with state := x, remembered := none }.readAt d) := by
  have hrestored : l.restored = { l with state := x, remembered := none } := by simp [Locker.restored, hs, hx]
  rw [ha.lmu, logicalReport, regainOwner, regainBank_find _ _ hn, hb.lmu, hl, Option.map_some, hrestored,
    Locker.readFrom_of_get hd]

theorem ReadBefore.cabin_reconciled {d : DoorReading} {c : Cabin} (hb : ReadBefore addr (.cabin d) bit s v)
    (ha : ReadAfter addr (reconcileOwner addr (.cabin d) v) t) (hc : s.cbu.find (addr - 33) = some c) :
    t.cbu.find (addr - 33) = some (c.sensedAt d s.sck.counter) := by
  rw [ha.cbu, reconcileOwner, reconcileCabin_find d (by rw [hb.cbu, hc]), hb.now]

theorem ReadBefore.cabin_regained {d : DoorReading} {c : Cabin} {x : CabinState} (hb : ReadBefore addr (.cabin d) bit s v)
    (ha : ReadAfter addr (regainOwner addr (.cabin d) v) t) (hc : s.cbu.find (addr - 33) = some c) (hs : c.state = .unreachable)
    (hr : c.remembered = some x) (hx : x ≠ .free) :
    t.cbu.find (addr - 33) = some ({ c with state := x, remembered := none }.sensedAt d s.sck.counter) := by
  rw [ha.cbu, regainOwner, regainCabin_find d (by rw [hb.cbu, hc]) hs hr hx, hb.now]

/-- The record of a band given back by a lane. -/
theorem BandRegister.find_unquoted {g : BandRegister} {b : BandNo} {q : BandRecord} (h : g.find b = some q) :
    (g.update b (fun r => { r with state := .inside, quote := none })).find b = some { q with state := .inside, quote := none } := by
  simp [h]

theorem ReadBefore.lane_kept {slot : Option BandNo} {gate shutter : Bool} {e : Lane}
    (hb : ReadBefore addr (.lane slot gate shutter) bit s v)
    (ha : ReadAfter addr (reconcileOwner addr (.lane slot gate shutter) v) t) (he : s.xlu.find (addr - 85) = some e)
    (h : e.state = .idle ∨ e.state = .passing ∨ (e.state = .holding ∧ slot.isSome = true ∧ slot = e.band)) :
    t.xlu.find (addr - 85) = some { e with slot := slot } ∧ t.bdr = s.bdr := by
  obtain ⟨hxlu, hbdr⟩ := reconcileLane_kept (s := v) (by rw [hb.xlu, he]) h
  exact ⟨by rw [ha.xlu, reconcileOwner, hxlu], by rw [ha.bdr, reconcileOwner, hbdr, hb.bdr]⟩

theorem ReadBefore.lane_ended {slot : Option BandNo} {gate shutter : Bool} {e : Lane} {b : BandNo} {q : BandRecord}
    (hb : ReadBefore addr (.lane slot gate shutter) bit s v)
    (ha : ReadAfter addr (reconcileOwner addr (.lane slot gate shutter) v) t) (he : s.xlu.find (addr - 85) = some e)
    (hs : e.state = .holding) (hband : e.band = some b) (hslot : slot ≠ some b) (hq : s.bdr.find b = some q) :
    t.xlu.find (addr - 85)
        = some { e with state := .idle, band := none, quoteAmount := none, quoteExpiry := none, slot := slot }
      ∧ t.bdr.find b = some { q with state := .inside, quote := none } ∧ t.cnu.bits.getLsbD 3 = true := by
  obtain ⟨hxlu, hbdr, hbit⟩ := reconcileLane_ended (s := v) (by rw [hb.xlu, he]) hs hband hslot
  exact ⟨by rw [ha.xlu, reconcileOwner, hxlu],
    by rw [ha.bdr, reconcileOwner, hbdr, hb.bdr]; exact BandRegister.find_unquoted hq, ha.cnu 3 hbit⟩

theorem ReadBefore.lane_regained {slot : Option BandNo} {gate shutter : Bool} {e : Lane}
    (hb : ReadBefore addr (.lane slot gate shutter) bit s v)
    (ha : ReadAfter addr (regainOwner addr (.lane slot gate shutter) v) t) (he : s.xlu.find (addr - 85) = some e)
    (hs : e.state = .unreachable) :
    t.xlu.find (addr - 85) = some (e.regained slot)
      ∧ (∀ b q, e.remembered = some .holding → e.band = some b → s.bdr.find b = some q →
          t.bdr.find b = some { q with state := .inside, quote := none } ∧ t.cnu.bits.getLsbD 3 = true) := by
  have he' : v.xlu.find (addr - 85) = some e := by rw [hb.xlu, he]
  refine ⟨by rw [ha.xlu, regainOwner, regainLane_find slot he'], fun b q hr hband hq => ?_⟩
  obtain ⟨hbdr, hbit⟩ := regainLane_ended slot he' (by simp [Lane.acting, hs, hr]) hband
  exact ⟨by rw [ha.bdr, regainOwner, hbdr, hb.bdr]; exact BandRegister.find_unquoted hq, ha.cnu 3 hbit⟩

end

/-- Settles O60: by the health of the station, its record and its owner's entries. -/
theorem statusReadsReconcile : Obligations.StatusReadsReconcile := by
  intro p st r s hp hread hst hfits
  have hexec := execPollAnswer_status hp hread hfits
  have hkept : KeepsAllBut [.bdr, .lmu, .cbu, .xlu, .flm, .lkc, .cnu] s
      (goodAnswer p (statusReply r) (some (logicalReport r s.table p.addr)) s) := by simp [keepsAllBut_iff]
  by_cases hlost : st.health = .lost
  case pos =>
    obtain ⟨hb, ha, hbit⟩ := goodAnswer_regains (r := r) hst hlost (logicalReport r s.table p.addr)
    obtain ⟨hidle, st', hst', hheld, hdirty⟩ := hb.record_after (regainOwner_outline _ _ _) ha
    refine ⟨_, st', hexec, hidle, hst', hheld.health, hheld.missCount, hheld.statusDue, hheld.lastGood, hheld.lastStatus,
      fun doors hr => ?_, fun hr => ?_, hdirty, fun _ => ⟨hheld.lastBit, hbit⟩, fun h => absurd hlost h,
      fun doors n l d hr hn hi hd hl => ?_, fun d c hr hc => ?_, fun slot gate shutter e hr he => ?_, hkept⟩
    · rw [hheld.lastStatus, hr]
      rfl
    · rw [hheld.lastStatus, logicalReport_of_other hr]
    · subst hr
      exact ⟨fun h => absurd hlost h, fun x _ hs hx _ =>
        hb.locker_regained ha (logicalDoors_reading hfits hi hd) hn hl hs hx⟩
    · subst hr
      exact ⟨fun h => absurd hlost h, fun x _ hs hx hfree => hb.cabin_regained ha hc hs hx hfree⟩
    · subst hr
      exact ⟨fun h => absurd hlost h, fun _ _ h => absurd hlost h, fun _ hs => hb.lane_regained ha he hs⟩
  case neg =>
    obtain ⟨hb, ha⟩ := goodAnswer_reconciles (r := r) hst hlost (logicalReport r s.table p.addr)
    obtain ⟨hidle, st', hst', hheld, hdirty⟩ := hb.record_after (reconcileOwner_outline _ _ _) ha
    refine ⟨_, st', hexec, hidle, hst', hheld.health, hheld.missCount, hheld.statusDue, hheld.lastGood, hheld.lastStatus,
      fun doors hr => ?_, fun hr => ?_, hdirty, fun h => absurd h hlost, fun _ => hheld.lastBit,
      fun doors n l d hr hn hi hd hl => ?_, fun d c hr hc => ?_, fun slot gate shutter e hr he => ?_, hkept⟩
    · rw [hheld.lastStatus, hr]
      rfl
    · rw [hheld.lastStatus, logicalReport_of_other hr]
    · subst hr
      exact ⟨fun _ _ => hb.locker_reconciled ha (logicalDoors_reading hfits hi hd) hn hl, fun _ h => absurd h hlost⟩
    · subst hr
      exact ⟨fun _ => hb.cabin_reconciled ha hc, fun _ h => absurd h hlost⟩
    · subst hr
      exact ⟨fun _ h => hb.lane_kept ha he h, fun b q _ hs hband hslot hq => hb.lane_ended ha he hs hband hslot hq,
        fun h => absurd h hlost⟩

end Sys2Proof.Machine

/-! The link controller through every operation (R153, R156, R160): orders, places in use and watches only grow where an order
arrives, is answered or opens a watch, and a notice queue within its 32 places stays within them. -/
namespace Sys2Proof.Machine

/-! ## What an act leaves of the link controller's queues -/

/-- What an owner's act leaves of the link controller: no order, no place in use and no watch more than before, and no more
than 32 notices where there were no more (R153, R156, R161). -/
structure LinkController.Keeps (l l' : LinkController) : Prop where
  orders : l'.orders.length ≤ l.orders.length
  places : l'.placesUsed ≤ l.placesUsed
  watches : l'.watches.length ≤ l.watches.length
  notices : l.notices.length ≤ 32 → l'.notices.length ≤ 32

@[simp] theorem LinkController.Keeps.refl (l : LinkController) : l.Keeps l := ⟨le_rfl, le_rfl, le_rfl, id⟩

theorem LinkController.Keeps.trans {l l' l'' : LinkController} (h : l.Keeps l') (h' : l'.Keeps l'') : l.Keeps l'' :=
  ⟨h'.orders.trans h.orders, h'.places.trans h.places, h'.watches.trans h.watches, h'.notices ∘ h.notices⟩

/-- The transmitter takes no more than a notice when it chooses (R155). -/
theorem LinkController.keeps_choose (l : LinkController) : l.Keeps l.choose := by
  refine ⟨by simp, by simp [LinkController.placesUsed], by simp, fun h => ?_⟩
  rcases l.choose_notices with hn | hn <;> rw [hn]
  · exact h
  · simp only [List.length_tail]; omega

theorem LinkController.keeps_start (l : LinkController) : l.Keeps l.start := by
  unfold LinkController.start
  split
  · exact l.keeps_choose
  · exact .refl l

/-- A notice is offered to a queue with room for it alone (R156). -/
theorem LinkController.keeps_offer (l : LinkController) (n : Notice) : l.Keeps (l.offer n) := by
  unfold LinkController.offer
  split
  · next hroom =>
    simp only [Config.maxNotices] at hroom
    obtain ⟨horders, hplaces, hwatches, hnotices⟩ := LinkController.keeps_start { l with notices := l.notices ++ [n] }
    exact ⟨horders, hplaces, hwatches, fun _ => hnotices (by simpa using hroom)⟩
  · exact ⟨le_rfl, le_rfl, le_rfl, id⟩

/-- Watches answered one by one: their number of answers more, and the rest as it stood. -/
theorem LinkController.foldl_place (f : Watch → Answer) (ws : List Watch) (l : LinkController) :
    (ws.foldl (fun k w => k.place (f w)) l).orders = l.orders
      ∧ (ws.foldl (fun k w => k.place (f w)) l).answers.length = l.answers.length + ws.length
      ∧ (ws.foldl (fun k w => k.place (f w)) l).watches = l.watches
      ∧ (ws.foldl (fun k w => k.place (f w)) l).notices = l.notices := by
  induction ws generalizing l with
  | nil => simp
  | cons w ws ih =>
    obtain ⟨horders, hanswers, hwatches, hnotices⟩ := ih (l.place (f w))
    simp only [List.foldl_cons, horders, hanswers, hwatches, hnotices]
    simp only [LinkController.place_orders, LinkController.place_answers, LinkController.place_watches,
      LinkController.place_keeps_notices, List.length_append, List.length_cons, List.length_nil, true_and, and_true]
    omega

/-- Watches answered and closed: each passes from one place to another (R153, R161). -/
theorem LinkController.keeps_answered (l : LinkController) (f : Watch → Answer) (p : Watch → Bool) :
    l.Keeps ((l.watches.filter p).foldl (fun k w => k.place (f w)) { l with watches := l.watches.filter (fun w => !p w) }) := by
  obtain ⟨horders, hanswers, hwatches, hnotices⟩ :=
    LinkController.foldl_place f (l.watches.filter p) { l with watches := l.watches.filter (fun w => !p w) }
  have hsum := List.length_eq_length_filter_add (l := l.watches) p
  refine ⟨by rw [horders], ?_, by rw [hwatches]; exact List.length_filter_le _ _, by rw [hnotices]; exact id⟩
  rw [LinkController.placesUsed, hanswers, hwatches, LinkController.placesUsed, hsum]
  dsimp only
  omega

theorem LinkController.keeps_meet (l : LinkController) (t : Target) (code second : Nat) : l.Keeps (l.meet t code second) :=
  l.keeps_answered (fun w => w.doneAnswer code second) (fun w => w.metBy t code)

theorem LinkController.keeps_cancelAll (l : LinkController) : l.Keeps l.cancelAll := by
  simpa [LinkController.cancelAll] using l.keeps_answered Watch.cancelled (fun _ => true)

/-- A watch closed and answered in its own place (R161, R162). -/
theorem LinkController.keeps_close (l : LinkController) (w : Watch) (a : Answer) (h : w ∈ l.watches) : l.Keeps (l.close w a) := by
  have hfewer : (l.watches.filter (fun x => x.tag ≠ w.tag)).length < l.watches.length :=
    List.length_filter_lt_length_iff_exists.mpr ⟨w, h, by simp⟩
  refine ⟨by simp [LinkController.close], ?_, ?_, by simp [LinkController.close]⟩
  · simp only [LinkController.placesUsed, LinkController.close, LinkController.place_answers, LinkController.place_watches,
      List.length_append, List.length_cons, List.length_nil]
    omega
  · simpa [LinkController.close] using hfewer.le

section
variable {l : LinkController} {s : State}

@[simp] theorem meetWhen_link (h : l.Keeps s.lkc) (changed : Bool) (t : Target) (code : Nat) :
    l.Keeps (meetWhen changed t code s) := by
  unfold meetWhen
  split
  · exact h.trans (s.lkc.keeps_meet t code s.now)
  · exact h

@[simp] theorem raiseNotice_link (h : l.Keeps s.lkc) (c : NoticeContent) : l.Keeps (raiseNotice c s).lkc := by
  unfold raiseNotice
  dsimp only
  split
  · exact h.trans (s.lkc.keeps_offer _)
  · exact h

theorem putLocker_link (h : l.Keeps s.lkc) (n : Nat) (k : Locker) : l.Keeps (putLocker n k s).lkc := meetWhen_link h _ _ _

theorem putCabin_link (h : l.Keeps s.lkc) (n : Nat) (c : Cabin) : l.Keeps (putCabin n c s).lkc := meetWhen_link h _ _ _

theorem moveCabin_link (h : l.Keeps s.lkc) (n : Nat) (c : Cabin) : l.Keeps (moveCabin n c s).lkc := meetWhen_link h _ _ _

theorem putLane_link (h : l.Keeps s.lkc) (n : Nat) (e : Lane) : l.Keeps (putLane n e s).lkc := meetWhen_link h _ _ _

theorem foldl_link {α : Type} (f : State → α → State) (as : List α) (h : l.Keeps s.lkc)
    (hf : ∀ t a, l.Keeps t.lkc → l.Keeps (f t a).lkc) : l.Keeps (as.foldl f s).lkc :=
  List.foldlRecOn as f (motive := fun t : State => l.Keeps t.lkc) h fun t ht a _ => hf t a ht

theorem overCabins_link (h : l.Keeps s.lkc) (f : Nat → State → State) (hf : ∀ n t, l.Keeps t.lkc → l.Keeps (f n t).lkc) :
    l.Keeps (overCabins f s).lkc := foldl_link _ _ h fun t n ht => hf n t ht

theorem overGroups_link (h : l.Keeps s.lkc) (f : Nat → State → State) (hf : ∀ n t, l.Keeps t.lkc → l.Keeps (f n t).lkc) :
    l.Keeps (overGroups f s).lkc := foldl_link _ _ h fun t n ht => hf n t ht

theorem overLanes_link (h : l.Keeps s.lkc) (f : Nat → State → State) (hf : ∀ n t, l.Keeps t.lkc → l.Keeps (f n t).lkc) :
    l.Keeps (overLanes f s).lkc := foldl_link _ _ h fun t n ht => hf n t ht

/-! ## Cabins -/

@[simp] theorem displaceTail_link (h : l.Keeps s.lkc) (g : Nat) (announce : Bool) :
    l.Keeps (displaceTail g announce s).lkc := by
  unfold displaceTail; dsimp only; (repeat' split) <;> simp [h]

@[simp] theorem restoreHead_link (h : l.Keeps s.lkc) (g : Nat) (e : QueueEntry) (announce : Bool) :
    l.Keeps (restoreHead g e announce s).lkc := by simp [restoreHead, h]

@[simp] theorem makeOffer_link (h : l.Keeps s.lkc) (g n : Nat) (e : QueueEntry) : l.Keeps (makeOffer g n e s).lkc := by
  unfold makeOffer; split <;> simp [h]

@[simp] theorem allocate_link (h : l.Keeps s.lkc) (g : Nat) : l.Keeps (allocate g s).lkc :=
  allocate_induct (P := fun t => l.Keeps t.lkc) g (fun _ _ _ _ _ ht _ _ _ _ => makeOffer_link ht g _ _) s h

@[simp] theorem allocateIfFree_link (h : l.Keeps s.lkc) (n : Nat) : l.Keeps (allocateIfFree n s).lkc := by
  unfold allocateIfFree; (repeat' split) <;> simp [h]

@[simp] theorem endOffer_link (h : l.Keeps s.lkc) (n : Nat) (c : Cabin) (next : CabinState) :
    l.Keeps (endOffer n c next s).lkc := by simp [endOffer, h]

@[simp] theorem withdrawBand_link (h : l.Keeps s.lkc) (b : BandNo) : l.Keeps (withdrawBand b s).lkc := by
  unfold withdrawBand; (repeat' split) <;> simp [h]

@[simp] theorem acceptOffer_link (h : l.Keeps s.lkc) (n : Nat) (c : Cabin) : l.Keeps (acceptOffer n c s).lkc := by
  unfold acceptOffer; dsimp only; split <;> simp [h]

@[simp] theorem renewEntry_link (h : l.Keeps s.lkc) (n : Nat) (c : Cabin) : l.Keeps (renewEntry n c s).lkc := by
  simp [renewEntry, h]

@[simp] theorem releaseCabin_link (h : l.Keeps s.lkc) (n : Nat) (c : Cabin) : l.Keeps (releaseCabin n c s).lkc := by
  unfold releaseCabin; dsimp only; split <;> simp [h]

@[simp] theorem endCleaning_link (h : l.Keeps s.lkc) (n : Nat) (c : Cabin) : l.Keeps (endCleaning n c s).lkc := by
  simp [endCleaning, h]

@[simp] theorem presentAtPad_link (h : l.Keeps s.lkc) (g : Nat) (r : BandRecord) : l.Keeps (presentAtPad g r s).lkc := by
  unfold presentAtPad; dsimp only; (repeat' split) <;> simp [h]

@[simp] theorem presentAtCabin_link (h : l.Keeps s.lkc) (n : Nat) (r : BandRecord) :
    l.Keeps (presentAtCabin n r s).lkc := by
  unfold presentAtCabin; dsimp only; (repeat' split) <;> simp [h]

@[simp] theorem masterAtCabin_link (h : l.Keeps s.lkc) (n : Nat) : l.Keeps (masterAtCabin n s).lkc := by
  unfold masterAtCabin; (repeat' split) <;> simp [h]

@[simp] theorem cabinDoorEvent_link (h : l.Keeps s.lkc) (n : Nat) (isOpen : Bool) :
    l.Keeps (cabinDoorEvent n isOpen s).lkc := by
  unfold cabinDoorEvent; (repeat' split) <;> simp [h]

@[simp] theorem takeOfferExpiry_link (h : l.Keeps s.lkc) (n : Nat) : l.Keeps (takeOfferExpiry n s).lkc := by
  have hmiss : ∀ c e, l.Keeps (missOffer n c e s).lkc := fun c e => by
    unfold missOffer; dsimp only; refine allocate_link (raiseNotice_link ?_ _) _; split <;> simp [h]
  unfold takeOfferExpiry; (repeat' split) <;> simp [h, hmiss]

@[simp] theorem takeEntryExpiry_link (h : l.Keeps s.lkc) (n : Nat) : l.Keeps (takeEntryExpiry n s).lkc := by
  unfold takeEntryExpiry; (repeat' split) <;> simp [h]

@[simp] theorem takeCleaningExpiry_link (h : l.Keeps s.lkc) (n : Nat) : l.Keeps (takeCleaningExpiry n s).lkc := by
  unfold takeCleaningExpiry; (repeat' split) <;> simp [h]

@[simp] theorem takeAbandonment_link (h : l.Keeps s.lkc) (n : Nat) : l.Keeps (takeAbandonment n s).lkc := by
  have hrelease := fun c => allocateIfFree_link (releaseCabin_link h n c) n
  unfold takeAbandonment; (repeat' split) <;> simp [h, abandonCabin, hrelease]

@[simp] theorem countCabin_link (h : l.Keeps s.lkc) (n : Nat) : l.Keeps (countCabin n s).lkc := by
  unfold countCabin
  dsimp only
  (repeat' split)
  · exact h
  · exact raiseNotice_link (putCabin_link h n _) _
  · exact putCabin_link h n _
  · exact h

@[simp] theorem closeOffer_link (h : l.Keeps s.lkc) (n : Nat) : l.Keeps (closeOffer n s).lkc := by
  unfold closeOffer; dsimp only; (repeat' split) <;> simp [h]

@[simp] theorem closeCabins_link (h : l.Keeps s.lkc) : l.Keeps (closeCabins s).lkc :=
  overGroups_link (overCabins_link (overGroups_link h _ fun g t ht => by simp [ht]) _ fun n t ht => closeOffer_link ht n) _
    fun g t ht => by simp [ht]

@[simp] theorem loseCabin_link (h : l.Keeps s.lkc) (n : Nat) : l.Keeps (loseCabin n s).lkc := by
  unfold loseCabin; (repeat' split) <;> simp [h]

@[simp] theorem restoreCabin_link (h : l.Keeps s.lkc) (n : Nat) : l.Keeps (restoreCabin n s).lkc := by
  unfold restoreCabin; (repeat' split) <;> simp [h]

@[simp] theorem reconcileCabin_link (h : l.Keeps s.lkc) (n : Nat) (door : DoorReading) :
    l.Keeps (reconcileCabin n door s).lkc := by
  unfold reconcileCabin; dsimp only; split <;> simp [h]

@[simp] theorem regainCabin_link (h : l.Keeps s.lkc) (n : Nat) (door : DoorReading) : l.Keeps (regainCabin n door s).lkc :=
  allocateIfFree_link (reconcileCabin_link (restoreCabin_link h n) n door) n

@[simp] theorem purgeCabin_link (h : l.Keeps s.lkc) (n : Nat) : l.Keeps (purgeCabin n s).lkc := by
  unfold purgeCabin; dsimp only; (repeat' split) <;> simp [h]

@[simp] theorem unwindOffer_link (h : l.Keeps s.lkc) (n : Nat) : l.Keeps (unwindOffer n s).lkc := by
  unfold unwindOffer; (repeat' split) <;> simp [h]

@[simp] theorem warmCabins_link (h : l.Keeps s.lkc) : l.Keeps (warmCabins s).lkc :=
  overGroups_link (overGroups_link h _ fun _ _ ht => foldl_link _ _ ht fun _ x hu => unwindOffer_link hu x.2) _
    fun g _ ht => allocate_link ht g

@[simp] theorem cabinAssign_link (h : l.Keeps s.lkc) (b : BandNo) (g : Nat) : l.Keeps (cabinAssign b g s).1.lkc := by
  unfold cabinAssign; (repeat' split) <;> simp [refused, done, h]

@[simp] theorem cleaned_link (h : l.Keeps s.lkc) (n : Nat) : l.Keeps (cleaned n s).1.lkc := by
  unfold cleaned; (repeat' split) <;> simp [refused, done, h]

@[simp] theorem cabinService_link (h : l.Keeps s.lkc) (n d : Nat) : l.Keeps (cabinService n d s).1.lkc := by
  have hout : ∀ c, l.Keeps (cabinOut n c s).lkc := fun c => by
    unfold cabinOut
    dsimp only
    (repeat' split)
    · exact putCabin_link h n _
    · exact allocate_link (restoreHead_link (endOffer_link h n c _) _ _ _) _
    · exact endOffer_link h n c _
    · exact putCabin_link h n _
    · exact putCabin_link h n _
    · exact h
    · exact h
  have hin : ∀ c, l.Keeps (cabinIn n c s).lkc := fun c => by
    unfold cabinIn
    dsimp only
    split
    · exact allocateIfFree_link (moveCabin_link h n _) n
    · exact putCabin_link h n _
  unfold cabinService; (repeat' split) <;> simp [refused, done, h, hout, hin]

/-! ## Lockers -/

@[simp] theorem moveLocker_link (h : l.Keeps s.lkc) (n : Nat) (k : Locker) : l.Keeps (moveLocker n k s).lkc := by
  simp [moveLocker, h]

@[simp] theorem settlePending_link (h : l.Keeps s.lkc) (n : Nat) : l.Keeps (settlePending n s).lkc := by
  unfold settlePending; (repeat' split) <;> simp [h]

@[simp] theorem vacate_link (h : l.Keeps s.lkc) (n : Nat) (k : Locker) : l.Keeps (vacate n k s).lkc := by
  simp [vacate, h]

@[simp] theorem settleTo_link (h : l.Keeps s.lkc) (n : Nat) (k : Locker) (st : LockerState) :
    l.Keeps (settleTo n k st s).lkc := by simp [settleTo, h]

@[simp] theorem forceLocker_link (h : l.Keeps s.lkc) (n : Nat) (k : Locker) (cause : AlarmCause) :
    l.Keeps (forceLocker n k cause s).lkc := by simp [forceLocker, h]

@[simp] theorem claimLocker_link (h : l.Keeps s.lkc) (n : Nat) (k : Locker) (b : BandNo) :
    l.Keeps (claimLocker n k b s).lkc := by
  unfold claimLocker; dsimp only; split <;> simp [h]

@[simp] theorem startOpening_link (h : l.Keeps s.lkc) (n : Nat) (k : Locker) (opener : Opener) :
    l.Keeps (startOpening n k opener s).lkc := by simp [startOpening, h]

@[simp] theorem renewOpening_link (h : l.Keeps s.lkc) (n : Nat) (k : Locker) (opener : Opener) :
    l.Keeps (renewOpening n k opener s).lkc := by simp [renewOpening, h]

@[simp] theorem openedInWindow_link (h : l.Keeps s.lkc) (n : Nat) (k : Locker) : l.Keeps (openedInWindow n k s).lkc := by
  unfold openedInWindow; (repeat' split) <;> simp [h]

@[simp] theorem clearLocker_link (h : l.Keeps s.lkc) (n : Nat) (k : Locker) : l.Keeps (clearLocker n k s).lkc := by
  unfold clearLocker; (repeat' split) <;> simp [h]

@[simp] theorem presentAtLocker_link (h : l.Keeps s.lkc) (n : Nat) (r : BandRecord) :
    l.Keeps (presentAtLocker n r s).lkc := by
  unfold presentAtLocker; (repeat' split) <;> simp [h]

@[simp] theorem masterAtLocker_link (h : l.Keeps s.lkc) (n : Nat) : l.Keeps (masterAtLocker n s).lkc := by
  unfold masterAtLocker; (repeat' split) <;> simp [h]

@[simp] theorem lockerDoorEvent_link (h : l.Keeps s.lkc) (n : Nat) (isOpen : Bool) :
    l.Keeps (lockerDoorEvent n isOpen s).lkc := by
  have hput := fun k => putLocker_link h n k
  unfold lockerDoorEvent
  dsimp only
  (repeat' split)
  · exact h
  · exact h
  · exact forceLocker_link (hput _) n _ _
  · exact forceLocker_link (hput _) n _ _
  · exact openedInWindow_link (hput _) n _
  · exact settleTo_link (hput _) n _ _
  · exact hput _

@[simp] theorem takeOpeningExpiry_link (h : l.Keeps s.lkc) (n : Nat) : l.Keeps (takeOpeningExpiry n s).lkc := by
  unfold takeOpeningExpiry; (repeat' split) <;> simp [h]

@[simp] theorem releaseLocker_link (h : l.Keeps s.lkc) (n : Nat) : l.Keeps (releaseLocker n s).1.lkc := by
  unfold releaseLocker; (repeat' split) <;> simp [refused, done, h]

@[simp] theorem clearForced_link (h : l.Keeps s.lkc) (n : Nat) : l.Keeps (clearForced n s).1.lkc := by
  unfold clearForced; (repeat' split) <;> simp [refused, done, h]

@[simp] theorem serviceOut_link (h : l.Keeps s.lkc) (n : Nat) (k : Locker) : l.Keeps (serviceOut n k s).lkc := by
  unfold serviceOut; (repeat' split) <;> simp [h]

@[simp] theorem serviceIn_link (h : l.Keeps s.lkc) (n : Nat) (k : Locker) : l.Keeps (serviceIn n k s).lkc := by
  unfold serviceIn; (repeat' split) <;> simp [h]

@[simp] theorem lockerService_link (h : l.Keeps s.lkc) (n d : Nat) : l.Keeps (lockerService n d s).1.lkc := by
  unfold lockerService; (repeat' split) <;> simp [refused, done, h]

@[simp] theorem resetUseCount_link (h : l.Keeps s.lkc) (n : Nat) : l.Keeps (resetUseCount n s).1.lkc := by
  unfold resetUseCount; split <;> simp [refused, done, h]

@[simp] theorem lockerWindowLoad_link (h : l.Keeps s.lkc) (a : WindowArgs) : l.Keeps (lockerWindowLoad a s).1.lkc := by
  have hlocker : ∀ t n, l.Keeps t.lkc → l.Keeps (windowLocker a t n).lkc := fun t n ht => by
    unfold windowLocker; (repeat' split) <;> simp [ht]
  unfold lockerWindowLoad
  split
  · exact h
  · exact foldl_link _ _ h hlocker

@[simp] theorem loseLocker_link (h : l.Keeps s.lkc) (n : Nat) : l.Keeps (loseLocker s n).lkc := by
  unfold loseLocker; (repeat' split) <;> simp [h]

@[simp] theorem restoreLocker_link (h : l.Keeps s.lkc) (n : Nat) : l.Keeps (restoreLocker s n).lkc := by
  unfold restoreLocker; (repeat' split) <;> simp [h]

@[simp] theorem treatLocker_link (h : l.Keeps s.lkc) (n : Nat) (k : Locker) : l.Keeps (treatLocker n k s).lkc := by
  unfold treatLocker; (repeat' split) <;> simp [h]

@[simp] theorem clearOrphanCheck_link (h : l.Keeps s.lkc) (n : Nat) : l.Keeps (clearOrphanCheck n s).lkc := by
  unfold clearOrphanCheck; split <;> simp [h]

@[simp] theorem reconcileLocker_link (h : l.Keeps s.lkc) (doors : List DoorReading) (n : Nat) :
    l.Keeps (reconcileLocker doors s n).lkc := by
  unfold reconcileLocker
  split
  · exact clearOrphanCheck_link (treatLocker_link (putLocker_link h n _) n _) n
  · exact h

@[simp] theorem reconcileBank_link (h : l.Keeps s.lkc) (b : Nat) (doors : List DoorReading) :
    l.Keeps (reconcileBank b doors s).lkc := by
  rw [reconcileBank, (endAwaiting_keeps _ _).2.2.2.2.2.2.2.2.1]
  exact foldl_link _ _ h fun t n ht => reconcileLocker_link ht doors n

@[simp] theorem regainBank_link (h : l.Keeps s.lkc) (b : Nat) (doors : List DoorReading) :
    l.Keeps (regainBank b doors s).lkc := by
  refine reconcileBank_link ?_ b doors
  have hfollow : ∀ u, (followAlarm b u).lkc = u.lkc := fun u => by simp
  rw [hfollow]
  exact foldl_link _ _ h fun t n ht => restoreLocker_link ht n

@[simp] theorem purgeLocker_link (h : l.Keeps s.lkc) (n : Nat) : l.Keeps (purgeLocker s n).lkc := by
  unfold purgeLocker; dsimp only; (repeat' split) <;> simp [h]

/-! ## Bands -/

@[simp] theorem barBand_link (h : l.Keeps s.lkc) (b : BandNo) : l.Keeps (barBand b s).1.lkc := by
  unfold barBand; (repeat' split) <;> simp [refused, done, h]

@[simp] theorem recognise_link (h : l.Keeps s.lkc) (reader : Reader) (b : BandNo) :
    l.Keeps (recognise reader b s).1.lkc := by
  unfold recognise; dsimp only; (repeat' split) <;> simp [h]

@[simp] theorem replaceBand_link (h : l.Keeps s.lkc) (old new : BandNo) : l.Keeps (replaceBand old new s).1.lkc := by
  have hhold : ∀ (ns : List Nat) (u : State), l.Keeps u.lkc → l.Keeps (ns.foldl (rehold new) u).lkc := fun ns u hu =>
    foldl_link _ _ hu fun t n ht => by unfold rehold; split <;> simp [ht]
  have hlink : ∀ (link : Option CabinLink) (u : State), l.Keeps u.lkc → l.Keeps (relink old new link u).lkc := fun link u hu => by
    unfold relink; (repeat' split) <;> simp [hu]
  have hmoved := fun link (ns : List Nat) (r : BandRegister) => hlink link _ (hhold ns { s with bdr := r } h)
  unfold replaceBand
  (repeat' split) <;> simp [refused, done, h, hmoved]

/-! ## Lanes -/

@[simp] theorem moveLane_link (h : l.Keeps s.lkc) (n : Nat) (e : Lane) : l.Keeps (moveLane n e s).lkc := by
  simp [moveLane, h]

@[simp] theorem letThrough_link (h : l.Keeps s.lkc) (n : Nat) (e : Lane) (b : BandNo) (cause : PassCause) (act : SlotAction) :
    l.Keeps (letThrough n e b cause act s).lkc := by simp [letThrough, h]

@[simp] theorem collectBand_link (h : l.Keeps s.lkc) (n : Nat) (e : Lane) (b : BandNo) (cause : PassCause) :
    l.Keeps (collectBand n e b cause s).lkc := by simp [collectBand, h]

@[simp] theorem quoteBand_link (h : l.Keeps s.lkc) (n : Nat) (e : Lane) (b : BandNo) (amount : Nat) (w : Working) :
    l.Keeps (quoteBand n e b amount w s).lkc := by simp [quoteBand, h]

@[simp] theorem assessBand_link (h : l.Keeps s.lkc) (n : Nat) (e : Lane) (r : BandRecord) :
    l.Keeps (assessBand n e r s).lkc := by
  unfold assessBand; dsimp only; split <;> simp [h]

@[simp] theorem insertAtIdle_link (h : l.Keeps s.lkc) (n : Nat) (e : Lane) (b : BandNo) (seen : Recognised) :
    l.Keeps (insertAtIdle n e b seen s).lkc := by
  unfold insertAtIdle; (repeat' split) <;> simp [h]

@[simp] theorem insertBand_link (h : l.Keeps s.lkc) (n : Nat) (b : BandNo) (seen : Recognised) :
    l.Keeps (insertBand n b seen s).lkc := by
  unfold insertBand
  dsimp only
  (repeat' split)
  · exact h
  · exact insertAtIdle_link (putLane_link h n _) n _ b seen
  · simp [h]
  · exact h
  · exact h

@[simp] theorem endQuote_link (h : l.Keeps s.lkc) (n : Nat) (e : Lane) (last : Option (BandNo × Nat)) :
    l.Keeps (endQuote n e last s).lkc := by simp [endQuote, h]

@[simp] theorem giveBackQuote_link (h : l.Keeps s.lkc) (n : Nat) (e : Lane) (last : Option (BandNo × Nat)) :
    l.Keeps (giveBackQuote n e last s).lkc := by
  unfold giveBackQuote; dsimp only; split <;> simp [h]

@[simp] theorem announceEnd_link (h : l.Keeps s.lkc) (n : Nat) (e : Lane) (cause : QuoteEnd) :
    l.Keeps (announceEnd n e cause s).lkc := by
  unfold announceEnd; split <;> simp [h]

@[simp] theorem takeQuoteExpiry_link (h : l.Keeps s.lkc) (n : Nat) : l.Keeps (takeQuoteExpiry n s).lkc := by
  unfold takeQuoteExpiry; (repeat' split) <;> simp [h]

@[simp] theorem endPass_link (h : l.Keeps s.lkc) (n : Nat) (e : Lane) : l.Keeps (endPass n e s).lkc := by
  simp [endPass, h]

@[simp] theorem takePassExpiry_link (h : l.Keeps s.lkc) (n : Nat) : l.Keeps (takePassExpiry n s).lkc := by
  unfold takePassExpiry; (repeat' split) <;> simp [h]

@[simp] theorem passSensed_link (h : l.Keeps s.lkc) (n : Nat) : l.Keeps (passSensed n s).lkc := by
  unfold passSensed; (repeat' split) <;> simp [h]

@[simp] theorem collectorFault_link (h : l.Keeps s.lkc) (n : Nat) : l.Keeps (collectorFault n s).lkc := by
  unfold collectorFault; split <;> simp [h]

@[simp] theorem paid_link (h : l.Keeps s.lkc) (a : PaidArgs) : l.Keeps (paid a s).1.lkc := by
  unfold paid paidAgainst; dsimp only; (repeat' split) <;> simp [refused, done, h]

@[simp] theorem cancelQuote_link (h : l.Keeps s.lkc) (n : Nat) : l.Keeps (cancelQuote n s).1.lkc := by
  unfold cancelQuote; (repeat' split) <;> simp [refused, done, h]

@[simp] theorem loseLane_link (h : l.Keeps s.lkc) (n : Nat) : l.Keeps (loseLane n s).lkc := by
  unfold loseLane; (repeat' split) <;> simp [h]

@[simp] theorem regainLane_link (h : l.Keeps s.lkc) (n : Nat) (slot : Option BandNo) :
    l.Keeps (regainLane n slot s).lkc := by
  unfold regainLane; dsimp only; (repeat' split) <;> simp [h]

@[simp] theorem reconcileLane_link (h : l.Keeps s.lkc) (n : Nat) (slot : Option BandNo) :
    l.Keeps (reconcileLane n slot s).lkc := by
  have hput := fun e => putLane_link h n e
  have hslot : ∀ u : State, l.Keeps u.lkc → l.Keeps (returnSlot n slot u).lkc := fun u hu => by simpa using hu
  unfold reconcileLane
  dsimp only
  (repeat' split)
  · exact h
  · exact hslot _ (hput _)
  · simp [h]
  · exact hput _
  · exact hslot _ (announceEnd_link (endQuote_link (hput _) n _ _) n _ _)
  · simp [h]
  · exact h

@[simp] theorem unwindQuote_link (h : l.Keeps s.lkc) (n : Nat) : l.Keeps (unwindQuote n s).lkc := by
  unfold unwindQuote; (repeat' split) <;> simp [h]

@[simp] theorem warmLanes_link (h : l.Keeps s.lkc) : l.Keeps (warmLanes s).lkc :=
  overLanes_link h _ fun n _ ht => unwindQuote_link ht n

@[simp] theorem purgeLanes_link (h : l.Keeps s.lkc) : l.Keeps (purgeLanes s).lkc := warmLanes_link h

/-! ## Presentations, events and answers -/

theorem presentAt_link (h : l.Keeps s.lkc) (reader : Reader) (b : BandNo) {master : State → State}
    {band : BandRecord → State → State} (hm : ∀ t, l.Keeps t.lkc → l.Keeps (master t).lkc)
    (hb : ∀ r t, l.Keeps t.lkc → l.Keeps (band r t).lkc) : l.Keeps (presentAt reader b master band s).lkc := by
  unfold presentAt; dsimp only; split <;> simp [hm, hb, h]

@[simp] theorem bankEvent_link (h : l.Keeps s.lkc) (addr : Nat) (ev : StationEvent) : l.Keeps (bankEvent addr ev s).lkc := by
  cases ev with
  | bandPresented p b =>
    simp only [bankEvent]
    split
    · exact presentAt_link h _ _ (fun t ht => masterAtLocker_link ht _) fun r t ht => presentAtLocker_link ht _ r
    · exact h
  | doorChanged p isOpen => simp only [bankEvent]; split <;> simp [h]
  | passSensed => exact h
  | collectorFault => exact h

@[simp] theorem cabinEvent_link (h : l.Keeps s.lkc) (addr : Nat) (ev : StationEvent) :
    l.Keeps (cabinEvent addr ev s).lkc := by
  cases ev with
  | bandPresented p b => exact presentAt_link h _ _ (fun t ht => masterAtCabin_link ht _) fun r t ht => presentAtCabin_link ht _ r
  | doorChanged p isOpen => exact cabinDoorEvent_link h _ _
  | passSensed => exact h
  | collectorFault => exact h

@[simp] theorem padEvent_link (h : l.Keeps s.lkc) (addr : Nat) (ev : StationEvent) : l.Keeps (padEvent addr ev s).lkc := by
  cases ev with
  | bandPresented p b => exact presentAt_link h _ _ (fun t ht => by simpa using ht) fun r t ht => presentAtPad_link ht _ r
  | doorChanged p isOpen => exact h
  | passSensed => exact h
  | collectorFault => exact h

@[simp] theorem laneEvent_link (h : l.Keeps s.lkc) (addr : Nat) (ev : StationEvent) : l.Keeps (laneEvent addr ev s).lkc := by
  cases ev with
  | bandPresented p b => simp only [laneEvent, presentAtLane]; split <;> simp [h]
  | doorChanged p isOpen => exact h
  | passSensed => exact passSensed_link h _
  | collectorFault => exact collectorFault_link h _

@[simp] theorem routeEvent_link (h : l.Keeps s.lkc) (addr : Nat) (ev : StationEvent) :
    l.Keeps (routeEvent addr ev s).lkc := by
  unfold routeEvent; split <;> simp [h]

@[simp] theorem takeEvent_link (h : l.Keeps s.lkc) (addr : Nat) (event : Option (StationEvent × Bool)) :
    l.Keeps (takeEvent addr event s).lkc := by
  unfold takeEvent; (repeat' split) <;> simp [h]

@[simp] theorem takeRestart_link (h : l.Keeps s.lkc) (addr : Nat) (flag : Bool) : l.Keeps (takeRestart addr flag s).lkc := by
  unfold takeRestart; dsimp only; (repeat' split) <;> simp [h]

@[simp] theorem setHealth_link (h : l.Keeps s.lkc) (addr : Nat) (health : Health) :
    l.Keeps (setHealth addr health s).lkc := meetWhen_link h _ _ _

@[simp] theorem takeStatusOf_link (h : l.Keeps s.lkc) (addr : Nat) (r : Option StatusReport) :
    l.Keeps (takeStatusOf addr r s).lkc := by
  have hstart : ∀ u : State, l.Keeps u.lkc → l.Keeps (endStarting addr u).lkc := fun u hu => by
    unfold endStarting; split <;> simp [hu]
  have howner : ∀ (x : StatusReport) (u : State), l.Keeps u.lkc → l.Keeps (reconcileOwner addr x u).lkc := fun x u hu => by
    cases x <;> simp [reconcileOwner, hu]
  cases r <;> simp [takeStatusOf, takeStatus, h, hstart, howner]

@[simp] theorem regainStation_link (h : l.Keeps s.lkc) (addr : Nat) (r : StatusReport) :
    l.Keeps (regainStation addr r s).lkc := by
  have howner : ∀ u : State, l.Keeps u.lkc → l.Keeps (regainOwner addr r u).lkc := fun u hu => by
    cases r <;> simp [regainOwner, hu]
  exact raiseNotice_link (howner _ (setHealth_link (by simpa using h) addr .answering)) _

@[simp] theorem goodAnswer_link (h : l.Keeps s.lkc) (p : Poll) (reply : PollReply) (status : Option StatusReport) :
    l.Keeps (goodAnswer p reply status s).lkc := by
  have hanswer : l.Keeps (takeAnswer p reply status (endPoll s)).lkc :=
    takeStatusOf_link (by simpa using takeEvent_link (takeRestart_link
      (s := updateStation p.addr (fun st => st.answered (endPoll s).now) (endPoll s)) h p.addr reply.restart) p.addr reply.event) _ _
  unfold goodAnswer
  (repeat' split)
  · exact regainStation_link (s := endPoll s) h p.addr _
  · exact h
  · exact hanswer

@[simp] theorem missedPoll_link (h : l.Keeps s.lkc) (p : Poll) : l.Keeps (missedPoll p s).lkc := by
  have howner : ∀ u : State, l.Keeps u.lkc → l.Keeps (loseOwner p.addr u).lkc := fun u hu => by
    unfold loseOwner
    split
    · exact foldl_link _ _ hu fun t n ht => loseLocker_link ht n
    all_goals simp [hu]
  have hlose : ∀ u : State, l.Keeps u.lkc → l.Keeps (loseStation p.addr u).lkc := fun u hu =>
    raiseNotice_link (howner (updateStation p.addr (fun st => st.markRead .clearing) (setHealth p.addr .lost u))
      (setHealth_link hu p.addr .lost)) _
  unfold missedPoll missAnswer
  dsimp only
  (repeat' split) <;> simp [hlose, h]

/-! ## Watches -/

/-- A watch found by its tag is one of the open watches. -/
theorem cancelWatch_link (h : l.Keeps s.lkc) (tag : Byte) : l.Keeps (cancelWatch tag s).1.lkc := by
  unfold cancelWatch
  split
  · exact h
  · next w hw => exact h.trans (s.lkc.keeps_close w _ (List.mem_of_find?_eq_some hw))

@[simp] theorem takeWatchExpiry_link (h : l.Keeps s.lkc) (tag : Byte) : l.Keeps (takeWatchExpiry tag s).lkc := by
  unfold takeWatchExpiry
  (repeat' split)
  · exact h
  · next w hw _ => exact h.trans (s.lkc.keeps_close w _ (List.mem_of_find?_eq_some hw))
  · exact h

/-! ## The clock and the day -/

@[simp] theorem takeDue_link (h : l.Keeps s.lkc) : l.Keeps (takeDue s).lkc := by
  have hlockers : l.Keeps (s.lmu.numbers.foldl (fun t n => takeOpeningExpiry n t) s).lkc :=
    foldl_link _ _ h fun t n ht => takeOpeningExpiry_link ht n
  have hcabins := overCabins_link (overCabins_link (overCabins_link (overCabins_link hlockers takeOfferExpiry
    fun n t ht => takeOfferExpiry_link ht n) takeEntryExpiry fun n t ht => takeEntryExpiry_link ht n) takeCleaningExpiry
    fun n t ht => takeCleaningExpiry_link ht n) takeAbandonment fun n t ht => takeAbandonment_link ht n
  have hlanes := overLanes_link (overLanes_link hcabins takeQuoteExpiry fun n t ht => takeQuoteExpiry_link ht n)
    takePassExpiry fun n t ht => takePassExpiry_link ht n
  exact foldl_link _ _ (by simpa using hlanes) fun t w ht => takeWatchExpiry_link ht w.tag

@[simp] theorem raiseBoundary_link (h : l.Keeps s.lkc) (minute : Nat) : l.Keeps (raiseBoundary minute s).lkc := by
  have hcount : l.Keeps (countOccupancy s).lkc := overCabins_link h _ fun n t ht => countCabin_link ht n
  unfold raiseBoundary swapTariff
  split
  · exact raiseNotice_link hcount _
  · exact hcount

@[simp] theorem closeDayWith_link (h : l.Keeps s.lkc) (reason : Nat → Nat → Nat → DayReason) :
    l.Keeps (closeDayWith reason s).lkc :=
  raiseNotice_link (closeCabins_link (s := { s with sck := { s.sck with day := .closed } }) h) _

@[simp] theorem dayLogic_link (h : l.Keeps s.lkc) : l.Keeps (dayLogic s).lkc := by
  have hwrap : ∀ u : State, l.Keeps u.lkc → l.Keeps (wrapDay u).lkc := fun u hu => by
    unfold wrapDay
    split
    · exact hu
    · exact raiseNotice_link hu _
  unfold dayLogic; split <;> simp [hwrap, h]

@[simp] theorem advanceSecond_link (h : l.Keeps s.lkc) : l.Keeps (advanceSecond s).lkc := by
  unfold advanceSecond; (repeat' split) <;> simp [h]

@[simp] theorem secondPasses_link (h : l.Keeps s.lkc) : l.Keeps (secondPasses s).lkc := by simp [secondPasses, h]

@[simp] theorem runClock_link (h : l.Keeps s.lkc) (n : Nat) : l.Keeps (runClock n s).lkc := by
  induction n generalizing s with
  | zero => exact h
  | succ n ih => exact ih (secondPasses_link h)

theorem runToTimer_link (h : l.Keeps s.lkc) (timer : Option Nat) (act : State → State)
    (hact : ∀ t, l.Keeps t.lkc → l.Keeps (act t).lkc) : l.Keeps (runToTimer timer act s).lkc := by
  cases timer <;> simp [runToTimer, hact, h]

@[simp] theorem setClock_link (h : l.Keeps s.lkc) (second : Nat) : l.Keeps (setClock second s).1.lkc := by
  have hcarry : l.Keeps (carryTimers (carryTimer s.now second) s).lkc :=
    h.trans ⟨le_rfl, by simp [carryTimers, LinkController.placesUsed], by simp [carryTimers], id⟩
  have hset : l.Keeps (clockSetTo second s).lkc := by
    unfold clockSetTo
    dsimp only
    split
    · exact raiseBoundary_link
        (s := { carryTimers (carryTimer s.now second) s with
          sck := { (carryTimers (carryTimer s.now second) s).sck with counter := second, clockValid := true } }) hcarry _
    · exact hcarry
  unfold setClock; (repeat' split) <;> simp [refused, done, h, hset]

@[simp] theorem adjustForward_link (h : l.Keeps s.lkc) (n : Nat) : l.Keeps (adjustForward n s).lkc := by
  induction n generalizing s with
  | zero => exact h
  | succ n ih => exact ih (takeDue_link (advanceSecond_link h))

@[simp] theorem adjustClock_link (h : l.Keeps s.lkc) (k : Int) : l.Keeps (adjustClock k s).1.lkc := by
  have hback : ∀ second, l.Keeps (adjustBack second s).lkc := fun second =>
    foldl_link (s := s) _ _ h fun t m ht => raiseBoundary_link (s := setCounter (m * 60) t) ht m
  have hto : ∀ second, l.Keeps (adjustTo second s).lkc := fun second => by
    unfold adjustTo; (repeat' split) <;> simp [h, hback]
  unfold adjustClock; dsimp only; (repeat' split) <;> simp [refused, done, h, hto]

@[simp] theorem openDay_link (h : l.Keeps s.lkc) : l.Keeps (openDay s).1.lkc := by
  unfold openDay
  (repeat' split)
  · exact h
  · exact h
  · exact h
  · exact h
  · exact raiseNotice_link h _

@[simp] theorem closeDay_link (h : l.Keeps s.lkc) : l.Keeps (closeDay s).1.lkc := by
  unfold closeDay; split <;> simp [refused, done, h]

@[simp] theorem purge_link (h : l.Keeps s.lkc) : l.Keeps (purge s).1.lkc := by
  have hlockers : ∀ u : State, l.Keeps u.lkc → l.Keeps (purgeLockers u).lkc := fun u hu => by
    rw [purgeLockers, (purgeReads_keeps _).2.2.2.2.2.2.2.2.1]
    exact foldl_link _ _ hu fun t n ht => purgeLocker_link ht n
  have hacts : l.Keeps (purgeActs s).lkc := by
    unfold purgeActs
    dsimp only
    exact overCabins_link (hlockers (emptyBands (purgeLanes s)) (purgeLanes_link h)) purgeCabin fun n t ht => purgeCabin_link ht n
  unfold purge
  split
  · exact h
  · exact raiseNotice_link hacts _

/-! ## The link controller's own acts -/

theorem setFramer_link (h : l.Keeps s.lkc) (f : Framer) : l.Keeps (setFramer f s).lkc :=
  h.trans ⟨le_rfl, le_rfl, le_rfl, id⟩

theorem reportDiscard_link (h : l.Keeps s.lkc) (cause : DiscardCause) : l.Keeps (reportDiscard cause s).lkc := by
  unfold reportDiscard
  split
  · exact h.trans ⟨le_rfl, le_rfl, le_rfl, fun hn => by simpa using hn⟩
  · exact raiseNotice_link h _

theorem endFrame_link (h : l.Keeps s.lkc) (cause : DiscardCause) : l.Keeps (endFrame cause s).lkc := by
  unfold endFrame
  split
  · exact reportDiscard_link (setFramer_link h .hunting) cause
  · exact h

theorem LinkController.keeps_cutOff (k : LinkController) : k.Keeps k.cutOff :=
  LinkController.Keeps.trans
    (l' := { k with orders := [], answers := [], watches := [], tx := if k.tx = Transmitter.answer then .idle else k.tx })
    ⟨by simp, by simp [LinkController.placesUsed], by simp, id⟩ (LinkController.keeps_start _)

theorem linkReset_link (h : l.Keeps s.lkc) : l.Keeps (linkReset s).lkc :=
  raiseNotice_link (s := { s with lkc := s.lkc.cutOff }) (h.trans s.lkc.keeps_cutOff) _

@[simp] theorem warmReset_link (h : l.Keeps s.lkc) : l.Keeps (warmReset s).lkc := by
  have howners : ∀ u : State, l.Keeps u.lkc → l.Keeps (warmOwners u).lkc := fun u hu => by
    unfold warmOwners
    split
    · exact warmLanes_link (warmCabins_link hu)
    · exact hu
  exact (howners _ (linkReset_link h)).trans ⟨le_rfl, le_rfl, le_rfl, id⟩

theorem takeBreak_link (h : l.Keeps s.lkc) : l.Keeps (takeBreak s).lkc := by
  have hreset : l.Keeps (linkReset (setFramer .awaitingMark s)).lkc := linkReset_link (setFramer_link h .awaitingMark)
  unfold takeBreak
  dsimp only
  split
  · exact warmReset_link hreset
  · exact hreset

theorem LinkController.keeps_endSend (k : LinkController) : k.Keeps k.endSend := by
  unfold LinkController.endSend
  split
  · exact .refl k
  · exact LinkController.Keeps.trans (l' := { k with resetPhase := k.phaseAfterSend, answers := k.answers.tail })
      ⟨le_rfl, by simp [LinkController.placesUsed], le_rfl, id⟩ (LinkController.keeps_choose _)
  · exact k.keeps_choose

@[simp] theorem siteCommit_link (h : l.Keeps s.lkc) : l.Keeps (siteCommit s).1.lkc := by
  unfold siteCommit
  (repeat' split)
  · exact h
  · exact h
  · exact h.trans s.lkc.keeps_cancelAll

end

end Sys2Proof.Machine

namespace Sys2Proof.Machine

/-! ## The orders and their answers (R153, R154, R160) -/

/-- The queues of the link controller within their capacities (R153, R156, R160). -/
def LinkController.Fits (l : LinkController) : Prop :=
  l.orders.length ≤ 4 ∧ l.placesUsed ≤ 8 ∧ l.notices.length ≤ 32 ∧ l.watches.length ≤ 4

theorem LinkController.Keeps.fits {l l' : LinkController} (h : l.Keeps l') (hl : l.Fits) : l'.Fits := by
  obtain ⟨horders, hplaces, hnotices, hwatches⟩ := hl
  exact ⟨h.orders.trans horders, h.places.trans hplaces, h.notices hnotices, h.watches.trans hwatches⟩

/-- An answer placed where a place is left. -/
theorem LinkController.Fits.place {l : LinkController} (h : l.Fits) (hroom : l.placesUsed < 8) (a : Answer) : (l.place a).Fits := by
  obtain ⟨horders, -, hnotices, hwatches⟩ := h
  refine ⟨by simpa using horders, ?_, by simpa using hnotices, by simpa using hwatches⟩
  simp only [LinkController.placesUsed, LinkController.place_answers, LinkController.place_watches, List.length_append,
    List.length_cons, List.length_nil] at hroom ⊢
  omega

/-- What a dispatched order comes to: places left, or an owner's own use of the place. -/
theorem examineOrder_fits (k : OrderKind) (tag : Byte) (body : List Byte) (owner : State → Owned) (s : State)
    (ho : s.lkc.Fits → s.lkc.placesUsed < 8 → (settleOwned tag (owner s)).lkc.Fits) (h : s.lkc.Fits)
    (hroom : s.lkc.placesUsed < 8) : (examineOrder k tag body owner s).lkc.Fits := by
  unfold examineOrder
  (repeat' split)
  · exact ho h hroom
  · exact h.place hroom _
  · exact h.place hroom _

/-- An order dispatched or left waiting: the buffer takes it only while it is empty (R153, R154). -/
theorem dispatchOrder_fits (o : OrderFrame) (act : State → State) (s : State)
    (ha : ∀ u, u.lkc.Fits → u.lkc.placesUsed < 8 → (act u).lkc.Fits) (h : s.lkc.Fits) : (dispatchOrder o act s).lkc.Fits := by
  have hroom : canDispatch s = true → s.lkc.placesUsed < 8 := fun hc => by
    rw [canDispatch, Bool.and_eq_true] at hc
    exact of_decide_eq_true hc.1
  obtain ⟨horders, hplaces, hnotices, hwatches⟩ := h
  unfold dispatchOrder
  (repeat' split)
  · next hc =>
    exact ha (popOrder s) ⟨by simp [popOrder]; omega, hplaces, hnotices, hwatches⟩ (hroom hc)
  · exact ⟨horders, hplaces, hnotices, hwatches⟩
  · next hc => exact ha s ⟨horders, hplaces, hnotices, hwatches⟩ (hroom hc)
  · next hempty _ => exact ⟨by simp [appendOrder, hempty], hplaces, hnotices, hwatches⟩
  · exact ⟨horders, hplaces, hnotices, hwatches⟩

theorem runOrder_fits (k : OrderKind) (tag : Byte) (body : List Byte) (owner : State → Owned) (s : State)
    (ho : ∀ u, u.lkc.Fits → u.lkc.placesUsed < 8 → (settleOwned tag (owner u)).lkc.Fits) (h : s.lkc.Fits) :
    (runOrder k tag body owner s).lkc.Fits :=
  dispatchOrder_fits _ _ s (fun u => examineOrder_fits k tag body owner u (ho u)) h

/-- An order whose owner's act keeps the queues takes one place for its answer. -/
theorem runOrder_fits_of_keeps (k : OrderKind) (tag : Byte) (body : List Byte) (owner : State → Owned) (s : State)
    (ho : ∀ u : State, u.lkc.Keeps (owner u).1.lkc) (h : s.lkc.Fits) : (runOrder k tag body owner s).lkc.Fits := by
  refine runOrder_fits k tag body owner s (fun u hu hroom => ?_) h
  unfold settleOwned
  split
  · exact (ho u).fits hu
  · exact ((ho u).fits hu).place ((ho u).places.trans_lt hroom) _

/-- WATCH opens a watch in the place that its dispatch found, and no more than four are open (R160). -/
theorem watch_fits (tag : Byte) (a : WatchArgs) (u : State) (hu : u.lkc.Fits) (hroom : u.lkc.placesUsed < 8) :
    (settleOwned tag (watch tag a u)).lkc.Fits := by
  unfold watch
  (repeat' split)
  · exact hu.place hroom _
  · exact hu.place hroom _
  · exact hu.place hroom _
  · exact hu.place hroom _
  · exact hu.place hroom _
  · next hbusy =>
    obtain ⟨horders, -, hnotices, -⟩ := hu
    simp only [Config.maxWatches, not_le] at hbusy
    refine ⟨horders, ?_, hnotices, ?_⟩
    · simp only [LinkController.placesUsed, settleOwned, List.length_append, List.length_cons, List.length_nil] at hroom ⊢
      omega
    · simp only [settleOwned, List.length_append, List.length_cons, List.length_nil]
      omega

/-- A frame arriving takes an order's place in the buffer, an answer's place, or none (R153). -/
theorem arrive_fits (o : OrderFrame) (s : State) (h : s.lkc.Fits) : (arrive o s).lkc.Fits := by
  unfold arrive
  (repeat' split)
  · next hroom =>
    obtain ⟨-, hplaces, hnotices, hwatches⟩ := h
    simp only [Config.maxOrders] at hroom
    exact ⟨by simp only [appendOrder, List.length_append, List.length_cons, List.length_nil]; omega, hplaces, hnotices, hwatches⟩
  · next hroom => exact h.place hroom _
  · exact (reportDiscard_link (.refl _) .noPlace).fits h

theorem takeFrame_fits (bytes : List Byte) (s : State) (h : s.lkc.Fits) : (takeFrame bytes s).lkc.Fits := by
  have hhunting : (setFramer .hunting s).lkc.Fits := (setFramer_link (.refl _) .hunting).fits h
  unfold takeFrame
  split
  · exact arrive_fits _ _ hhunting
  · exact (reportDiscard_link (.refl _) .check).fits hhunting

theorem coldReset_fits (straps : BitVec 2) (s : State) : (coldReset straps s).lkc.Fits := by
  unfold coldReset
  dsimp only
  split <;> simp [rebuild, coldBase, resetLink, LinkController.Fits, LinkController.placesUsed]

/-! ## The step -/

theorem exec_fits (c : Instr) (s t : State) (h : s.lkc.Fits) (ht : exec c s = .next t) : t.lkc.Fits := by
  have horder := fun (k : OrderKind) (tag : Byte) (body : List Byte) (owner : State → Owned)
    (ho : ∀ u : State, u.lkc.Keeps (owner u).1.lkc) => runOrder_fits_of_keeps k tag body owner s ho h
  cases c
  all_goals
    injection ht with ht
    subst ht
  case coldReset straps => exact coldReset_fits straps s
  case frameReceived => split <;> simp [takeFrame_fits, h]
  case watch tag body => exact runOrder_fits _ _ _ _ _ (fun u hu hroom => watch_fits tag _ u hu hroom) h
  case unknownOrder =>
    split
    · exact h
    · exact dispatchOrder_fits _ _ s (fun u hu hroom => hu.place hroom _) h
  case lockerServiceOut | lockerServiceIn | cabinServiceOut | cabinServiceIn =>
    split
    · exact h
    · exact horder _ _ _ _ fun u => by simp
  case frameLengthOutOfRange =>
    split
    · exact h
    · exact (endFrame_link (.refl _) _).fits h
  case byteWithoutStopBit | interByteGap => exact (endFrame_link (.refl _) _).fits h
  case lineBreak =>
    split
    · exact h
    · exact (takeBreak_link (.refl _)).fits h
  case startByteReceived | lineReturnToMark =>
    split
    · exact h
    · exact h
  case transmissionEnd => exact s.lkc.keeps_endSend.fits h
  case noticeHoldAsserted => exact h
  case noticeHoldNegated => exact (LinkController.keeps_start { s.lkc with hold := false }).fits h
  case warmReset =>
    split
    · exact (warmReset_link (.refl _)).fits h
    · exact h
  case pollAnswer reply =>
    (repeat' split)
    · exact h
    · exact (missedPoll_link (.refl _) _).fits h
    · exact (goodAnswer_link (.refl _) _ reply _).fits h
  case missedAnswer =>
    split
    · exact h
    · exact (missedPoll_link (.refl _) _).fits h
  case openingExpiry | offerExpiry | entryExpiry | cleaningExpiry | abandonment | quoteExpiry | passExpiry | watchExpiry
      | desiredEntryExpiry =>
    exact (runToTimer_link (.refl _) _ _ fun t ht => by simp [ht]).fits h
  case poll => exact (by simp : s.lkc.Keeps (sendPoll s).lkc).fits h
  case storeWriteEnd copy => cases copy <;> exact h
  case minuteBoundary | midnightRollover => exact (runClock_link (.refl _) _).fits h
  case cancelWatch tag body => exact horder _ _ _ _ fun u => cancelWatch_link (.refl _) _
  case reset => exact horder _ _ _ _ fun u => ⟨le_rfl, le_rfl, le_rfl, id⟩
  all_goals exact horder _ _ _ _ fun u => by simp

theorem step_keepsLink : KeptByStep LinkWithinCapacity := by
  intro s t h ht
  unfold step at ht
  split at ht
  · injection ht with ht
    subst ht
    exact (secondPasses_link (.refl _)).fits h
  · next c rest _ => exact exec_fits c { s with pending := rest } t h ht

end Sys2Proof.Machine

/-! The call queues through every operation (R57, R58): a band joins or is put back at the tail only of a queue with room, and
one restored at the head of a full queue displaces the band at its tail. -/
namespace Sys2Proof.Machine

/-! ## Queues within their 32 entries -/

/-- Every call queue within its 32 entries (R57). -/
def CabinUnit.QueuesFit (u : CabinUnit) : Prop := ∀ g ∈ u.groups, g.queue.length ≤ 32

@[simp] theorem CabinUnit.queuesFit_put (u : CabinUnit) (n : Nat) (c : Cabin) : (u.put n c).QueuesFit ↔ u.QueuesFit := Iff.rfl

theorem CabinUnit.QueuesFit.queue {u : CabinUnit} (h : u.QueuesFit) (g : Nat) : (u.queue g).length ≤ 32 := by
  unfold CabinUnit.queue CabinUnit.group
  cases hg : u.groups[g]? with
  | none => simp
  | some k => simpa using h k (List.mem_of_getElem? hg)

/-- A group's record changed, its queue left within its entries. -/
theorem CabinUnit.QueuesFit.updateGroup {u : CabinUnit} (h : u.QueuesFit) (g : Nat) (f : Group → Group)
    (hf : ∀ k, u.group g = some k → (f k).queue.length ≤ 32) : (u.updateGroup g f).QueuesFit := by
  intro k hk
  obtain ⟨i, hi⟩ := List.mem_iff_getElem?.mp hk
  simp only [CabinUnit.updateGroup, List.getElem?_modify] at hi
  obtain ⟨k₀, hk₀, rfl⟩ := Option.map_eq_some_iff.mp hi
  split
  · next heq => subst heq; exact hf k₀ hk₀
  · exact h k₀ (List.mem_of_getElem? hk₀)

section
variable {s : State}

theorem setQueue_queues (h : s.cbu.QueuesFit) (g : Nat) (f : List QueueEntry → List QueueEntry)
    (hf : (f (s.cbu.queue g)).length ≤ 32) : (setQueue g f s).cbu.QueuesFit :=
  h.updateGroup g _ fun k hk => by simpa [CabinUnit.queue, hk] using hf

/-- A queue that gets no longer stays within its entries. -/
theorem setQueue_queues_of_le (h : s.cbu.QueuesFit) (g : Nat) (f : List QueueEntry → List QueueEntry)
    (hf : ∀ q, (f q).length ≤ q.length) : (setQueue g f s).cbu.QueuesFit :=
  setQueue_queues h g f ((hf _).trans (h.queue g))

theorem foldl_queues {α : Type} (f : State → α → State) (as : List α) (h : s.cbu.QueuesFit)
    (hf : ∀ t a, t.cbu.QueuesFit → (f t a).cbu.QueuesFit) : (as.foldl f s).cbu.QueuesFit :=
  List.foldlRecOn as f (motive := fun t : State => t.cbu.QueuesFit) h fun t ht a _ => hf t a ht

theorem overCabins_queues (h : s.cbu.QueuesFit) (f : Nat → State → State) (hf : ∀ n t, t.cbu.QueuesFit → (f n t).cbu.QueuesFit) :
    (overCabins f s).cbu.QueuesFit := foldl_queues _ _ h fun t n ht => hf n t ht

theorem overGroups_queues (h : s.cbu.QueuesFit) (f : Nat → State → State) (hf : ∀ n t, t.cbu.QueuesFit → (f n t).cbu.QueuesFit) :
    (overGroups f s).cbu.QueuesFit := foldl_queues _ _ h fun t n ht => hf n t ht

theorem overLanes_queues (h : s.cbu.QueuesFit) (f : Nat → State → State) (hf : ∀ n t, t.cbu.QueuesFit → (f n t).cbu.QueuesFit) :
    (overLanes f s).cbu.QueuesFit := foldl_queues _ _ h fun t n ht => hf n t ht

/-! ## Queues and offers -/

theorem appendEntry_queues (h : s.cbu.QueuesFit) (g : Nat) (e : QueueEntry) (hroom : (s.cbu.queue g).length < 32) :
    (appendEntry g e s).cbu.QueuesFit :=
  setQueue_queues h g (fun q => q ++ [e]) (by simpa using hroom)

theorem joinQueue_queues (h : s.cbu.QueuesFit) (g : Nat) (b : BandNo) (hroom : (s.cbu.queue g).length < 32) :
    (joinQueue g b s).cbu.QueuesFit := by
  have hqueue : ∀ t, (s.cbu.updateGroup g (fun k => { k with nextTicket := t })).queue g = s.cbu.queue g := fun t => by
    cases hg : s.cbu.group g <;> simp [CabinUnit.queue, CabinUnit.group_updateGroup, hg]
  have hnext : ∀ t, (s.cbu.updateGroup g (fun k => { k with nextTicket := t })).QueuesFit := fun t =>
    h.updateGroup g (fun k => { k with nextTicket := t }) fun k hk => h k (List.mem_of_getElem? hk)
  exact appendEntry_queues (hnext _) g _ (by simpa only [hqueue] using hroom)

@[simp] theorem removeEntry_queues (h : s.cbu.QueuesFit) (g : Nat) (b : BandNo) : (removeEntry g b s).cbu.QueuesFit :=
  setQueue_queues_of_le h g _ fun _ => List.length_filter_le _ _

/-- A band taken from a full queue's tail leaves room for one at its head (R58 (c)). -/
theorem displaceTail_room (h : s.cbu.QueuesFit) (g : Nat) (announce : Bool) :
    (displaceTail g announce s).cbu.QueuesFit ∧ ((displaceTail g announce s).cbu.queue g).length < 32 := by
  have hqueue := h.queue g
  have htail : (setQueue g List.dropLast s).cbu.QueuesFit := setQueue_queues_of_le h g _ fun q => by simp
  have hroom : ((setQueue g List.dropLast s).cbu.queue g).length < 32 := by
    rw [setQueue_cbu]
    cases hg : s.cbu.group g with
    | none => simp [CabinUnit.queue, CabinUnit.group_updateGroup, hg]
    | some k =>
      simp only [CabinUnit.queue, CabinUnit.group_updateGroup, hg, Option.map_some, Option.getD_some,
        List.length_dropLast, if_true] at hqueue ⊢
      omega
  unfold displaceTail
  dsimp only
  (repeat' split)
  · next hless => exact ⟨h, by simpa [Config.maxQueue] using hless⟩
  · next hnone => exact ⟨h, by rw [List.getLast?_eq_none_iff.mp hnone]; simp⟩
  · simpa using ⟨htail, hroom⟩
  · simpa using ⟨htail, hroom⟩

@[simp] theorem restoreHead_queues (h : s.cbu.QueuesFit) (g : Nat) (e : QueueEntry) (announce : Bool) :
    (restoreHead g e announce s).cbu.QueuesFit := by
  obtain ⟨hwithin, hroom⟩ := displaceTail_room h g announce
  exact setQueue_queues hwithin g _ (by simpa using hroom)

@[simp] theorem makeOffer_queues (h : s.cbu.QueuesFit) (g n : Nat) (e : QueueEntry) : (makeOffer g n e s).cbu.QueuesFit := by
  unfold makeOffer
  split
  · exact h
  · simpa using setQueue_queues_of_le h g List.tail fun q => by simp

@[simp] theorem allocate_queues (h : s.cbu.QueuesFit) (g : Nat) : (allocate g s).cbu.QueuesFit :=
  allocate_induct (P := fun t => t.cbu.QueuesFit) g (fun _ _ _ _ _ ht _ _ _ _ => makeOffer_queues ht g _ _) s h

@[simp] theorem allocateIfFree_queues (h : s.cbu.QueuesFit) (n : Nat) : (allocateIfFree n s).cbu.QueuesFit := by
  unfold allocateIfFree; (repeat' split) <;> simp [h]

@[simp] theorem withdrawBand_queues (h : s.cbu.QueuesFit) (b : BandNo) : (withdrawBand b s).cbu.QueuesFit := by
  unfold withdrawBand; (repeat' split) <;> simp [h]

/-! ## Presentations, events and timers -/

@[simp] theorem presentAtPad_queues (h : s.cbu.QueuesFit) (g : Nat) (r : BandRecord) : (presentAtPad g r s).cbu.QueuesFit := by
  have hrefuse : ∀ code, (refuseAt (padAddr g) 0 code s).cbu.QueuesFit := fun code => by simpa using h
  unfold presentAtPad
  dsimp only
  (repeat' split)
  · exact hrefuse _
  · exact hrefuse _
  · exact hrefuse _
  · exact hrefuse _
  · exact hrefuse _
  · exact hrefuse _
  · exact hrefuse _
  · next hroom =>
    simp only [Config.maxQueue, not_le] at hroom
    have hjoined : (playOnce (padAddr g) .accept (joinQueue g r.number s)).cbu.QueuesFit := by
      simpa using joinQueue_queues h g r.number hroom
    simpa using allocate_queues hjoined g

@[simp] theorem presentAtCabin_queues (h : s.cbu.QueuesFit) (n : Nat) (r : BandRecord) : (presentAtCabin n r s).cbu.QueuesFit := by
  have haccept : ∀ c, (acceptOffer n c s).cbu.QueuesFit := fun c => by
    unfold acceptOffer; dsimp only; split <;> simp [h]
  unfold presentAtCabin; dsimp only; (repeat' split) <;> simp [h, haccept]

@[simp] theorem masterAtCabin_queues (h : s.cbu.QueuesFit) (n : Nat) : (masterAtCabin n s).cbu.QueuesFit := by
  unfold masterAtCabin; (repeat' split) <;> simp [h]

@[simp] theorem cabinDoorEvent_queues (h : s.cbu.QueuesFit) (n : Nat) (isOpen : Bool) :
    (cabinDoorEvent n isOpen s).cbu.QueuesFit := by
  unfold cabinDoorEvent; (repeat' split) <;> simp [h]

@[simp] theorem takeOfferExpiry_queues (h : s.cbu.QueuesFit) (n : Nat) : (takeOfferExpiry n s).cbu.QueuesFit := by
  have hmiss : ∀ c e, (missOffer n c e s).cbu.QueuesFit := fun c e => by
    unfold missOffer
    dsimp only
    refine allocate_queues ?_ _
    rw [(raiseNotice_keeps _ _).2.2.2.1]
    split
    · next hroom =>
      rw [Bool.and_eq_true] at hroom
      exact appendEntry_queues (s := endOffer n c .free s) h _ _ (of_decide_eq_true hroom.2)
    · simpa using h
  unfold takeOfferExpiry; (repeat' split) <;> simp [h, hmiss]

@[simp] theorem takeEntryExpiry_queues (h : s.cbu.QueuesFit) (n : Nat) : (takeEntryExpiry n s).cbu.QueuesFit := by
  unfold takeEntryExpiry; (repeat' split) <;> simp [h]

@[simp] theorem takeCleaningExpiry_queues (h : s.cbu.QueuesFit) (n : Nat) : (takeCleaningExpiry n s).cbu.QueuesFit := by
  unfold takeCleaningExpiry
  (repeat' split)
  · exact h
  · exact allocateIfFree_queues (s := endCleaning n _ s) h n
  · exact h

@[simp] theorem takeAbandonment_queues (h : s.cbu.QueuesFit) (n : Nat) : (takeAbandonment n s).cbu.QueuesFit := by
  have habandon : ∀ c, (abandonCabin n c s).cbu.QueuesFit := fun c =>
    allocateIfFree_queues (s := releaseCabin n c s) (by simpa using h) n
  unfold takeAbandonment; (repeat' split) <;> simp [habandon, h]

@[simp] theorem countCabin_queues (h : s.cbu.QueuesFit) (n : Nat) : (countCabin n s).cbu.QueuesFit := by
  unfold countCabin; dsimp only; (repeat' split) <;> simp [h]

/-! ## Acts of other blocks -/

theorem emptyQueue_queues (h : s.cbu.QueuesFit) (g : Nat) : (emptyQueue g s).cbu.QueuesFit := by
  refine setQueue_queues ?_ g _ (by simp)
  simpa using h

@[simp] theorem closeOffer_queues (h : s.cbu.QueuesFit) (n : Nat) : (closeOffer n s).cbu.QueuesFit := by
  unfold closeOffer; dsimp only; (repeat' split) <;> simp [h]

@[simp] theorem closeCabins_queues (h : s.cbu.QueuesFit) : (closeCabins s).cbu.QueuesFit :=
  overGroups_queues (overCabins_queues (overGroups_queues h _ fun g _ ht => emptyQueue_queues ht g) _
    fun n _ ht => closeOffer_queues ht n) _ fun g t ht => by simpa using ht

@[simp] theorem loseCabin_queues (h : s.cbu.QueuesFit) (n : Nat) : (loseCabin n s).cbu.QueuesFit := by
  unfold loseCabin; (repeat' split) <;> simp [h]

@[simp] theorem restoreCabin_queues (h : s.cbu.QueuesFit) (n : Nat) : (restoreCabin n s).cbu.QueuesFit := by
  unfold restoreCabin; (repeat' split) <;> simp [h]

@[simp] theorem reconcileCabin_queues (h : s.cbu.QueuesFit) (n : Nat) (door : DoorReading) :
    (reconcileCabin n door s).cbu.QueuesFit := by
  unfold reconcileCabin; dsimp only; split <;> exact h

@[simp] theorem regainCabin_queues (h : s.cbu.QueuesFit) (n : Nat) (door : DoorReading) : (regainCabin n door s).cbu.QueuesFit :=
  allocateIfFree_queues (reconcileCabin_queues (restoreCabin_queues h n) n door) n

@[simp] theorem purgeCabin_queues (h : s.cbu.QueuesFit) (n : Nat) : (purgeCabin n s).cbu.QueuesFit := by
  unfold purgeCabin; dsimp only; (repeat' split) <;> simp [h]

@[simp] theorem unwindOffer_queues (h : s.cbu.QueuesFit) (n : Nat) : (unwindOffer n s).cbu.QueuesFit := by
  unfold unwindOffer
  (repeat' split)
  · exact h
  · exact h
  · exact restoreHead_queues (s := endOffer n _ .free s) h _ _ _

@[simp] theorem warmCabins_queues (h : s.cbu.QueuesFit) : (warmCabins s).cbu.QueuesFit :=
  overGroups_queues (overGroups_queues h _ fun _ _ ht => foldl_queues _ _ ht fun _ x hu => unwindOffer_queues hu x.2) _
    fun g _ ht => allocate_queues ht g

/-! ## The cabin orders -/

@[simp] theorem cabinAssign_queues (h : s.cbu.QueuesFit) (b : BandNo) (g : Nat) : (cabinAssign b g s).1.cbu.QueuesFit := by
  unfold cabinAssign
  dsimp only
  (repeat' split)
  · exact h
  · exact h
  · exact h
  · exact h
  · exact h
  · exact h
  · exact h
  · next hroom =>
    simp only [Config.maxQueue, not_le] at hroom
    simpa [done] using allocate_queues (joinQueue_queues h g b hroom) g

@[simp] theorem setCabinLimit_queues (h : s.cbu.QueuesFit) (g minutes : Nat) : (setCabinLimit g minutes s).1.cbu.QueuesFit := by
  unfold setCabinLimit
  split
  · exact h
  · exact h.updateGroup g _ fun k hk => h k (List.mem_of_getElem? hk)

@[simp] theorem cleaned_queues (h : s.cbu.QueuesFit) (n : Nat) : (cleaned n s).1.cbu.QueuesFit := by
  unfold cleaned
  (repeat' split)
  · exact h
  · exact allocateIfFree_queues (s := endCleaning n _ s) h n
  · exact h

@[simp] theorem cabinService_queues (h : s.cbu.QueuesFit) (n d : Nat) : (cabinService n d s).1.cbu.QueuesFit := by
  have hout : ∀ c, (cabinOut n c s).cbu.QueuesFit := fun c => by
    have hrestored := fun g e => allocate_queues (restoreHead_queues (s := endOffer n c .outOfService s) h g e true) g
    unfold cabinOut; dsimp only; (repeat' split) <;> simp [hrestored, h]
  have hin : ∀ c, (cabinIn n c s).cbu.QueuesFit := fun c => by
    unfold cabinIn
    dsimp only
    split
    · exact allocateIfFree_queues (s := moveCabin n _ s) h n
    · exact h
  unfold cabinService; (repeat' split) <;> simp [refused, done, h, hout, hin]

/-! ## Bands, lanes, events and answers -/

@[simp] theorem barBand_queues (h : s.cbu.QueuesFit) (b : BandNo) : (barBand b s).1.cbu.QueuesFit := by
  unfold barBand; (repeat' split) <;> simp [refused, done, h]

@[simp] theorem replaceBand_queues (h : s.cbu.QueuesFit) (old new : BandNo) : (replaceBand old new s).1.cbu.QueuesFit := by
  have hlink : ∀ (link : Option CabinLink) (u : State), u.cbu.QueuesFit → (relink old new link u).cbu.QueuesFit := fun link u hu => by
    have hqueue : ∀ g, (setQueue g (fun q => q.map (fun e => if e.band = old then { e with band := new } else e)) u).cbu.QueuesFit :=
      fun g => setQueue_queues_of_le hu g _ fun q => by simp
    unfold relink; (repeat' split) <;> simp_all
  unfold replaceBand
  (repeat' split) <;> simp [refused, done, h, hlink]

@[simp] theorem insertBand_queues (h : s.cbu.QueuesFit) (n : Nat) (b : BandNo) (seen : Recognised) :
    (insertBand n b seen s).cbu.QueuesFit := by
  have hassess : ∀ (u : State) e r, u.cbu.QueuesFit → (assessBand n e r u).cbu.QueuesFit := fun u e r hu => by
    unfold assessBand; dsimp only; split <;> simp [hu]
  have hidle : ∀ (u : State) e, u.cbu.QueuesFit → (insertAtIdle n e b seen u).cbu.QueuesFit := fun u e hu => by
    unfold insertAtIdle; (repeat' split) <;> simp [hassess, hu]
  unfold insertBand
  dsimp only
  (repeat' split) <;> simp [hidle, h]

theorem presentAt_queues (h : s.cbu.QueuesFit) (reader : Reader) (b : BandNo) {master : State → State}
    {band : BandRecord → State → State} (hm : ∀ t, t.cbu.QueuesFit → (master t).cbu.QueuesFit)
    (hb : ∀ r t, t.cbu.QueuesFit → (band r t).cbu.QueuesFit) : (presentAt reader b master band s).cbu.QueuesFit := by
  unfold presentAt; dsimp only; split <;> simp [hm, hb, h]

@[simp] theorem cabinEvent_queues (h : s.cbu.QueuesFit) (addr : Nat) (ev : StationEvent) :
    (cabinEvent addr ev s).cbu.QueuesFit := by
  cases ev with
  | bandPresented p b => exact presentAt_queues h _ _ (fun t ht => masterAtCabin_queues ht _) fun r t ht => presentAtCabin_queues ht _ r
  | doorChanged p isOpen => exact cabinDoorEvent_queues h _ _
  | passSensed => exact h
  | collectorFault => exact h

@[simp] theorem padEvent_queues (h : s.cbu.QueuesFit) (addr : Nat) (ev : StationEvent) :
    (padEvent addr ev s).cbu.QueuesFit := by
  cases ev with
  | bandPresented p b => exact presentAt_queues h _ _ (fun t ht => by simpa using ht) fun r t ht => presentAtPad_queues ht _ r
  | doorChanged p isOpen => exact h
  | passSensed => exact h
  | collectorFault => exact h

@[simp] theorem laneEvent_queues (h : s.cbu.QueuesFit) (addr : Nat) (ev : StationEvent) :
    (laneEvent addr ev s).cbu.QueuesFit := by
  cases ev with
  | bandPresented p b => simp only [laneEvent, presentAtLane]; split <;> simp [h]
  | doorChanged p isOpen => exact h
  | passSensed => simpa [laneEvent] using h
  | collectorFault => simpa [laneEvent] using h

@[simp] theorem routeEvent_queues (h : s.cbu.QueuesFit) (addr : Nat) (ev : StationEvent) :
    (routeEvent addr ev s).cbu.QueuesFit := by
  unfold routeEvent; split <;> simp [h]

@[simp] theorem takeStatusOf_queues (h : s.cbu.QueuesFit) (addr : Nat) (r : Option StatusReport) :
    (takeStatusOf addr r s).cbu.QueuesFit := by
  have howner : ∀ (x : StatusReport) (u : State), u.cbu.QueuesFit → (reconcileOwner addr x u).cbu.QueuesFit := fun x u hu => by
    cases x <;> simp [reconcileOwner, hu]
  cases r <;> simp [takeStatusOf, takeStatus, h, howner]

@[simp] theorem regainStation_queues (h : s.cbu.QueuesFit) (addr : Nat) (r : StatusReport) :
    (regainStation addr r s).cbu.QueuesFit := by
  have howner : ∀ u : State, u.cbu.QueuesFit → (regainOwner addr r u).cbu.QueuesFit := fun u hu => by
    cases r <;> simp [regainOwner, regainBank, hu]
  simp [regainStation, howner, h]

@[simp] theorem goodAnswer_queues (h : s.cbu.QueuesFit) (p : Poll) (reply : PollReply) (status : Option StatusReport) :
    (goodAnswer p reply status s).cbu.QueuesFit := by
  have hevent : ∀ u : State, u.cbu.QueuesFit → (takeEvent p.addr reply.event u).cbu.QueuesFit := fun u hu => by
    unfold takeEvent; (repeat' split) <;> simp [hu]
  unfold goodAnswer; (repeat' split) <;> simp [takeAnswer, hevent, h]

@[simp] theorem missedPoll_queues (h : s.cbu.QueuesFit) (p : Poll) : (missedPoll p s).cbu.QueuesFit := by
  have howner : ∀ u : State, u.cbu.QueuesFit → (loseOwner p.addr u).cbu.QueuesFit := fun u hu => by
    unfold loseOwner; split <;> simp [hu]
  have hlose : ∀ u : State, u.cbu.QueuesFit → (loseStation p.addr u).cbu.QueuesFit := fun u hu => by
    simp [loseStation, howner, hu]
  unfold missedPoll missAnswer
  dsimp only
  (repeat' split) <;> simp [hlose, h]

/-! ## The clock and the day -/

@[simp] theorem takeDue_queues (h : s.cbu.QueuesFit) : (takeDue s).cbu.QueuesFit := by
  have hlockers : (s.lmu.numbers.foldl (fun t n => takeOpeningExpiry n t) s).cbu.QueuesFit := by simpa using h
  have hcabins := overCabins_queues (overCabins_queues (overCabins_queues (overCabins_queues hlockers takeOfferExpiry
    fun n t ht => takeOfferExpiry_queues ht n) takeEntryExpiry fun n t ht => takeEntryExpiry_queues ht n) takeCleaningExpiry
    fun n t ht => takeCleaningExpiry_queues ht n) takeAbandonment fun n t ht => takeAbandonment_queues ht n
  simpa [takeDue] using hcabins

@[simp] theorem raiseBoundary_queues (h : s.cbu.QueuesFit) (minute : Nat) : (raiseBoundary minute s).cbu.QueuesFit := by
  have hcount : (countOccupancy s).cbu.QueuesFit := overCabins_queues h _ fun n t ht => countCabin_queues ht n
  simpa [raiseBoundary] using hcount

@[simp] theorem closeDayWith_queues (h : s.cbu.QueuesFit) (reason : Nat → Nat → Nat → DayReason) :
    (closeDayWith reason s).cbu.QueuesFit :=
  closeCabins_queues (s := { s with sck := { s.sck with day := .closed } }) h

@[simp] theorem advanceSecond_queues (h : s.cbu.QueuesFit) : (advanceSecond s).cbu.QueuesFit := by
  have hday : ∀ u : State, u.cbu.QueuesFit → (dayLogic u).cbu.QueuesFit := fun u hu => by
    unfold dayLogic; split <;> simp [hu]
  unfold advanceSecond; (repeat' split) <;> simp [hday, h]

@[simp] theorem secondPasses_queues (h : s.cbu.QueuesFit) : (secondPasses s).cbu.QueuesFit := by simp [secondPasses, h]

@[simp] theorem runClock_queues (h : s.cbu.QueuesFit) (n : Nat) : (runClock n s).cbu.QueuesFit := by
  induction n generalizing s with
  | zero => exact h
  | succ n ih => exact ih (secondPasses_queues h)

theorem runToTimer_queues (h : s.cbu.QueuesFit) (timer : Option Nat) (act : State → State)
    (hact : ∀ t, t.cbu.QueuesFit → (act t).cbu.QueuesFit) : (runToTimer timer act s).cbu.QueuesFit := by
  cases timer <;> simp [runToTimer, hact, h]

@[simp] theorem setClock_queues (h : s.cbu.QueuesFit) (second : Nat) : (setClock second s).1.cbu.QueuesFit := by
  have hset : (clockSetTo second s).cbu.QueuesFit := by
    unfold clockSetTo
    dsimp only
    split
    · exact raiseBoundary_queues
        (s := { carryTimers (carryTimer s.now second) s with
          sck := { (carryTimers (carryTimer s.now second) s).sck with counter := second, clockValid := true } }) h _
    · exact h
  unfold setClock; (repeat' split) <;> simp [refused, done, h, hset]

@[simp] theorem adjustForward_queues (h : s.cbu.QueuesFit) (n : Nat) : (adjustForward n s).cbu.QueuesFit := by
  induction n generalizing s with
  | zero => exact h
  | succ n ih => exact ih (takeDue_queues (advanceSecond_queues h))

@[simp] theorem adjustClock_queues (h : s.cbu.QueuesFit) (k : Int) : (adjustClock k s).1.cbu.QueuesFit := by
  have hback : ∀ second, (adjustBack second s).cbu.QueuesFit := fun second =>
    foldl_queues (s := s) _ _ h fun t m ht => raiseBoundary_queues (s := setCounter (m * 60) t) ht m
  have hto : ∀ second, (adjustTo second s).cbu.QueuesFit := fun second => by
    unfold adjustTo; (repeat' split) <;> simp [h, hback]
  unfold adjustClock; dsimp only; (repeat' split) <;> simp [refused, done, h, hto]

@[simp] theorem openDay_queues (h : s.cbu.QueuesFit) : (openDay s).1.cbu.QueuesFit := by
  have hopened : ∀ live, (openedDay live s).cbu.QueuesFit := fun live k hk => by
    obtain ⟨k₀, hk₀, rfl⟩ := List.mem_map.mp hk
    exact h k₀ hk₀
  unfold openDay; (repeat' split) <;> simp [refused, done, h, hopened]

@[simp] theorem closeDay_queues (h : s.cbu.QueuesFit) : (closeDay s).1.cbu.QueuesFit := by
  unfold closeDay; split <;> simp [refused, done, h]

@[simp] theorem purge_queues (h : s.cbu.QueuesFit) : (purge s).1.cbu.QueuesFit := by
  have hlockers : ∀ u : State, u.cbu.QueuesFit → (purgeLockers u).cbu.QueuesFit := fun u hu => by simpa [purgeLockers] using hu
  have hlanes : (emptyBands (purgeLanes s)).cbu.QueuesFit := by simpa [emptyBands, purgeLanes] using h
  have hacts : (purgeActs s).cbu.QueuesFit := by
    unfold purgeActs
    dsimp only
    exact overCabins_queues (hlockers (emptyBands (purgeLanes s)) hlanes) purgeCabin fun n t ht => purgeCabin_queues ht n
  unfold purge
  split
  · exact h
  · simpa only [done, (raiseNotice_keeps _ _).2.2.2.1] using hacts

/-! ## The resets -/

@[simp] theorem warmReset_queues (h : s.cbu.QueuesFit) : (warmReset s).cbu.QueuesFit := by
  have howners : ∀ u : State, u.cbu.QueuesFit → (warmOwners u).cbu.QueuesFit := fun u hu => by
    have hlanes : (warmLanes (warmCabins u)).cbu.QueuesFit := by simpa [warmLanes] using warmCabins_queues hu
    unfold warmOwners
    split
    · exact hlanes
    · exact hu
  exact howners (linkReset s) h

theorem takeBreak_queues (h : s.cbu.QueuesFit) : (takeBreak s).cbu.QueuesFit := by
  unfold takeBreak
  dsimp only
  split
  · exact warmReset_queues (s := linkReset (setFramer .awaitingMark s)) h
  · exact h

theorem freshCabins_queues (t : SiteTable) : (freshCabins t).QueuesFit := by
  intro g hg
  obtain ⟨k, -, rfl⟩ := List.mem_map.mp hg
  simp [freshGroup]

theorem coldReset_queues (straps : BitVec 2) (s : State) : (coldReset straps s).cbu.QueuesFit := by
  unfold coldReset
  dsimp only
  split
  · exact freshCabins_queues _
  · intro g hg; simp [coldBase] at hg

theorem siteCommit_queues (h : s.cbu.QueuesFit) : (siteCommit s).1.cbu.QueuesFit := by
  unfold siteCommit
  (repeat' split)
  · exact h
  · exact h
  · exact freshCabins_queues _

end

/-! ## The step -/

theorem runOrder_queues (k : OrderKind) (tag : Byte) (body : List Byte) (owner : State → Owned) {s : State}
    (ho : ∀ u, u.cbu.QueuesFit → (owner u).1.cbu.QueuesFit) (h : s.cbu.QueuesFit) :
    (runOrder k tag body owner s).cbu.QueuesFit :=
  runOrder_owner (fun u => u.cbu.QueuesFit) k tag body owner s (fun _ _ hu => hu) ho h

theorem exec_queues (c : Instr) (s t : State) (h : s.cbu.QueuesFit) (ht : exec c s = .next t) : t.cbu.QueuesFit := by
  cases c
  all_goals
    injection ht with ht
    subst ht
  case coldReset straps => exact coldReset_queues straps s
  case siteCommit => exact runOrder_queues _ _ _ _ (fun u hu => siteCommit_queues hu) h
  case unknownOrder =>
    split
    · exact h
    · unfold dispatchOrder; (repeat' split) <;> exact h
  case lockerServiceOut | lockerServiceIn | cabinServiceOut | cabinServiceIn =>
    split
    · exact h
    · exact runOrder_queues _ _ _ _ (fun u hu => by simp [hu]) h
  case pollAnswer reply =>
    (repeat' split)
    · exact h
    · exact missedPoll_queues h _
    · exact goodAnswer_queues h _ _ _
  case missedAnswer =>
    split
    · exact h
    · exact missedPoll_queues h _
  case openingExpiry | offerExpiry | entryExpiry | cleaningExpiry | abandonment | quoteExpiry | passExpiry | watchExpiry
      | desiredEntryExpiry => exact runToTimer_queues h _ _ fun t ht => by simp [ht]
  case storeWriteEnd copy => cases copy <;> exact h
  case warmReset =>
    split
    · exact warmReset_queues h
    · exact h
  case lineBreak =>
    split
    · exact h
    · exact takeBreak_queues h
  case minuteBoundary | midnightRollover => exact runClock_queues h _
  case poll | frameReceived | frameLengthOutOfRange | byteWithoutStopBit | interByteGap | transmissionEnd
      | noticeHoldAsserted | noticeHoldNegated | startByteReceived | lineReturnToMark =>
    (repeat' split) <;> simp [h]
  all_goals exact runOrder_queues _ _ _ _ (fun u hu => by simp [hu]) h

theorem step_keepsQueues : KeptByStep QueuesWithinCapacity := by
  intro s t h ht
  unfold step at ht
  split at ht
  · injection ht with ht
    subst ht
    exact secondPasses_queues h
  · next c rest _ => exact exec_queues c { s with pending := rest } t h ht

end Sys2Proof.Machine

/-! The visit of the field line master (R137): only POLL, an answer and a reset move it. -/
namespace Sys2Proof.Machine

theorem visit_of_outline {s t : State} (h : t.outline = s.outline) : t.flm.visit = s.flm.visit := by
  simp only [State.outline, Outline.mk.injEq] at h
  obtain ⟨-, -, -, hline⟩ := h
  have hbare : t.flm.bare.visit = s.flm.bare.visit := congrArg FieldLine.visit hline
  exact hbare

theorem VisitWithinFour.congr {s t : State} (h : VisitWithinFour s) (hv : t.flm.visit = s.flm.visit) : VisitWithinFour t := by
  rwa [VisitWithinFour, hv]

theorem VisitWithinFour.of_none {s : State} (h : s.flm.visit = none) : VisitWithinFour s := fun v hv => by
  rw [h] at hv; cases hv

/-! ## Answers and misses -/

@[simp] theorem updateStation_visit (a : Nat) (g : Station → Station) (s : State) :
    (updateStation a g s).flm.visit = s.flm.visit := rfl

@[simp] theorem setHealth_visit (a : Nat) (h : Health) (s : State) : (setHealth a h s).flm.visit = s.flm.visit := rfl

@[simp] theorem raiseNotice_visit (c : NoticeContent) (s : State) : (raiseNotice c s).flm.visit = s.flm.visit := rfl

@[simp] theorem endPoll_visit (s : State) : (endPoll s).flm.visit = s.flm.visit := rfl

@[simp] theorem takeRestart_visit (a : Nat) (flag : Bool) (s : State) : (takeRestart a flag s).flm.visit = s.flm.visit := by
  unfold takeRestart; dsimp only; (repeat' split) <;> simp

@[simp] theorem takeEvent_visit (a : Nat) (event : Option (StationEvent × Bool)) (s : State) :
    (takeEvent a event s).flm.visit = s.flm.visit := by
  unfold takeEvent
  (repeat' split)
  · rfl
  · rfl
  · exact (visit_of_outline (routeEvent_outline a _ _)).trans rfl

@[simp] theorem takeOverrun_visit (a : Nat) (flag : Bool) (read : Option ReadKind) (s : State) :
    (takeOverrun a flag read s).flm.visit = s.flm.visit := by
  unfold takeOverrun; split <;> simp

@[simp] theorem takeStatusOf_visit (a : Nat) (r : Option StatusReport) (s : State) :
    (takeStatusOf a r s).flm.visit = s.flm.visit := by
  have hstart : ∀ u, (endStarting a u).flm.visit = u.flm.visit := fun u => by unfold endStarting; split <;> simp
  cases r with
  | none => rfl
  | some x => simp [takeStatusOf, takeStatus, visit_of_outline (reconcileOwner_outline a x _), hstart]

@[simp] theorem regainStation_visit (a : Nat) (r : StatusReport) (s : State) :
    (regainStation a r s).flm.visit = s.flm.visit := by
  simp [regainStation, visit_of_outline (regainOwner_outline a r _)]

@[simp] theorem loseStation_visit (a : Nat) (s : State) : (loseStation a s).flm.visit = s.flm.visit := by
  simp [loseStation]

/-- A visit that ends stays within its polls. -/
theorem endVisit_withinFour {s : State} (h : VisitWithinFour s) : VisitWithinFour (endVisit s) := by
  intro v hv
  obtain ⟨w, hw, rfl⟩ := Option.map_eq_some_iff.mp hv
  obtain ⟨hpolls, -⟩ := h w hw
  exact ⟨hpolls, nofun⟩

/-- A visit goes on only below four polls (R137). -/
theorem continueVisit_withinFour {s : State} (h : VisitWithinFour s) (event : Bool) :
    VisitWithinFour (continueVisit event s) := by
  intro v hv
  obtain ⟨w, hw, rfl⟩ := Option.map_eq_some_iff.mp hv
  obtain ⟨hpolls, -⟩ := h w hw
  refine ⟨hpolls, fun hgoes => ?_⟩
  rw [FieldLine.goesOn, Bool.and_eq_true] at hgoes
  exact of_decide_eq_true hgoes.1

theorem goodAnswer_withinFour {s : State} (h : VisitWithinFour s) (p : Poll) (reply : PollReply)
    (status : Option StatusReport) : VisitWithinFour (goodAnswer p reply status s) := by
  have hended : VisitWithinFour (endPoll s) := h
  unfold goodAnswer
  (repeat' split)
  · exact endVisit_withinFour (hended.congr (by simp))
  · exact endVisit_withinFour hended
  · exact continueVisit_withinFour (hended.congr (by simp [takeAnswer])) _

theorem missedPoll_withinFour {s : State} (h : VisitWithinFour s) (p : Poll) : VisitWithinFour (missedPoll p s) := by
  have hended : VisitWithinFour (endPoll s) := h
  unfold missedPoll missAnswer
  dsimp only
  (repeat' split) <;> exact endVisit_withinFour (hended.congr (by simp))

/-- The visit of the next poll has at most four (R137). -/
theorem sendPoll_withinFour {s : State} (h : VisitWithinFour s) : VisitWithinFour (sendPoll s) := by
  unfold sendPoll
  split
  · next v _ hnext =>
    split
    · exact h
    · intro w hw
      obtain rfl : v = w := Option.some.inj hw
      refine ⟨nextVisit_within_four h hnext, fun hagain => ?_⟩
      have hended : v.again = false := by
        cases hv : s.flm.visit with
        | none => exact (FieldLine.nextVisit_start hv hnext).2
        | some u =>
          cases ha : u.again with
          | true =>
            rw [FieldLine.nextVisit_again hv ha, Option.some.injEq] at hnext
            rw [← hnext]
          | false => exact (FieldLine.nextVisit_addr hv ha hnext).2.1
      rw [hended] at hagain
      cases hagain
  · exact h

/-! ## PURGE and the resets -/

@[simp] theorem purge_visit (s : State) : (purge s).1.flm.visit = s.flm.visit := by
  have hlanes : (purgeLanes s).flm.visit = s.flm.visit :=
    visit_of_outline (s := s) (t := overLanes unwindQuote s) (by simp)
  have hlockers : ∀ u, (purgeLockers u).flm.visit = u.flm.visit := fun u =>
    visit_of_outline (s := u) (t := u.lmu.numbers.foldl purgeLocker u) (foldl_outline _ _ u purgeLocker_outline)
  have hcabins : ∀ u, (overCabins purgeCabin u).flm.visit = u.flm.visit := fun u =>
    visit_of_outline (overCabins_outline _ u purgeCabin_outline)
  have hacts : (purgeActs s).flm.visit = s.flm.visit :=
    ((hcabins _).trans (hlockers (emptyBands (purgeLanes s)))).trans hlanes
  unfold purge
  split
  · rfl
  · exact hacts

theorem warmReset_withinFour {s : State} (h : VisitWithinFour s) : VisitWithinFour (warmReset s) := by
  have howners : VisitWithinFour (warmOwners (linkReset s)) := by
    unfold warmOwners
    split
    · exact .of_none rfl
    · exact h
  exact howners

theorem takeBreak_withinFour {s : State} (h : VisitWithinFour s) : VisitWithinFour (takeBreak s) := by
  have hreset : VisitWithinFour (linkReset (setFramer .awaitingMark s)) := h
  unfold takeBreak
  dsimp only
  split
  · exact warmReset_withinFour hreset
  · exact hreset

theorem coldReset_withinFour (straps : BitVec 2) (s : State) : VisitWithinFour (coldReset straps s) := by
  refine .of_none ?_
  unfold coldReset
  dsimp only
  split <;> rfl

theorem siteCommit_withinFour {s : State} (h : VisitWithinFour s) : VisitWithinFour (siteCommit s).1 := by
  unfold siteCommit
  (repeat' split)
  · exact h
  · exact h
  · exact .of_none rfl

/-! ## The step -/

theorem runOrder_withinFour (k : OrderKind) (tag : Byte) (body : List Byte) (owner : State → Owned) {s : State}
    (ho : ∀ u, VisitWithinFour u → VisitWithinFour (owner u).1) (h : VisitWithinFour s) :
    VisitWithinFour (runOrder k tag body owner s) :=
  runOrder_owner VisitWithinFour k tag body owner s (fun _ _ hu => hu) ho h

theorem exec_withinFour (c : Instr) (s t : State) (h : VisitWithinFour s) (ht : exec c s = .next t) : VisitWithinFour t := by
  have horder := fun (k : OrderKind) (tag : Byte) (body : List Byte) (owner : State → Owned)
    (ho : ∀ u, (owner u).1.flm.visit = u.flm.visit) => runOrder_withinFour k tag body owner (fun u hu => hu.congr (ho u)) h
  cases c
  all_goals
    injection ht with ht
    subst ht
  case coldReset straps => exact coldReset_withinFour straps s
  case siteCommit => exact runOrder_withinFour _ _ _ _ (fun u hu => siteCommit_withinFour hu) h
  case unknownOrder =>
    split
    · exact h
    · unfold dispatchOrder; (repeat' split) <;> exact h
  case lockerServiceOut | lockerServiceIn | cabinServiceOut | cabinServiceIn =>
    split
    · exact h
    · exact horder _ _ _ _ fun u => visit_of_outline (by simp)
  case pollAnswer reply =>
    (repeat' split)
    · exact h
    · exact missedPoll_withinFour h _
    · exact goodAnswer_withinFour h _ _ _
  case missedAnswer =>
    split
    · exact h
    · exact missedPoll_withinFour h _
  case poll => exact sendPoll_withinFour h
  case openingExpiry | offerExpiry | entryExpiry | cleaningExpiry | abandonment | quoteExpiry | passExpiry | watchExpiry
      | desiredEntryExpiry => exact h.congr (visit_of_outline (runToTimer_outline _ _ _ fun t => by simp))
  case storeWriteEnd copy => cases copy <;> exact h
  case warmReset =>
    split
    · exact warmReset_withinFour h
    · exact h
  case lineBreak =>
    split
    · exact h
    · exact takeBreak_withinFour h
  case minuteBoundary | midnightRollover => exact h.congr (visit_of_outline (by simp))
  case frameReceived | frameLengthOutOfRange | byteWithoutStopBit | interByteGap | transmissionEnd
      | noticeHoldAsserted | noticeHoldNegated | startByteReceived | lineReturnToMark =>
    refine h.congr ?_
    (repeat' split) <;> simp
  case purge => exact horder _ _ _ _ purge_visit
  case issueBand | barBand | replaceBand | releaseLocker | clearForced | resetUseCount | lockerWindowLoad | cabinAssign
      | setCabinLimit | cleaned | paid | cancelQuote | setClock | adjustClock | openDay | closeDay =>
    exact horder _ _ _ _ fun u => visit_of_outline (by simp)
  all_goals exact horder _ _ _ _ fun u => by simp

theorem step_keepsVisit : KeptByStep VisitWithinFour := by
  intro s t h ht
  unfold step at ht
  split at ht
  · injection ht with ht
    subst ht
    exact h.congr (visit_of_outline (secondPasses_outline s))
  · next c rest _ => exact exec_withinFour c { s with pending := rest } t h ht

end Sys2Proof.Machine

namespace Sys2Proof.Machine

/-- Settles O7: no act but an arrival, an answer and a watch opened takes an order's, an answer's or a watch's place, and each of
these finds one; a join, a band put back and a band restored find or make room in their queue; a visit goes on only below four
polls. -/
theorem stepKeepsCapacities : Obligations.StepKeepsCapacities :=
  ⟨step_keepsLink, step_keepsQueues, step_keepsVisit⟩

end Sys2Proof.Machine

/-! Cleaning ended, and the cabin limit (R53, R70): CLEANED and SET CABIN LIMIT. -/
namespace Sys2Proof.Machine

/-! ## A cabin offered in the act that makes it Free (R62) -/

/-- What `allocateIfFree_offers` gives, where only the head entry's band has its link changed. -/
theorem offeredToHead_of {n : Nat} {c : Cabin} {e : QueueEntry} {rest : List QueueEntry} {r : BandRecord} {s t : State}
    (hn : t.cbu.find n = some (c.offeredTo e ((s.sck.counter + (groupSetting s c.group).offerWindow) % 86400)))
    (hm : ∀ m, m ≠ n → t.cbu.find m = s.cbu.find m) (hq : t.cbu.queue c.group = rest)
    (hbdr : t.bdr = s.bdr.update e.band (fun x => { x with link := some (.offered n) })) (hr : s.bdr.find e.band = some r) :
    OfferedToHead n c e rest r s t :=
  ⟨hn, hm, hq, by simp [hbdr, hr], fun x hx => by simp [hbdr, hx]⟩

/-! ## The end of a cleaning (R70) -/

/-- A cabin with no out-of-service pending has none to clear. -/
theorem Cabin.act_unmarked {c : Cabin} (h : c.pendingOut = false) (st : CabinState) :
    ({ c.act st with pendingOut := false } : Cabin) = c.act st := by
  cases c
  subst h
  unfold Cabin.act
  split <;> rfl

/-- A cleaned cabin, or what an Unreachable one remembers (R70, R71). -/
theorem Cabin.cleaned_eq_act (c : Cabin) :
    c.cleaned = { { c with cleaningExpiry := none }.act (if c.pendingOut then .outOfService else .free) with
      pendingOut := false } := by
  cases hp : c.pendingOut with
  | true => simp [Cabin.cleaned, hp]
  | false => simpa [Cabin.cleaned, hp] using (Cabin.act_unmarked (c := { c with cleaningExpiry := none }) hp .free).symm

theorem Cabin.cleaned_offeredTo {c : Cabin} (hs : c.state ≠ .unreachable) (hp : c.pendingOut = false) (e : QueueEntry) (x : Nat) :
    c.cleaned.offeredTo e x = ({ c with cleaningExpiry := none } : Cabin).offeredTo e x := by
  rw [Cabin.cleaned_eq hs]; simp [Cabin.offeredTo, hp]

/-- An Unreachable cabin stays Unreachable, whatever it remembers. -/
theorem Cabin.act_unreachable {c : Cabin} (h : c.state = .unreachable) (st : CabinState) : (c.act st).state = .unreachable := by
  simp [Cabin.act, h]

section
variable {n : Nat} {c : Cabin} {s : State}

theorem endCleaning_find (hc : s.cbu.find n = some c) : (endCleaning n c s).cbu.find n = some c.cleaned := by
  rw [endCleaning_cbu]; exact CabinUnit.find_put_self _ _ _ _ hc

/-- No offer follows a cleaning where nobody waits, or the cabin does not become Free. -/
theorem endCleaning_noOffer (hc : s.cbu.find n = some c)
    (h : s.cbu.queue c.group = [] ∨ c.state = .unreachable ∨ c.pendingOut = true) :
    allocateIfFree n (endCleaning n c s) = endCleaning n c s := by
  refine allocateIfFree_idle (endCleaning_find hc) ?_
  rcases h with hq | hs | hp
  · right; rw [Cabin.cleaned_group]; exact hq
  · left; rw [Cabin.cleaned_eq_act]; simp [Cabin.act_unreachable (c := { c with cleaningExpiry := none }) hs]
  · left
    by_cases hs : c.state = .unreachable
    · rw [Cabin.cleaned_eq_act]; simp [Cabin.act_unreachable (c := { c with cleaningExpiry := none }) hs]
    · rw [Cabin.cleaned_eq hs]; simp [hp]

/-- A cabin whose cleaning ends while a band waits and no other is Free: it is offered to the head of the queue (R62). -/
theorem endCleaning_offers {e : QueueEntry} {rest : List QueueEntry} {r : BandRecord} (hc : s.cbu.find n = some c)
    (hs : c.state ≠ .unreachable) (hp : c.pendingOut = false) (hq : s.cbu.queue c.group = e :: rest)
    (hf : s.cbu.lowestFree c.group = none) (hr : s.bdr.find e.band = some r) :
    OfferedToHead n { c with cleaningExpiry := none } e rest r s (allocateIfFree n (endCleaning n c s)) := by
  have hfree : c.cleaned.state = .free := by rw [Cabin.cleaned_eq hs]; simp [hp]
  have key := allocateIfFree_offers (c := c.cleaned) (e := e) (rest := rest) (u := endCleaning n c s) hc rfl rfl rfl hfree
    (by rw [Cabin.cleaned_group]; exact hq) (by rw [Cabin.cleaned_group]; exact hf)
  rw [Cabin.cleaned_group, Cabin.cleaned_offeredTo hs hp] at key
  obtain ⟨hn, hm, hqueue, hbdr⟩ := key
  exact offeredToHead_of hn hm hqueue hbdr hr

end

/-! ## The two orders -/

/-- Settles O31: SET CABIN LIMIT by its check, CLEANED by what the cabin, or its memory, is in. -/
theorem cabinLimitAndCleaned : Obligations.CabinLimitAndCleaned := by
  refine ⟨fun tag body s h hg hlow hhigh => ?_, fun tag body s h hbad => ?_, fun tag body s c h hc =>
    ⟨fun hs hidle => ?_, fun e rest r hs hp hq hf hr => ?_, fun hs => ?_⟩⟩
  · have hrange : ¬(3 < byteAt body 0 ∨ byteAt body 1 < 5 ∨ 120 < byteAt body 1) := by omega
    exact next_runOrder_done h (by simp_all [setCabinLimit])
  · exact next_runOrder_refused h (by simp [setCabinLimit, or_assoc, hbad])
  · refine ⟨_, next_runOrder_done h (by simp [cleaned, hc, hs]; rfl), answered_placeAnswer _ _, ?_⟩
    rw [endCleaning_noOffer (s := popOrder s) hc hidle]
    refine ⟨?_, fun m hm => ?_, rfl, by simp [keepsAllBut_iff]⟩
    · rw [← Cabin.cleaned_eq_act]; exact endCleaning_find (s := popOrder s) hc
    · exact CabinUnit.find_put_other _ _ _ _ hm
  · have hacting : c.acting = .cleaning := by simp [Cabin.acting, hs]
    refine ⟨_, next_runOrder_done h (by simp [cleaned, hc, hacting]; rfl), answered_placeAnswer _ _, ?_, by simp [keepsAllBut_iff]⟩
    exact endCleaning_offers (s := popOrder s) hc (by simp [hs]) hp hq hf hr
  · exact next_runOrder_refused h (by simp [cleaned, hc, hs])

end Sys2Proof.Machine

/-! The cabins' timers at their own second (R67, R69, R70). -/
namespace Sys2Proof.Machine

section
variable {n : Nat} {c : Cabin} {s : State}

/-- A cabin entry written with its state as it stood: no watch is evaluated. -/
theorem putCabin_of_sameState (d : Cabin) (hc : s.cbu.find n = some c) (hs : d.state = c.state) :
    putCabin n d s = { s with cbu := s.cbu.put n d } := by
  simp [putCabin, hc, hs, meetWhen_false, differs_same]

theorem cabinTimer_now {st : CabinState} {f : Cabin → Option Nat} (hc : s.cbu.find n = some c) (hs : c.acting = st)
    (hf : f c = some s.sck.counter) : cabinTimer n st f s = some s.now := by
  simp [cabinTimer, hc, hs, hf, State.now]

theorem exec_entryExpiry_now (hc : s.cbu.find n = some c) (hs : c.acting = .occupied) (hx : c.entryExpiry = some s.sck.counter) :
    exec (.entryExpiry n) s = .next (putCabin n { c with entryExpiry := none } s) := by
  simp only [exec, execEntryExpiry, cabinTimer_now hc hs hx, runToTimer_now]
  simp [takeEntryExpiry, hc, hs, hx, State.now]

theorem exec_cleaningExpiry_now (hc : s.cbu.find n = some c) (hs : c.acting = .cleaning)
    (hx : c.cleaningExpiry = some s.sck.counter) :
    exec (.cleaningExpiry n) s = .next (allocateIfFree n (endCleaning n c s)) := by
  simp only [exec, execCleaningExpiry, cabinTimer_now hc hs hx, runToTimer_now]
  simp [takeCleaningExpiry, hc, hs, hx, State.now]

theorem exec_abandonment_now {since : Nat} (hc : s.cbu.find n = some c) (hs : c.state = .occupied)
    (hd : c.doorOpenSince = some since) (hx : (since + (groupSetting s c.group).abandonTime) % 86400 = s.sck.counter) :
    exec (.abandonment n) s = .next (abandonCabin n c s) := by
  have hsecond : abandonSecond s c = some s.now := by simpa [abandonSecond, hd, addSeconds, Config.daySeconds, State.now] using hx
  have htimer : abandonTimer n s = some s.now := by simp [abandonTimer, hc, hs, hsecond]
  simp only [exec, execAbandonment, htimer, runToTimer_now]
  simp [takeAbandonment, hc, hs, hsecond]

/-- An abandoned cabin of a group with nobody waiting is released, and nothing follows but the notice (R69). -/
theorem abandonCabin_idle (hc : s.cbu.find n = some c) (hs : c.state ≠ .unreachable) (hq : s.cbu.queue c.group = []) :
    abandonCabin n c s = raiseNotice (.cabinAbandoned n c.band (minutesAdded s c)) (releaseCabin n c s) := by
  have hfind : (releaseCabin n c s).cbu.find n = some (c.released s.sck.counter (groupSetting s c.group).cleaningTime) := by
    rw [releaseCabin_cbu]; exact CabinUnit.find_put_self _ _ _ _ hc
  have hidle : (releaseCabin n c s).cbu.queue (c.released s.sck.counter (groupSetting s c.group).cleaningTime).group = [] := by
    rw [Cabin.released_group hs]; simpa using hq
  rw [abandonCabin, allocateIfFree_idle hfind (.inr hidle)]

end

/-- Settles O45: each timer's act at the present second, and for the cleaning whether a band waits. -/
theorem cabinTimersEnd : Obligations.CabinTimersEnd := by
  refine ⟨fun n c s hc => ⟨fun hs hx => ?_, fun hs hx hidle => ?_, fun e rest r hs hp hx hq hf hr => ?_⟩,
    fun n c b r since s hc hs hd hx hb hr hq => ?_⟩
  · rw [exec_entryExpiry_now hc hs hx]
    exact congrArg _ (putCabin_of_sameState { c with entryExpiry := none } hc rfl)
  · refine ⟨_, exec_cleaningExpiry_now hc hs hx, ?_⟩
    rw [endCleaning_noOffer hc hidle, ← Cabin.cleaned_eq_act]
    exact ⟨endCleaning_find hc, fun m hm => CabinUnit.find_put_other _ _ _ _ hm, rfl, by simp [keepsAllBut_iff]⟩
  · have hacting : c.acting = .cleaning := by simp [Cabin.acting, hs]
    exact ⟨_, exec_cleaningExpiry_now hc hacting hx, endCleaning_offers hc (by simp [hs]) hp hq hf hr, by simp [keepsAllBut_iff]⟩
  · have hreach : c.state ≠ .unreachable := by simp [hs]
    refine ⟨_, exec_abandonment_now hc hs hd hx, ?_⟩
    rw [abandonCabin_idle hc hreach hq]
    refine ⟨?_, ⟨c.released s.sck.counter (groupSetting s c.group).cleaningTime, ?_, ?_⟩, ?_, by simp [keepsAllBut_iff]⟩
    · simp [releaseCabin_bdr n c b s hb, hr]
    · simp [CabinUnit.find_put_self _ _ _ _ hc]
    · rw [Cabin.released_eq hreach]
      (repeat' split) <;> exact ⟨rfl, rfl, rfl⟩
    · simp [NoticeContent.cls, NoticeClass.code]

end Sys2Proof.Machine

/-! An offer missed (R65): once, with the band back at the tail of its queue, and twice, with the band out of the cabin system. -/
namespace Sys2Proof.Machine

section
variable {n : Nat} {c : Cabin} {s : State}

/-- A group whose queue holds an entry is configured. -/
theorem CabinUnit.lt_of_queue {u : CabinUnit} {g : Nat} (h : u.queue g ≠ []) : g < u.groups.length := by
  by_contra hge
  exact h (by simp [CabinUnit.queue, CabinUnit.group, List.getElem?_eq_none (Nat.le_of_not_lt hge)])

theorem Cabin.offeredEntry_eq {b : BandNo} {ticket join misses : Nat} (hb : c.band = some b) (ht : c.ticketShown = some ticket)
    (hj : c.offerJoin = some join) (hm : c.offerMisses = some misses) :
    c.offeredEntry = some { band := b, ticket := ticket, join := join, misses := misses } := by
  simp [Cabin.offeredEntry, hb, ht, hj, hm]

theorem exec_offerExpiry_now {e : QueueEntry} (hc : s.cbu.find n = some c) (hs : c.state = .offered)
    (hx : c.offerExpiry = some s.sck.counter) (he : c.offeredEntry = some e) :
    exec (.offerExpiry n) s = .next (missOffer n c e s) := by
  have hacting : c.acting = .offered := by simp [Cabin.acting, hs]
  simp only [exec, execOfferExpiry, cabinTimer_now hc hacting hx, runToTimer_now]
  simp [takeOfferExpiry, hc, hacting, hx, he, State.now]

/-- A missed offer raises CallMissed, whatever becomes of the band. -/
theorem missOffer_latches (n : Nat) (c : Cabin) (e : QueueEntry) (s : State) :
    (missOffer n c e s).cnu.bits.getLsbD 2 = true := by
  simp [missOffer, NoticeContent.cls, NoticeClass.code]

/-- After a second miss with nobody waiting the band leaves the cabin system, and the cabin stays Free. -/
theorem missOffer_drops {e : QueueEntry} (hm : e.misses = 1) (hq : s.cbu.queue c.group = []) :
    (missOffer n c e s).cbu = s.cbu.put n (c.unoffered.act .free)
      ∧ (missOffer n c e s).bdr = s.bdr.update e.band (fun r => { r with link := none }) := by
  have hmiss : missOffer n c e s
      = allocate c.group (raiseNotice (.callMissed e.band c.group (some n) e.ticket .dropped)
          (setLink e.band none (endOffer n c .free s))) := by simp [missOffer, hm]
  rw [hmiss, allocate_of_queue_nil _ _ (by simpa using hq)]
  exact ⟨by simp, by simp⟩

/-- After a first miss the band stands at the tail of its queue with one miss, and the cabin is offered to the head of that
queue (R57 (b), R62). -/
theorem missOffer_requeues {e h : QueueEntry} {tail : List QueueEntry} (hc : s.cbu.find n = some c)
    (hs : c.state ≠ .unreachable) (hm : e.misses = 0) (hg : c.group < s.cbu.groups.length)
    (hroom : (s.cbu.queue c.group).length < 32) (hf : s.cbu.lowestFree c.group = none)
    (hq : s.cbu.queue c.group ++ [{ e with misses := 1 }] = h :: tail) :
    (missOffer n c e s).cbu.find n
        = some (c.offeredTo h ((s.sck.counter + (groupSetting s c.group).offerWindow) % 86400))
      ∧ (missOffer n c e s).cbu.queue c.group = tail
      ∧ (missOffer n c e s).bdr
          = (s.bdr.update e.band (fun r => { r with link := some (.queued c.group e.ticket) })).update h.band
              (fun r => { r with link := some (.offered n) }) := by
  generalize hu : raiseNotice (.callMissed e.band c.group (some n) e.ticket .requeued)
    (appendEntry c.group { e with misses := 1 } (endOffer n c .free s)) = u
  have hmiss : missOffer n c e s = allocate c.group u := by
    rw [← hu]; simp [missOffer, hm, Config.maxQueue, hroom]
  have hcbu : u.cbu = (s.cbu.put n (c.unoffered.act .free)).updateGroup c.group
      (fun k => { k with queue := k.queue ++ [{ e with misses := 1 }] }) := by rw [← hu]; simp [appendEntry]
  have hfind : u.cbu.find n = some (c.unoffered.act .free) := by
    rw [hcbu, CabinUnit.find_updateGroup]; exact CabinUnit.find_put_self _ _ _ _ hc
  have hqueue : u.cbu.queue c.group = h :: tail := by
    rw [hcbu, ← hq]; exact CabinUnit.queue_updateQueue_of_lt _ _ (fun q => q ++ [{ e with misses := 1 }]) hg
  have hother : ∀ m k, m ≠ n → u.cbu.find m = some k → k.group = c.group → k.state ≠ .free := fun m k hne hk hkg => by
    rw [hcbu, CabinUnit.find_updateGroup, CabinUnit.find_put_other _ _ _ _ hne] at hk
    exact (s.cbu.lowestFree_eq_none c.group).mp hf m k hk hkg
  have key := allocate_offersToHead n (c.unoffered.act .free) h tail u hfind
    (by rw [Cabin.act_state .free (by simpa [Cabin.unoffered] using hs)]) (by simpa using hqueue)
    (by simpa using hother)
  rw [Cabin.act_group, Cabin.unoffered_group, Cabin.unoffered_act_offeredTo h _ hs] at key
  obtain ⟨hn, -, htail, -, hbdr⟩ := key
  rw [hmiss]
  refine ⟨?_, htail, ?_⟩
  · rw [hn, ← hu]; rfl
  · rw [hbdr, ← hu]; simp [appendEntry]

end

/-- Settles O44: the miss count at the expiry, and then whether the queue is empty. -/
theorem offerMissed : Obligations.OfferMissed := by
  refine ⟨fun n c b r ticket join s hc hs hx hb ht hj hr hg hq hf => ⟨fun hm => ?_, fun hm => ?_⟩,
    fun n c b r re ticket join e rest s hc hs hx hb ht hj hm hr hq hlen hne hre hf => ?_⟩
  · have hreach : c.state ≠ .unreachable := by simp [hs]
    refine ⟨_, exec_offerExpiry_now hc hs hx (Cabin.offeredEntry_eq hb ht hj hm), ?_⟩
    obtain ⟨hcbu, hbdr⟩ := missOffer_drops (n := n) (s := s)
      (e := { band := b, ticket := ticket, join := join, misses := 1 }) rfl hq
    rw [hcbu, hbdr]
    refine ⟨?_, by simp [hr], hq, missOffer_latches _ _ _ _, by simp [keepsAllBut_iff]⟩
    rw [CabinUnit.find_put_self _ _ _ _ hc, Cabin.act_state .free (by simpa [Cabin.unoffered] using hreach)]
    rfl
  · have hreach : c.state ≠ .unreachable := by simp [hs]
    refine ⟨_, exec_offerExpiry_now hc hs hx (Cabin.offeredEntry_eq hb ht hj hm), ?_⟩
    obtain ⟨hn, hqueue, hbdr⟩ := missOffer_requeues (e := { band := b, ticket := ticket, join := join, misses := 0 })
      (tail := []) hc hreach rfl hg (by simp [hq]) hf (by rw [hq]; rfl)
    rw [hn, hqueue, hbdr]
    refine ⟨?_, by simp [hr], rfl, missOffer_latches _ _ _ _, by simp [keepsAllBut_iff]⟩
    simp [Cabin.offeredTo, hs, hb, ht, hj]
  · have hreach : c.state ≠ .unreachable := by simp [hs]
    refine ⟨_, exec_offerExpiry_now hc hs hx (Cabin.offeredEntry_eq hb ht hj hm), ?_⟩
    obtain ⟨hn, hqueue, hbdr⟩ := missOffer_requeues (e := { band := b, ticket := ticket, join := join, misses := 0 })
      (h := e) (tail := rest ++ [{ band := b, ticket := ticket, join := join, misses := 1 }]) hc hreach rfl
      (CabinUnit.lt_of_queue (by simp [hq])) (by simp [hq]; omega) hf (by rw [hq]; rfl)
    rw [hn, hqueue, hbdr]
    exact ⟨rfl, rfl, by simp [hne.symm, hr], by simp [hne, hre], missOffer_latches _ _ _ _, by simp [keepsAllBut_iff]⟩

end Sys2Proof.Machine

/-! CABIN SERVICE (R71, R72): out of service and in, out at a standing offer, and a restore to a full queue (R58 (c)). -/
namespace Sys2Proof.Machine

/-! ## The transmitter at work -/

/-- An answer placed does not begin a frame while one is being sent (R155). -/
theorem LinkController.place_tx {l : LinkController} (h : l.tx ≠ .idle) (a : Answer) : (l.place a).tx = l.tx := by
  simp [LinkController.place, LinkController.start, h]

theorem meetWhen_tx {s : State} (h : s.lkc.tx ≠ .idle) (changed : Bool) (t : Target) (code : Nat) :
    (meetWhen changed t code s).tx = s.lkc.tx := by
  have hfold : ∀ (ws : List Watch) (k : LinkController), k.tx = s.lkc.tx →
      (ws.foldl (fun k w => k.place (w.doneAnswer code s.now)) k).tx = s.lkc.tx := fun ws => by
    induction ws with
    | nil => exact fun k hk => hk
    | cons w ws ih => exact fun k hk => ih _ ((LinkController.place_tx (by rw [hk]; exact h) _).trans hk)
  unfold meetWhen LinkController.meet
  split
  · exact hfold _ _ rfl
  · rfl

/-- A block that stands as it stood is kept too. -/
theorem KeepsAllBut.of_same {l : List Block} {b : Block} {s t : State} (h : KeepsAllBut (b :: l) s t) (hb : b.Same s t) :
    KeepsAllBut l s t := fun x hx => by
  by_cases hxb : x = b
  · exact hxb ▸ hb
  · exact h x (by simp [hxb, hx])

/-! ## Acting states -/

@[simp] theorem Cabin.act_pendingOut (c : Cabin) (st : CabinState) : (c.act st).pendingOut = c.pendingOut := by
  unfold Cabin.act; split <;> rfl

theorem Cabin.act_acting {c : Cabin} {st : CabinState} (h : st ≠ .unreachable) : (c.act st).acting = st := by
  by_cases hs : c.state = .unreachable <;> simp [Cabin.act, Cabin.acting, hs, h]

section
variable {n : Nat} {c : Cabin} {s : State}

/-! ## Out of service, but at an offer (R71 (a), (c)) -/

/-- The cabin that CABIN SERVICE out leaves where no offer stands. -/
def Cabin.takenOut (c : Cabin) : Cabin :=
  if c.acting = .free then c.act .outOfService
  else if c.acting = .occupied ∨ c.acting = .cleaning then { c with pendingOut := true } else c

theorem cabinOut_takesOut (hc : s.cbu.find n = some c) (hs : c.acting ≠ .offered) :
    (cabinOut n c s).cbu.find n = some c.takenOut ∧ (∀ m, m ≠ n → (cabinOut n c s).cbu.find m = s.cbu.find m)
      ∧ (cabinOut n c s).cbu.groups = s.cbu.groups ∧ KeepsAllBut [.cbu, .flm, .lkc] s (cabinOut n c s) := by
  have hput : ∀ (u : State) (d : Cabin), u.cbu = s.cbu.put n d →
      u.cbu.find n = some d ∧ (∀ m, m ≠ n → u.cbu.find m = s.cbu.find m) ∧ u.cbu.groups = s.cbu.groups := fun u d hu => by
    rw [hu]
    exact ⟨CabinUnit.find_put_self _ _ _ _ hc, fun m hm => CabinUnit.find_put_other _ _ _ _ hm, rfl⟩
  unfold cabinOut
  split
  · next ha =>
    obtain ⟨hn, hm, hgroups⟩ := hput (moveCabin n (c.act .outOfService) s) _ rfl
    exact ⟨by simpa [Cabin.takenOut, ha] using hn, hm, hgroups, by simp [keepsAllBut_iff]⟩
  · next ha => exact absurd ha hs
  · next ha =>
    obtain ⟨hn, hm, hgroups⟩ := hput (putCabin n { c with pendingOut := true } s) _ rfl
    exact ⟨by simpa [Cabin.takenOut, ha] using hn, hm, hgroups, by simp [keepsAllBut_iff]⟩
  · next ha =>
    obtain ⟨hn, hm, hgroups⟩ := hput (putCabin n { c with pendingOut := true } s) _ rfl
    exact ⟨by simpa [Cabin.takenOut, ha] using hn, hm, hgroups, by simp [keepsAllBut_iff]⟩
  · next ha => exact ⟨by simpa [Cabin.takenOut, ha] using hc, fun _ _ => rfl, rfl, by simp [keepsAllBut_iff]⟩
  · next ha => exact ⟨by simpa [Cabin.takenOut, ha] using hc, fun _ _ => rfl, rfl, by simp [keepsAllBut_iff]⟩

/-! ## In again (R72) -/

/-- The cabin that CABIN SERVICE in leaves, before any offer. -/
def Cabin.putIn (c : Cabin) : Cabin :=
  if c.acting = .outOfService then { c with pendingOut := false }.act .free else { c with pendingOut := false }

theorem cabinIn_idle (hc : s.cbu.find n = some c) (h : s.cbu.queue c.group = [] ∨ c.state ≠ .outOfService) :
    (cabinIn n c s).cbu = s.cbu.put n c.putIn ∧ KeepsAllBut [.cbu, .flm, .lkc] s (cabinIn n c s) := by
  by_cases ha : c.acting = .outOfService
  · have hidle : allocateIfFree n (moveCabin n ({ c with pendingOut := false }.act .free) s)
        = moveCabin n ({ c with pendingOut := false }.act .free) s := by
      have hfind : (moveCabin n ({ c with pendingOut := false }.act .free) s).cbu.find n
          = some ({ c with pendingOut := false }.act .free) := by
        rw [moveCabin_cbu]; exact CabinUnit.find_put_self _ _ _ _ hc
      refine allocateIfFree_idle hfind ?_
      rcases h with hq | hs
      · right; simpa using hq
      · left
        have hunreach : c.state = .unreachable := by
          by_contra hreach
          rw [Cabin.acting, if_neg hreach] at ha
          exact hs ha
        rw [Cabin.act_unreachable (c := { c with pendingOut := false }) hunreach]
        nofun
    simp only [cabinIn, ha, if_true, hidle]
    exact ⟨by simp [Cabin.putIn, ha], by simp [keepsAllBut_iff]⟩
  · simp only [cabinIn, ha, if_false]
    exact ⟨by simp [Cabin.putIn, ha], by simp [keepsAllBut_iff]⟩

/-- A cabin put back in service while a band waits and no other is Free: it is offered to the head of the queue (R62). -/
theorem cabinIn_offers {e : QueueEntry} {rest : List QueueEntry} {r : BandRecord} (hc : s.cbu.find n = some c)
    (hs : c.state = .outOfService) (hq : s.cbu.queue c.group = e :: rest) (hf : s.cbu.lowestFree c.group = none)
    (hr : s.bdr.find e.band = some r) : OfferedToHead n { c with pendingOut := false } e rest r s (cabinIn n c s) := by
  have ha : c.acting = .outOfService := by simp [Cabin.acting, hs]
  have hfreed : ({ c with pendingOut := false } : Cabin).act .free = { c with state := .free, pendingOut := false } :=
    Cabin.act_state _ (by simp [hs])
  have key := allocateIfFree_offers (c := { c with state := .free, pendingOut := false }) (e := e) (rest := rest)
    (u := moveCabin n { c with state := .free, pendingOut := false } s) hc rfl rfl rfl rfl hq hf
  obtain ⟨hn, hm, hqueue, hbdr⟩ := key
  simp only [cabinIn, ha, if_true, hfreed]
  exact offeredToHead_of hn hm hqueue hbdr hr

/-! ## Out at a standing offer (R58 (c), R66, R71 (b)) -/

/-- A cabin whose offer ends in OutOfService leaves its group with no cabin Free. -/
theorem lowestFree_put_outOfService (hc : s.cbu.find n = some c) (g : Nat) (hf : s.cbu.lowestFree g = none) (u : CabinUnit)
    (hu : u.cabins = (s.cbu.put n (c.unoffered.act .outOfService)).cabins) : u.lowestFree g = none := by
  rw [CabinUnit.lowestFree_eq_none] at hf ⊢
  intro m k hk hkg
  have hk' : (s.cbu.put n (c.unoffered.act .outOfService)).find m = some k := by rwa [CabinUnit.find, hu] at hk
  by_cases hm : m = n
  · subst hm
    rw [CabinUnit.find_put_self _ _ _ _ hc, Option.some.injEq] at hk'
    subst hk'
    by_cases hs : c.unoffered.state = .unreachable <;> simp [Cabin.act, hs]
  · rw [CabinUnit.find_put_other _ _ _ _ hm] at hk'
    exact hf m k hk' hkg

theorem displaceTail_cabins (g : Nat) (announce : Bool) (s : State) : (displaceTail g announce s).cbu.cabins = s.cbu.cabins := by
  unfold displaceTail; dsimp only; (repeat' split) <;> simp [CabinUnit.updateGroup]

@[simp] theorem restoreHead_cabins (g : Nat) (e : QueueEntry) (announce : Bool) (s : State) :
    (restoreHead g e announce s).cbu.cabins = s.cbu.cabins := by
  simpa [restoreHead, CabinUnit.updateGroup] using displaceTail_cabins g announce s

/-- Out at a standing offer is the offer withdrawn and its band restored; no cabin is Free for an offer to follow. -/
theorem cabinOut_offered {e : QueueEntry} (hc : s.cbu.find n = some c) (hs : c.acting = .offered)
    (he : c.offeredEntry = some e) (hf : s.cbu.lowestFree c.group = none) :
    cabinOut n c s = restoreHead c.group e true (endOffer n c .outOfService s) := by
  have hnone := lowestFree_put_outOfService hc c.group hf (restoreHead c.group e true (endOffer n c .outOfService s)).cbu
    (by simp)
  simp only [cabinOut, hs, he]
  exact allocate_of_noneFree _ _ hnone

/-- The band at the tail of a full queue is displaced, with its notice (R58 (c)). -/
theorem displaceTail_of_full_announced (g : Nat) (last : QueueEntry) (s : State) (h : 32 ≤ (s.cbu.queue g).length)
    (hlast : (s.cbu.queue g).getLast? = some last) :
    displaceTail g true s = raiseNotice (.callMissed last.band g none last.ticket .displaced)
      (setLink last.band none (setQueue g List.dropLast s)) := by
  simp [displaceTail, Config.maxQueue, Nat.not_lt.mpr h, hlast]

/-- A band restored at the head of a queue with room (R66). -/
theorem cabinOut_restores {e : QueueEntry} (hc : s.cbu.find n = some c) (hs : c.acting = .offered)
    (he : c.offeredEntry = some e) (hf : s.cbu.lowestFree c.group = none) (hg : c.group < s.cbu.groups.length)
    (hroom : (s.cbu.queue c.group).length < 32) :
    (cabinOut n c s).cbu.find n = some (c.unoffered.act .outOfService)
      ∧ (cabinOut n c s).cbu.queue c.group = e :: s.cbu.queue c.group
      ∧ (cabinOut n c s).bdr = s.bdr.update e.band (fun r => { r with link := some (.queued c.group e.ticket) })
      ∧ (cabinOut n c s).cnu = s.cnu := by
  rw [cabinOut_offered hc hs he hf, restoreHead, displaceTail_of_room _ _ _ (by simpa using hroom)]
  refine ⟨?_, ?_, by simp, by simp⟩
  · simp [CabinUnit.find_put_self _ _ _ _ hc]
  · simp only [setLink_keeps, setQueue_cbu, endOffer_cbu]
    exact CabinUnit.queue_updateQueue_of_lt (s.cbu.put n (c.unoffered.act .outOfService)) c.group (fun q => e :: q) hg

/-- A band restored at the head of a full queue displaces the band at its tail, with CallMissed (R58 (c)). -/
theorem cabinOut_displaces {e last : QueueEntry} (hc : s.cbu.find n = some c) (hs : c.acting = .offered)
    (he : c.offeredEntry = some e) (hf : s.cbu.lowestFree c.group = none) (hfull : 32 ≤ (s.cbu.queue c.group).length)
    (hlast : (s.cbu.queue c.group).getLast? = some last) :
    (cabinOut n c s).cbu.find n = some (c.unoffered.act .outOfService)
      ∧ (cabinOut n c s).cbu.queue c.group = e :: (s.cbu.queue c.group).dropLast
      ∧ (cabinOut n c s).bdr = (s.bdr.update last.band (fun r => { r with link := none })).update e.band
          (fun r => { r with link := some (.queued c.group e.ticket) })
      ∧ (cabinOut n c s).cnu = s.cnu.latch .callMissed
      ∧ (cabinOut n c s).lkc
          = (raiseNotice (.callMissed last.band c.group none last.ticket .displaced) (moveCabin n (c.unoffered.act .outOfService) s)).lkc := by
  have hg : c.group < s.cbu.groups.length := CabinUnit.lt_of_queue fun h => by rw [h] at hfull; simp at hfull
  rw [cabinOut_offered hc hs he hf, restoreHead, displaceTail_of_full_announced _ last _ (by simpa using hfull)
    (by simpa using hlast)]
  refine ⟨?_, ?_, by simp, by simp [NoticeContent.cls], rfl⟩
  · simp [CabinUnit.find_put_self _ _ _ _ hc]
  · simp only [setLink_keeps, raiseNotice_keeps, setQueue_cbu, endOffer_cbu]
    rw [CabinUnit.queue_updateQueue_of_lt _ c.group (fun q => e :: q)
        (by simpa [CabinUnit.updateGroup, CabinUnit.put] using hg),
      CabinUnit.queue_updateQueue _ _ List.dropLast rfl, CabinUnit.put_queue]

/-- The notices after a displacement: CallMissed at the end of the queue where its class is enabled and a frame is being sent. -/
theorem raiseNotice_moveCabin_notices (content : NoticeContent) (d : Cabin) :
    (s.cnu.enabled content.cls = false → (raiseNotice content (moveCabin n d s)).lkc.notices = s.lkc.notices)
      ∧ (s.cnu.enabled content.cls = true → s.lkc.notices.length < 32 → s.lkc.tx ≠ .idle →
          (raiseNotice content (moveCabin n d s)).lkc.notices
            = s.lkc.notices ++ [{ content := content, second := s.sck.counter }]) := by
  have hnotices : (moveCabin n d s).lkc.notices = s.lkc.notices := by simp
  refine ⟨fun hoff => ?_, fun hon hlen htx => ?_⟩
  · simp [raiseNotice, hoff]
  · have hmoved : (moveCabin n d s).lkc.tx ≠ .idle := by
      simpa [meetWhen_tx htx] using htx
    simp only [raiseNotice, moveCabin_keeps, hon, if_true]
    rw [LinkController.offer_notices _ _ (by rw [hnotices]; exact hlen) hmoved, hnotices]
    simp [State.now]

/-! ## The answer and the command -/

theorem cabinServiceBody_eq {d : Cabin} (hd : s.cbu.find n = some d) :
    cabinServiceBody n s = .cabinService d.acting d.pendingOut := by simp [cabinServiceBody, hd]

end

section
variable {tag : Byte} {body : List Byte} {s : State} {c : Cabin}

theorem exec_cabinServiceOut (h : Taken .cabinService tag body s) (hd : byteAt body 1 = 0)
    (hc : s.cbu.find (byteAt body 0) = some c) :
    exec (.cabinServiceOut tag body) s
      = .next (placeAnswer (doneAnswer tag (cabinServiceBody (byteAt body 0) (cabinOut (byteAt body 0) c (popOrder s))))
          (cabinOut (byteAt body 0) c (popOrder s))) := by
  have hcs : cabinService (byteAt body 0) (byteAt body 1) (popOrder s)
      = done (cabinServiceBody (byteAt body 0) (cabinOut (byteAt body 0) c (popOrder s)))
          (cabinOut (byteAt body 0) c (popOrder s)) := by simp [cabinService, hc, hd]
  rw [← next_runOrder_done h hcs]
  simp [exec, execCabinServiceOut, hd]

theorem exec_cabinServiceIn (h : Taken .cabinService tag body s) (hd : byteAt body 1 = 1)
    (hc : s.cbu.find (byteAt body 0) = some c) :
    exec (.cabinServiceIn tag body) s
      = .next (placeAnswer (doneAnswer tag (cabinServiceBody (byteAt body 0) (cabinIn (byteAt body 0) c (popOrder s))))
          (cabinIn (byteAt body 0) c (popOrder s))) := by
  have hcs : cabinService (byteAt body 0) (byteAt body 1) (popOrder s)
      = done (cabinServiceBody (byteAt body 0) (cabinIn (byteAt body 0) c (popOrder s)))
          (cabinIn (byteAt body 0) c (popOrder s)) := by simp [cabinService, hc, hd]
  rw [← next_runOrder_done h hcs]
  simp [exec, execCabinServiceIn, hd]

end

/-- Settles O32: by the direction, by whether an offer stands, and there by whether the queue is full. -/
theorem cabinServiceTakesOutAndPutsIn : Obligations.CabinServiceTakesOutAndPutsIn := by
  refine ⟨fun tag body s c h hc => ⟨fun hd hs => ?_, fun hd hidle => ?_, fun e rest r hd hs hq hf hr => ?_⟩,
    fun tag body s c b r ticket join misses h hd hc hs hb ht hj hm hr hg hroom hf => ?_,
    fun tag body s c b r rl last ticket join misses h hd hc hs hb ht hj hm hr hfull hlast hne hrl hf => ?_⟩
  · obtain ⟨hn, hother, hgroups, hkeeps⟩ := cabinOut_takesOut (s := popOrder s) hc hs
    exact ⟨_, exec_cabinServiceOut h hd hc, hn, hother, hgroups, hkeeps.ofOrder (by simp) _⟩
  · obtain ⟨hcbu, hkeeps⟩ := cabinIn_idle (s := popOrder s) hc hidle
    refine ⟨_, exec_cabinServiceIn h hd hc, ?_⟩
    simp only [placeAnswer_keeps, hcbu]
    exact ⟨CabinUnit.find_put_self _ _ _ _ hc, fun m hm => CabinUnit.find_put_other _ _ _ _ hm, rfl, hkeeps.ofOrder (by simp) _⟩
  · have hoffered := cabinIn_offers (s := popOrder s) hc hs hq hf hr
    refine ⟨_, exec_cabinServiceIn h hd hc, hoffered, ?_, ?_⟩
    · rw [cabinServiceBody_eq hoffered.1]
      exact answered_placeAnswer _ _
    · refine KeepsAllBut.ofOrder ?_ (by simp) _
      simp [keepsAllBut_iff]
  · have hcp : (popOrder s).cbu.find (byteAt body 0) = some c := hc
    obtain ⟨hn, hqueue, hbdr, hcnu⟩ := cabinOut_restores hcp hs (Cabin.offeredEntry_eq hb ht hj hm) hf hg hroom
    refine ⟨_, exec_cabinServiceOut h hd hc, hn, hqueue, ?_, ?_, ?_⟩
    · simp [hbdr, hr]
    · rw [cabinServiceBody_eq hn, Cabin.act_acting (by simp), Cabin.act_pendingOut]
      exact answered_placeAnswer _ _
    · have hrest : KeepsAllBut [.cnu, .bdr, .cbu, .flm, .lkc] (popOrder s) (cabinOut (byteAt body 0) c (popOrder s)) := by
        simp [keepsAllBut_iff]
      exact (hrest.of_same hcnu).ofOrder (by simp) _
  · obtain ⟨hn, hqueue, hbdr, hcnu, hlkc⟩ := cabinOut_displaces (s := popOrder s) hc hs (Cabin.offeredEntry_eq hb ht hj hm) hf
      hfull hlast
    obtain ⟨hoff, hon⟩ := raiseNotice_moveCabin_notices (n := byteAt body 0) (s := popOrder s)
      (.callMissed last.band c.group none last.ticket .displaced) (c.unoffered.act .outOfService)
    refine ⟨_, exec_cabinServiceOut h hd hc, hn, hqueue, ?_, ?_, fun x hxb hxl => ?_, hcnu, fun hmask => ?_,
      fun hmask hlen htx => ?_, ?_, by simp [keepsAllBut_iff]⟩
    · simp [hbdr, hr, hne.symm]
    · simp [hbdr, hrl, hne]
    · simp [hbdr, hxb, hxl]
    · simpa [hlkc] using hoff hmask
    · simpa [hlkc] using hon hmask hlen htx
    · rw [cabinServiceBody_eq hn, Cabin.act_acting (by simp), Cabin.act_pendingOut]
      exact answered_placeAnswer _ _

end Sys2Proof.Machine

/-! OPEN DAY and CLOSE DAY (R131, R132), and the cabin unit at the day's end (R75). -/
namespace Sys2Proof.Machine

/-! ## What a run of acts does to one record -/

/-- Acts taken one for each number of a list without repeats: an entry is changed where one of the numbers touches it, and no act
changes what another number touches. -/
theorem foldl_touched {α : Type} (get : State → Option α) (f : State → Nat → State) (φ : α → α) (touches : State → Nat → Bool)
    (hself : ∀ t n, get (f t n) = if touches t n then (get t).map φ else get t)
    (hother : ∀ t n m, m ≠ n → touches (f t n) m = touches t m) (hidem : ∀ x, φ (φ x) = φ x) (l : List Nat) (hl : l.Nodup)
    (s : State) : get (l.foldl f s) = if l.any (touches s) then (get s).map φ else get s := by
  induction l generalizing s with
  | nil => simp
  | cons n l ih =>
    obtain ⟨hn, hl⟩ := List.nodup_cons.mp hl
    have hrest : l.any (touches (f s n)) = l.any (touches s) := by
      rw [Bool.eq_iff_iff, List.any_eq_true, List.any_eq_true]
      refine exists_congr fun m => and_congr_right fun hm => ?_
      rw [hother s n m fun hmn => hn (hmn ▸ hm)]
    have hφ : φ ∘ φ = φ := funext hidem
    rw [List.foldl_cons, ih hl, hself, hrest, List.any_cons]
    cases touches s n <;> cases l.any (touches s) <;> simp [hφ]

/-! ## Links made absent -/

theorem setLink_none_find (x b : BandNo) (s : State) :
    (setLink x none s).bdr.find b = if b = x then (s.bdr.find b).map BandRecord.unlinked else s.bdr.find b :=
  BandRegister.find_update s.bdr x b (fun r => { r with link := none }) fun _ => rfl

theorem BandRecord.unlinked_comp : BandRecord.unlinked ∘ BandRecord.unlinked = BandRecord.unlinked := rfl

/-- The links of a list of entries' bands made absent, one by one. -/
theorem foldl_setLink_find (b : BandNo) (l : List QueueEntry) (s : State) :
    (l.foldl (fun t e => setLink e.band none t) s).bdr.find b
      = if l.any (fun e => e.band = b) then (s.bdr.find b).map BandRecord.unlinked else s.bdr.find b := by
  induction l generalizing s with
  | nil => simp
  | cons e l ih =>
    rw [List.foldl_cons, ih, List.any_cons, setLink_none_find]
    by_cases hb : e.band = b
    · rw [if_pos hb.symm, decide_eq_true hb]
      cases l.any (fun x => x.band = b) <;> simp [BandRecord.unlinked_comp]
    · rw [if_neg (Ne.symm hb), decide_eq_false hb, Bool.false_or]

/-! ## The call queues emptied (R75) -/

theorem emptyQueue_cbu (g : Nat) (s : State) :
    (emptyQueue g s).cbu = s.cbu.updateGroup g (fun k => { k with queue := [] }) := by
  simp [emptyQueue]

@[simp] theorem emptyQueue_cabin (g n : Nat) (s : State) : (emptyQueue g s).cbu.find n = s.cbu.find n := by
  rw [emptyQueue_cbu, CabinUnit.find_updateGroup]

theorem emptyQueue_find (g : Nat) (b : BandNo) (s : State) :
    (emptyQueue g s).bdr.find b
      = if (s.cbu.queue g).any (fun e => e.band = b) then (s.bdr.find b).map BandRecord.unlinked else s.bdr.find b := by
  rw [emptyQueue, (setQueue_keeps _ _ _).2.1]
  exact foldl_setLink_find b _ s

/-- The record of a band once every call queue has been emptied. -/
theorem emptyQueues_find (b : BandNo) (s : State) :
    (overGroups emptyQueue s).bdr.find b
      = if (List.range s.cbu.groups.length).any (fun g => (s.cbu.queue g).any (fun e => e.band = b)) then
          (s.bdr.find b).map BandRecord.unlinked
        else s.bdr.find b :=
  foldl_touched (fun t => t.bdr.find b) (fun t g => emptyQueue g t) BandRecord.unlinked
    (fun t g => (t.cbu.queue g).any (fun e => e.band = b)) (fun t g => emptyQueue_find g b t)
    (fun t g h hne => by
      rw [emptyQueue_cbu]
      exact congrArg (fun q => q.any (fun e => e.band = b)) (CabinUnit.queue_updateQueue_other t.cbu g h (fun _ => []) hne))
    (fun _ => rfl) _ List.nodup_range s

theorem emptyQueues_group (s : State) (g : Nat) :
    (overGroups emptyQueue s).cbu.group g = (s.cbu.group g).map (fun k => { k with queue := [] }) := by
  rw [overGroups, foldl_entries (fun t g => t.cbu.group g) (fun t g => emptyQueue g t) (fun k => { k with queue := [] })
    (fun t g => by rw [emptyQueue_cbu, CabinUnit.group_updateGroup, if_pos rfl])
    (fun t g h hne => by rw [emptyQueue_cbu, CabinUnit.group_updateGroup, if_neg (Ne.symm hne)]) (fun _ => rfl)]
  split
  · rfl
  · next hout =>
    rw [List.mem_range, Nat.not_lt] at hout
    simp [CabinUnit.group, hout]

@[simp] theorem emptyQueues_cabins (s : State) : (overGroups emptyQueue s).cbu.cabins = s.cbu.cabins :=
  List.foldlRecOn _ _ (motive := fun t : State => t.cbu.cabins = s.cbu.cabins) rfl fun t ht g _ => by
    rw [emptyQueue_cbu]; exact ht

/-! ## The offers withdrawn (R66, R75) -/

/-- A cabin at the day's end. -/
def Cabin.closed (c : Cabin) : Cabin := if c.acting = .offered then c.unoffered.act .free else c

theorem Cabin.closed_closed (c : Cabin) : c.closed.closed = c.closed := by
  by_cases h : c.acting = .offered
  · simp [Cabin.closed, h, Cabin.act_acting]
  · simp [Cabin.closed, h]

theorem closeOffer_of_none {n : Nat} {s : State} (hc : s.cbu.find n = none) : closeOffer n s = s := by simp [closeOffer, hc]

theorem closeOffer_cbu {n : Nat} {c : Cabin} {s : State} (hc : s.cbu.find n = some c) :
    (closeOffer n s).cbu = if c.acting = .offered then s.cbu.put n c.closed else s.cbu := by
  by_cases h : c.acting = .offered
  · cases hb : c.band <;> simp [closeOffer, hc, h, hb, Cabin.closed]
  · simp [closeOffer, hc, h]

theorem closeOffer_find_self (s : State) (n : Nat) : (closeOffer n s).cbu.find n = (s.cbu.find n).map Cabin.closed := by
  cases hc : s.cbu.find n with
  | none => simp [closeOffer_of_none hc, hc]
  | some c =>
    rw [closeOffer_cbu hc]
    by_cases h : c.acting = .offered
    · simp [h, CabinUnit.find_put_self _ _ _ _ hc]
    · simp [h, hc, Cabin.closed]

theorem closeOffer_find_other (s : State) (n m : Nat) (hm : m ≠ n) : (closeOffer n s).cbu.find m = s.cbu.find m := by
  cases hc : s.cbu.find n with
  | none => rw [closeOffer_of_none hc]
  | some c =>
    rw [closeOffer_cbu hc]
    split
    · exact CabinUnit.find_put_other _ _ _ _ hm
    · rfl

@[simp] theorem closeOffer_groups (n : Nat) (s : State) : (closeOffer n s).cbu.groups = s.cbu.groups := by
  cases hc : s.cbu.find n with
  | none => rw [closeOffer_of_none hc]
  | some c => rw [closeOffer_cbu hc]; split <;> rfl

/-- Cabin `n` is Offered, or remembers it, to a band. -/
def CabinUnit.offers (u : CabinUnit) (b : BandNo) (n : Nat) : Bool :=
  (u.find n).any (fun c => c.acting = .offered && c.band = some b)

theorem closeOffer_find (n : Nat) (b : BandNo) (s : State) :
    (closeOffer n s).bdr.find b
      = if s.cbu.offers b n then (s.bdr.find b).map BandRecord.unlinked else s.bdr.find b := by
  cases hc : s.cbu.find n with
  | none => simp [closeOffer_of_none hc, CabinUnit.offers, hc]
  | some c =>
    by_cases h : c.acting = .offered
    · cases hb : c.band with
      | none => simp [closeOffer, CabinUnit.offers, hc, h, hb]
      | some x =>
        have hclose : closeOffer n s = setLink x none (endOffer n c .free s) := by simp [closeOffer, hc, h, hb]
        have hoffers : s.cbu.offers b n = decide (b = x) := by simp [CabinUnit.offers, hc, h, hb, eq_comm]
        rw [hclose, hoffers, setLink_none_find, (endOffer_keeps _ _ _ _).2.1]
        simp
    · simp [closeOffer, CabinUnit.offers, hc, h]

/-- The record of a band once every offer has been withdrawn. -/
theorem closeOffers_find (b : BandNo) (s : State) :
    (overCabins closeOffer s).bdr.find b
      = if (List.range s.cbu.cabins.length).any (s.cbu.offers b) then (s.bdr.find b).map BandRecord.unlinked
        else s.bdr.find b :=
  foldl_touched (fun t => t.bdr.find b) (fun t n => closeOffer n t) BandRecord.unlinked (fun t n => t.cbu.offers b n)
    (fun t n => closeOffer_find n b t)
    (fun t n m hm => by rw [CabinUnit.offers, closeOffer_find_other t n m hm, ← CabinUnit.offers]) (fun _ => rfl) _ List.nodup_range s

theorem closeOffers_cabin (s : State) (n : Nat) :
    (overCabins closeOffer s).cbu.find n = (s.cbu.find n).map Cabin.closed := by
  rw [overCabins, foldl_entries (fun t n => t.cbu.find n) (fun t n => closeOffer n t) Cabin.closed closeOffer_find_self
    closeOffer_find_other Cabin.closed_closed]
  split
  · rfl
  · next hout =>
    rw [List.mem_range, Nat.not_lt] at hout
    simp [CabinUnit.find, hout]

@[simp] theorem closeOffers_groups (s : State) : (overCabins closeOffer s).cbu.groups = s.cbu.groups :=
  List.foldlRecOn _ _ (motive := fun t : State => t.cbu.groups = s.cbu.groups) rfl fun t ht n _ =>
    (closeOffer_groups n t).trans ht

/-! ## The cabin unit at the day's end (R75) -/

theorem closeCabins_cbu (s : State) : (closeCabins s).cbu = (overCabins closeOffer (overGroups emptyQueue s)).cbu := by
  simp [closeCabins]

theorem closeCabins_bdr (s : State) : (closeCabins s).bdr = (overCabins closeOffer (overGroups emptyQueue s)).bdr := by
  simp [closeCabins]

theorem closeCabins_cabin (s : State) (n : Nat) : (closeCabins s).cbu.find n = (s.cbu.find n).map Cabin.closed := by
  rw [closeCabins_cbu, closeOffers_cabin, CabinUnit.find, emptyQueues_cabins]
  rfl

theorem closeCabins_queues_empty (s : State) : ∀ k ∈ (closeCabins s).cbu.groups, k.queue = [] := by
  intro k hk
  rw [closeCabins_cbu, closeOffers_groups] at hk
  obtain ⟨g, hg⟩ := List.mem_iff_getElem?.mp hk
  have hgroup := emptyQueues_group s g
  rw [CabinUnit.group, hg] at hgroup
  obtain ⟨k₀, -, rfl⟩ := Option.map_eq_some_iff.mp hgroup.symm
  rfl

/-- A band that was queued, or that an offer named. -/
def CabinUnit.engages (u : CabinUnit) (b : BandNo) : Prop :=
  (∃ g, ∃ e ∈ u.queue g, e.band = b) ∨ ∃ c ∈ u.cabins, c.acting = .offered ∧ c.band = some b

theorem CabinUnit.any_queues (u : CabinUnit) (b : BandNo) :
    (List.range u.groups.length).any (fun g => (u.queue g).any (fun e => e.band = b)) = true
      ↔ ∃ g, ∃ e ∈ u.queue g, e.band = b := by
  simp only [List.any_eq_true, List.mem_range, decide_eq_true_eq]
  refine exists_congr fun g => ⟨And.right, fun ⟨e, he, hb⟩ => ⟨CabinUnit.lt_of_queue (List.ne_nil_of_mem he), e, he, hb⟩⟩

theorem CabinUnit.any_offers (u : CabinUnit) (b : BandNo) :
    (List.range u.cabins.length).any (u.offers b) = true ↔ ∃ c ∈ u.cabins, c.acting = .offered ∧ c.band = some b := by
  simp only [List.any_eq_true, List.mem_range, CabinUnit.offers, Option.any_eq_true, Bool.and_eq_true, decide_eq_true_eq]
  constructor
  · rintro ⟨n, -, c, hc, h⟩
    exact ⟨c, List.mem_of_getElem? hc, h⟩
  · rintro ⟨c, hc, h⟩
    obtain ⟨n, hn⟩ := List.mem_iff_getElem?.mp hc
    exact ⟨n, CabinUnit.lt_of_find hn, c, hn, h⟩

theorem closeCabins_find (b : BandNo) (s : State) :
    (s.cbu.engages b → (closeCabins s).bdr.find b = (s.bdr.find b).map BandRecord.unlinked)
      ∧ (¬s.cbu.engages b → (closeCabins s).bdr.find b = s.bdr.find b) := by
  have hoffers : (overGroups emptyQueue s).cbu.offers b = s.cbu.offers b := funext fun n => by
    simp [CabinUnit.offers, CabinUnit.find]
  rw [closeCabins_bdr, closeOffers_find, emptyQueues_find, hoffers, emptyQueues_cabins]
  rw [CabinUnit.engages, ← CabinUnit.any_queues, ← CabinUnit.any_offers]
  cases (List.range s.cbu.groups.length).any (fun g => (s.cbu.queue g).any (fun e => e.band = b))
    <;> cases (List.range s.cbu.cabins.length).any (s.cbu.offers b) <;> simp [BandRecord.unlinked_comp]

theorem numbers_of_keys {r r' : BandRegister} (h : r'.keys = r.keys) :
    r'.bands.map (·.number) = r.bands.map (·.number) := by
  simpa [BandRegister.keys, Function.comp_def] using congrArg (List.map Prod.snd) h

/-- Settles O48: OPEN DAY by its four checks, CLOSE DAY by what it does to the queues, the offers and the links. -/
theorem dayOpensAndCloses : Obligations.DayOpensAndCloses := by
  refine ⟨fun tag body s h => ⟨fun hd hv hl hb => ?_, fun hd => ?_, fun hd hv => ?_, fun hd hv hl => ?_, fun hd hv hl hb => ?_⟩,
    fun tag body s h => ⟨fun hd => ?_, fun hd => ?_⟩⟩
  · obtain ⟨live, hlive⟩ := Option.isSome_iff_exists.mp hl
    have hopen : openDay (popOrder s) = done (.dayOpened (minuteOf s.sck.counter)) (openedDay live (popOrder s)) := by
      simp [openDay, hd, hv, hlive, hb, State.now]
    refine ⟨_, next_runOrder_done h hopen, rfl, rfl, ?_, answered_placeAnswer _ _, ?_⟩
    · simp [openedDay, NoticeContent.cls, NoticeClass.code]
    · simp [keepsAllBut_iff, openedDay]
  · exact next_runOrder_refused h (by simp [openDay, hd])
  · simp [exec, execOpenDay, runOrder_taken _ _ _ _ _ h, openDay, hd, hv, Reply.answer]
  · simp [exec, execOpenDay, runOrder_taken _ _ _ _ _ h, openDay, hd, hv, hl, Reply.answer]
  · obtain ⟨live, hlive⟩ := Option.isSome_iff_exists.mp hl
    simp [exec, execOpenDay, runOrder_taken _ _ _ _ _ h, openDay, hd, hv, hlive, hb, Reply.answer]
  · have hclose : closeDay (popOrder s)
        = done (.dayClosed s.bdr.bands.length (lockersHeld s) (cabinsOccupied s)) (closeDayWith .closedByOrder (popOrder s)) := by
      simp only [closeDay, popOrder_keeps, hd]
      rfl
    generalize hu : ({ popOrder s with sck := { s.sck with day := .closed } } : State) = u
    have hclosed : closeDayWith .closedByOrder (popOrder s)
        = raiseNotice (.dayEvent (.closedByOrder s.bdr.bands.length (lockersHeld s) (cabinsOccupied s))) (closeCabins u) := by
      rw [← hu]; rfl
    have hbdr : u.bdr = s.bdr := by rw [← hu]; rfl
    have hcbu : u.cbu = s.cbu := by rw [← hu]; rfl
    refine ⟨_, next_runOrder_done h hclose, ?_⟩
    rw [hclosed]
    simp only [placeAnswer_keeps, raiseNotice_keeps]
    refine ⟨by rw [(closeCabins_keeps u).2.2.2.2.1, ← hu], closeCabins_queues_empty u, ?_, fun n c hc => ?_,
      fun b r hr => ⟨fun hb => ?_, fun hq ho => ?_⟩, ?_, answered_placeAnswer _ _, ?_⟩
    · rw [← hbdr]; exact numbers_of_keys (closeCabins_keys u)
    · rw [closeCabins_cabin, hcbu, hc]; rfl
    · rw [(closeCabins_find b u).1 (hcbu ▸ hb), hbdr, hr]; rfl
    · rw [(closeCabins_find b u).2 ?_, hbdr, hr]
      rw [hcbu]
      rintro (⟨g, e, he, heb⟩ | ⟨c, hc, ha, hcb⟩)
      · exact hq g e he heb
      · exact ho c hc ha hcb
    · simp [NoticeContent.cls, NoticeClass.code]
    · rw [← hu]; simp [keepsAllBut_iff]
  · exact next_runOrder_refused h (by simp [closeDay, hd])

end Sys2Proof.Machine

/-! Joins at a call pad and by CABIN ASSIGN, and the tickets they are given (R54, R57, R59, R60). -/
namespace Sys2Proof.Machine

/-! ## Tickets (R54) -/

theorem CabinUnit.mem_heldTickets (u : CabinUnit) (g x : Nat) : x ∈ u.heldTickets g ↔ u.TicketHeld g x := by
  simp [CabinUnit.heldTickets, CabinUnit.TicketHeld, and_assoc]

theorem ticketAfter_mod (p : Nat) : ticketAfter (p % 99 + 1) = (p + 1) % 99 + 1 := by
  unfold ticketAfter; split <;> omega

/-- The search comes to the first ticket that is not held, counting on from 99 to 1. -/
theorem firstFreeTicket_eq (held : List Nat) (tries p i : Nat) (hi : i < tries) (hheld : ∀ j, j < i → (p + j) % 99 + 1 ∈ held)
    (hfree : (p + i) % 99 + 1 ∉ held) : firstFreeTicket held tries (p % 99 + 1) = (p + i) % 99 + 1 := by
  induction tries generalizing p i with
  | zero => omega
  | succ tries ih =>
    cases i with
    | zero =>
      have hout : p % 99 + 1 ∉ held := hfree
      simp [firstFreeTicket, hout]
    | succ i =>
      have hfirst : p % 99 + 1 ∈ held := hheld 0 (Nat.succ_pos i)
      have hshift : ∀ j, p + 1 + j = p + (j + 1) := fun j => by omega
      have hrest := ih (p + 1) i (by omega) (fun j hj => hshift j ▸ hheld (j + 1) (by omega)) (hshift i ▸ hfree)
      rw [hshift] at hrest
      simpa [firstFreeTicket, hfirst, ticketAfter_mod] using hrest

theorem CabinUnit.ticketFor_eq {u : CabinUnit} {g : Nat} {k : Group} (hk : u.group g = some k) (hlow : 1 ≤ k.nextTicket)
    (hhigh : k.nextTicket ≤ 99) (i : Nat) (hi : i < 99)
    (hheld : ∀ j, j < i → u.TicketHeld g ((k.nextTicket - 1 + j) % 99 + 1))
    (hfree : ¬u.TicketHeld g ((k.nextTicket - 1 + i) % 99 + 1)) : u.ticketFor g = (k.nextTicket - 1 + i) % 99 + 1 := by
  have hstart : (k.nextTicket - 1) % 99 + 1 = k.nextTicket := by omega
  have key := firstFreeTicket_eq (u.heldTickets g) 99 (k.nextTicket - 1) i hi
    (fun j hj => (u.mem_heldTickets g _).mpr (hheld j hj)) (fun hmem => hfree ((u.mem_heldTickets g _).mp hmem))
  rw [hstart] at key
  simpa [CabinUnit.ticketFor, hk] using key

/-- A group holds at most 32 tickets in its queue and one at each of the cabins. -/
theorem CabinUnit.heldTickets_length (u : CabinUnit) (g : Nat) :
    (u.heldTickets g).length ≤ (u.queue g).length + u.cabins.length := by
  simp only [CabinUnit.heldTickets, List.length_append, List.length_map]
  have hshown := List.length_filterMap_le (·.ticketShown) (u.cabins.filter (fun c => c.group = g))
  have hgroup := List.length_filter_le (fun c => decide (c.group = g)) u.cabins
  omega

/-- Of the 99 tickets at least one is not held. -/
theorem CabinUnit.exists_freeTicket {u : CabinUnit} {g p : Nat} (hq : (u.queue g).length ≤ 32) (hc : u.cabins.length ≤ 48) :
    ∃ i, i < 99 ∧ (p + i) % 99 + 1 ∉ u.heldTickets g := by
  by_contra hall
  push Not at hall
  have hsub : Finset.Icc 1 99 ⊆ (u.heldTickets g).toFinset := fun x hx => by
    obtain ⟨hlow, hhigh⟩ := Finset.mem_Icc.mp hx
    have hmem := hall ((x + 98 * (p + 1)) % 99) (Nat.mod_lt _ (by decide))
    have hx : (p + (x + 98 * (p + 1)) % 99) % 99 + 1 = x := by omega
    rw [hx] at hmem
    exact List.mem_toFinset.mpr hmem
  have hcard := Finset.card_le_card hsub
  have hlist := List.toFinset_card_le (u.heldTickets g)
  have hlen := u.heldTickets_length g
  simp only [Nat.card_Icc] at hcard
  omega

theorem CabinUnit.ticketFor_free {u : CabinUnit} {g : Nat} {k : Group} (hk : u.group g = some k) (hlow : 1 ≤ k.nextTicket)
    (hhigh : k.nextTicket ≤ 99) (hq : k.queue.length ≤ 32) (hc : u.cabins.length ≤ 48) :
    1 ≤ u.ticketFor g ∧ u.ticketFor g ≤ 99 ∧ ¬u.TicketHeld g (u.ticketFor g) := by
  have hexists := CabinUnit.exists_freeTicket (g := g) (p := k.nextTicket - 1) (by simpa [CabinUnit.queue, hk] using hq) hc
  obtain ⟨hi, hfree⟩ := Nat.find_spec hexists
  have hheld : ∀ j, j < Nat.find hexists → u.TicketHeld g ((k.nextTicket - 1 + j) % 99 + 1) := fun j hj => by
    have hmin := Nat.find_min hexists hj
    rw [not_and_not_right] at hmin
    exact (u.mem_heldTickets g _).mp (hmin (hj.trans hi))
  rw [u.mem_heldTickets] at hfree
  rw [CabinUnit.ticketFor_eq hk hlow hhigh _ hi hheld hfree]
  exact ⟨by omega, by omega, hfree⟩

/-! ## A join (R57, R59, R60) -/

theorem JoinedGroup.congr {g : Nat} {queue : List QueueEntry} {s u t : State} (h : JoinedGroup g queue s u) (ht : t.cbu = u.cbu) :
    JoinedGroup g queue s t := by
  unfold JoinedGroup at h ⊢
  rwa [ht]

/-- The entry a join appends. -/
def State.joinEntry (s : State) (g : Nat) (b : BandNo) : QueueEntry :=
  { band := b, ticket := s.cbu.ticketFor g, join := s.sck.counter, misses := 0 }

theorem joinQueue_cbu (g : Nat) (b : BandNo) (s : State) :
    (joinQueue g b s).cbu
      = s.cbu.updateGroup g (fun k =>
          { k with nextTicket := ticketAfter (s.cbu.ticketFor g), queue := k.queue ++ [s.joinEntry g b] }) := by
  simp only [joinQueue, appendEntry, setLink_keeps, setQueue_cbu, CabinUnit.updateGroup, List.modify_modify_eq]
  rfl

theorem joinQueue_bdr (g : Nat) (b : BandNo) (s : State) :
    (joinQueue g b s).bdr = s.bdr.update b (fun r => { r with link := some (.queued g (s.cbu.ticketFor g)) }) := by
  simp [joinQueue, appendEntry]

theorem joinQueue_queue {g : Nat} {s : State} (hg : g < s.cbu.groups.length) (b : BandNo) :
    (joinQueue g b s).cbu.queue g = s.cbu.queue g ++ [s.joinEntry g b] := by
  have hk : s.cbu.group g = some s.cbu.groups[g] := List.getElem?_eq_getElem hg
  simp [joinQueue_cbu, CabinUnit.queue, CabinUnit.group_updateGroup, hk]

theorem joinQueue_lowestFree (g : Nat) (b : BandNo) (s : State) :
    (joinQueue g b s).cbu.lowestFree g = s.cbu.lowestFree g := by rw [joinQueue_cbu]; rfl

/-- The group after a join that waits. -/
theorem joinQueue_joinedGroup (g : Nat) (b : BandNo) (s : State) :
    JoinedGroup g (s.cbu.queue g ++ [s.joinEntry g b]) s (joinQueue g b s) := by
  refine ⟨fun k hk => ?_, fun h hne => ?_⟩
  · rw [joinQueue_cbu, CabinUnit.group_updateGroup, if_pos rfl, hk]
    simp [CabinUnit.queue, hk, ticketAfter]
  · rw [joinQueue_cbu, CabinUnit.group_updateGroup, if_neg (Ne.symm hne)]

section
variable {g n : Nat} {b : BandNo} {s u : State} {c : Cabin}

/-- A join while no cabin of the group is Free waits. -/
theorem join_waits (hcbu : u.cbu = (joinQueue g b s).cbu) (hf : s.cbu.lowestFree g = none) : allocate g u = u :=
  allocate_of_noneFree _ _ (by rw [hcbu, joinQueue_lowestFree, hf])

/-- The one band of a queue is offered the lowest Free cabin. -/
theorem allocate_single {e : QueueEntry} (hq : u.cbu.queue g = [e]) (hf : u.cbu.lowestFree g = some n) :
    allocate g u = makeOffer g n e u := by
  simp [allocate, allocateUpTo, hq, hf]

/-- A join at an empty queue while a cabin of the group is Free: the band is offered the lowest of them (R62, R63). -/
theorem join_offers (hcbu : u.cbu = (joinQueue g b s).cbu) (hbdr : u.bdr = (joinQueue g b s).bdr) (hsck : u.sck = s.sck)
    (hsts : u.sts = s.sts) (hg : g < s.cbu.groups.length) (hf : s.cbu.lowestFree g = some n) (hc : s.cbu.find n = some c)
    (hq : s.cbu.queue g = []) :
    (allocate g u).cbu.find n
        = some (c.offeredTo (s.joinEntry g b) ((s.sck.counter + (groupSetting s g).offerWindow) % 86400))
      ∧ (allocate g u).bdr = (joinQueue g b s).bdr.update b (fun r => { r with link := some (.offered n) })
      ∧ (allocate g u).cbu.queue g = [] ∧ JoinedGroup g [] s (allocate g u) := by
  have hqueue : u.cbu.queue g = [s.joinEntry g b] := by rw [hcbu, joinQueue_queue hg, hq, List.nil_append]
  have hfind : u.cbu.find n = some c := by rw [hcbu, joinQueue_cbu, CabinUnit.find_updateGroup, hc]
  rw [allocate_single hqueue (by rw [hcbu, joinQueue_lowestFree, hf])]
  obtain ⟨hjoined, hothers⟩ := joinQueue_joinedGroup g b s
  refine ⟨?_, ?_, ?_, fun k hk => ?_, fun h hne => ?_⟩
  · rw [makeOffer_cbu g n _ c u hfind, CabinUnit.find_put_self _ _ _ c (by simpa using hfind), hsck, groupSetting_congr hsts]
  · rw [makeOffer_bdr g n _ c u hfind, hbdr]; rfl
  · rw [makeOffer_cbu g n _ c u hfind, CabinUnit.put_queue, CabinUnit.queue_updateQueue _ _ _ rfl, hqueue, List.tail_cons]
  · rw [makeOffer_cbu g n _ c u hfind, CabinUnit.put_group, CabinUnit.group_updateGroup, if_pos rfl, hcbu, hjoined k hk, hq]
    rfl
  · rw [makeOffer_cbu g n _ c u hfind, CabinUnit.put_group, CabinUnit.group_updateGroup, if_neg (Ne.symm hne), hcbu, hothers h hne]

end

/-! ## CABIN ASSIGN (R60) -/

/-- CABIN ASSIGN that passes its checks. -/
theorem cabinAssign_joins {b : BandNo} {g : Nat} {s : State} {r : BandRecord} (hd : s.sck.day = .opened) (hg : g ≤ 3)
    (he : s.cbu.emptyGroup g = false) (hr : s.bdr.find b = some r) (hs : r.state = .inside) (hl : r.link = none)
    (hroom : (s.cbu.queue g).length < 32) :
    cabinAssign b g s
      = done (.assigned (s.cbu.ticketFor g) (placementOf g b (allocate g (joinQueue g b s))))
          (showJoin g (s.cbu.ticketFor g) b (allocate g (joinQueue g b s))) := by
  have hg' : ¬3 < g := Nat.not_lt.mpr hg
  have hroom' : ¬Config.maxQueue ≤ (s.cbu.queue g).length := Nat.not_le.mpr hroom
  simp [cabinAssign, hd, hg', he, hr, hs, hl, hroom']

/-- What R60 refuses, in the order of its checks. -/
theorem cabinAssign_refused {b : BandNo} {g : Nat} {s : State} {code : ResultCode}
    (h : (s.sck.day = .closed ∧ code = .notOpen)
      ∨ (s.sck.day = .opened ∧
          (((3 < g ∨ s.cbu.emptyGroup g = true) ∧ code = .range)
          ∨ (g ≤ 3 ∧ s.cbu.emptyGroup g = false ∧
              ((s.bdr.find b = none ∧ code = .noSuch)
              ∨ ∃ r, s.bdr.find b = some r ∧
                  ((r.state = .quoted ∧ code = .settling) ∨ (r.state = .barred ∧ code = .invalid)
                  ∨ (r.state = .inside ∧ r.link ≠ none ∧ code = .bound)
                  ∨ (r.state = .inside ∧ r.link = none ∧ 32 ≤ (s.cbu.queue g).length ∧ code = .tableFull))))))) :
    cabinAssign b g s = refused code s := by
  rcases h with ⟨hd, rfl⟩ | ⟨hd, hchecks⟩
  · simp [cabinAssign, hd]
  rcases hchecks with ⟨hg, rfl⟩ | ⟨hg, he, hband⟩
  · simp [cabinAssign, hd, hg]
  have hg' : ¬3 < g := Nat.not_lt.mpr hg
  rcases hband with ⟨hr, rfl⟩ | ⟨r, hr, hrecord⟩
  · simp [cabinAssign, hd, hg', he, hr]
  rcases hrecord with ⟨hs, rfl⟩ | ⟨hs, rfl⟩ | ⟨hs, hl, rfl⟩ | ⟨hs, hl, hfull, rfl⟩
  · simp [cabinAssign, hd, hg', he, hr, hs]
  · simp [cabinAssign, hd, hg', he, hr, hs]
  · simp [cabinAssign, hd, hg', he, hr, hs, Option.isSome_iff_ne_none.mpr hl]
  · simp [cabinAssign, hd, hg', he, hr, hs, hl, Config.maxQueue, hfull]

/-! ## Presentations at a call pad (R59) -/

theorem padAddr_eq (g : Nat) : padAddr g = g + 81 := Nat.add_comm 81 g

section
variable {g : Nat} {r : BandRecord} {s : State}

/-- A presentation that passes R59. -/
theorem presentAtPad_joins (hd : s.sck.day = .opened) (hs : r.state = .inside) (he : s.cbu.emptyGroup g = false)
    (ha : tariffGroupAccess s.liveBank r.cls g = true) (hl : r.link = none) (hroom : (s.cbu.queue g).length < 32) :
    presentAtPad g r s
      = showJoin g (s.cbu.ticketFor g) r.number (allocate g (playOnce (padAddr g) .accept (joinQueue g r.number s))) := by
  have hroom' : ¬Config.maxQueue ≤ (s.cbu.queue g).length := Nat.not_le.mpr hroom
  simp [presentAtPad, hd, hs, he, ha, hl, hroom']

/-- What R59 refuses, in the order of its checks. -/
theorem presentAtPad_refused {code : DisplayCode}
    (h : (s.sck.day = .closed ∧ code = .cl)
      ∨ (s.sck.day = .opened ∧ r.state = .quoted ∧ code = .se)
      ∨ (s.sck.day = .opened ∧ r.state ≠ .quoted ∧
          (((s.cbu.emptyGroup g = true ∨ tariffGroupAccess s.liveBank r.cls g = false) ∧ code = .na)
          ∨ (s.cbu.emptyGroup g = false ∧ tariffGroupAccess s.liveBank r.cls g = true ∧
              (((∃ h x, r.link = some (.queued h x)) ∧ code = .iq) ∨ ((∃ n, r.link = some (.offered n)) ∧ code = .iq)
              ∨ ((∃ n, r.link = some (.holding n)) ∧ code = .hc)
              ∨ (r.link = none ∧ 32 ≤ (s.cbu.queue g).length ∧ code = .qf)))))) :
    presentAtPad g r s = refuseAt (padAddr g) 0 code s := by
  rcases h with ⟨hd, rfl⟩ | ⟨hd, hs, rfl⟩ | ⟨hd, hs, hchecks⟩
  · simp [presentAtPad, hd]
  · simp [presentAtPad, hd, hs]
  rcases hchecks with ⟨ha, rfl⟩ | ⟨he, ha, hlinks⟩
  · simp [presentAtPad, hd, hs, ha]
  rcases hlinks with ⟨⟨x, y, hl⟩, rfl⟩ | ⟨⟨x, hl⟩, rfl⟩ | ⟨⟨x, hl⟩, rfl⟩ | ⟨hl, hfull, rfl⟩
  · simp [presentAtPad, hd, hs, he, ha, hl]
  · simp [presentAtPad, hd, hs, he, ha, hl]
  · simp [presentAtPad, hd, hs, he, ha, hl]
  · simp [presentAtPad, hd, hs, he, ha, hl, Config.maxQueue, hfull]

/-- A presentation that fails one of R59's checks is refused, with one code or another. -/
theorem presentAtPad_refuses (h : s.sck.day = .closed ∨ r.state = .quoted ∨ s.cbu.emptyGroup g = true
      ∨ tariffGroupAccess s.liveBank r.cls g = false ∨ r.link ≠ none ∨ 32 ≤ (s.cbu.queue g).length) :
    ∃ code, presentAtPad g r s = refuseAt (padAddr g) 0 code s := by
  unfold presentAtPad
  dsimp only
  split
  · exact ⟨_, rfl⟩
  split
  · exact ⟨_, rfl⟩
  split
  · exact ⟨_, rfl⟩
  split
  · exact ⟨_, rfl⟩
  · exact ⟨_, rfl⟩
  · exact ⟨_, rfl⟩
  split
  · exact ⟨_, rfl⟩
  · next hd hs ha _ hl hroom => simp_all [Config.maxQueue]; omega

end

/-- Settles O30: the tickets, the two outcomes of a join by whether a cabin is Free, and the refusals by their checks. -/
theorem joinsPlaceTheBand : Obligations.JoinsPlaceTheBand := by
  refine ⟨fun tag body s r h hd hg3 hg he hr hs hl hroom => ?_, fun g r s hr => ⟨fun hd hs hg he ha hl hroom => ?_, fun hbad => ?_⟩,
    fun u g k hk hlow hhigh => ⟨fun i hi hheld hfree => CabinUnit.ticketFor_eq hk hlow hhigh i hi hheld hfree,
      fun hq hc => CabinUnit.ticketFor_free hk hlow hhigh hq hc⟩,
    fun tag body s code h hbad => next_runOrder_refused h (cabinAssign_refused hbad), fun g r s code hbad => ?_, fun g s => ?_⟩
  · have hassign := cabinAssign_joins (s := popOrder s) hd hg3 he hr hs hl hroom
    refine ⟨fun hf => ⟨_, next_runOrder_done h hassign, ?_⟩, fun n c hf hc hq => ⟨_, next_runOrder_done h hassign, ?_⟩⟩
    · rw [join_waits (s := popOrder s) rfl hf]
      simp only [placeAnswer_keeps, showJoin_keeps]
      refine ⟨joinQueue_queue (s := popOrder s) hg _, ?_, by rw [joinQueue_cbu]; rfl,
        (joinQueue_joinedGroup _ _ (popOrder s)).congr (by simp), by simp [keepsAllBut_iff]⟩
      simp [joinQueue_bdr, hr]
    · obtain ⟨hn, hbdr, hqueue, hjoined⟩ := join_offers (g := byteAt body 5) (b := bandAt body 0) (s := popOrder s) rfl rfl
        (by simp) (by simp) hg hf hc hq
      simp only [placeAnswer_keeps, showJoin_keeps]
      refine ⟨hn, ?_, hqueue, hjoined.congr (by simp), ?_, by simp [keepsAllBut_iff]⟩
      · simp [hbdr, joinQueue_bdr, hr]
      · have hplaced : placementOf (byteAt body 5) (bandAt body 0)
            (allocate (byteAt body 5) (joinQueue (byteAt body 5) (bandAt body 0) (popOrder s))) = .cabin n := by
          simp [placementOf, hbdr, joinQueue_bdr, hr]
        rw [hplaced]
        exact answered_placeAnswer _ _
  · rw [presentAtPad_joins hd hs he ha hl hroom]
    refine ⟨fun hf => ?_, fun n c hf hc hq => ?_, by simp [keepsAllBut_iff]⟩
    · rw [join_waits (g := g) (b := r.number) (s := s) (by simp) hf]
      simp only [showJoin_keeps, playOnce_keeps]
      refine ⟨joinQueue_queue hg _, ?_, by rw [joinQueue_cbu]; rfl, (joinQueue_joinedGroup _ _ s).congr (by simp)⟩
      simp [joinQueue_bdr, hr]
    · obtain ⟨hn, hbdr, hqueue, hjoined⟩ := join_offers (u := playOnce (padAddr g) .accept (joinQueue g r.number s)) rfl rfl
        (by simp) (by simp) hg hf hc hq
      simp only [showJoin_keeps]
      refine ⟨hn, ?_, hqueue, hjoined.congr (by simp)⟩
      simp [hbdr, joinQueue_bdr, hr]
  · obtain ⟨code, hcode⟩ := presentAtPad_refuses hbad
    rw [hcode]; simp [keepsAllBut_iff]
  · rw [presentAtPad_refused hbad]
    exact ⟨by simp [keepsAllBut_iff], padAddr_eq g ▸ refusalShown_refuseAt { station := padAddr g, door := 0 } code s s rfl⟩
  · exact ⟨by simp [keepsAllBut_iff, masterAtPad],
      padAddr_eq g ▸ patternPlayed_playOnce (padAddr g) .accept s s (.refl _ _)⟩

end Sys2Proof.Machine

/-! The occupancy count of a minute boundary (R56, R67): the counters, the condition and the entries of a cabin whose time has
run out. -/
namespace Sys2Proof.Machine

/-! ## The counters (R67) -/

theorem countDown_eq_zero (k : Int) : countDown k = 0 ↔ k = 1 := by unfold countDown; split <;> omega

theorem Cabin.counted_eq (c : Cabin) :
    c.counted = if c.acting = .occupied then
        { c with counter := if c.counter ≤ -1440 then c.counter else c.counter - 1
                 overstayFlag := decide (c.counter = 1) || c.overstayFlag }
      else c := by
  unfold Cabin.counted
  split
  · by_cases h : c.counter = 1
    · simp [countDown, h]
    · rw [if_neg fun hz => h ((countDown_eq_zero _).mp hz)]
      simp [countDown, h]
  · rfl

theorem countOccupancy_find (s : State) (n : Nat) : (countOccupancy s).cbu.find n = (s.cbu.find n).map Cabin.counted := by
  rw [← raiseBoundary_find_cabin 0 s n]; simp [raiseBoundary]

theorem countCabin_groups (n : Nat) (s : State) : (countCabin n s).cbu.groups = s.cbu.groups := by
  unfold countCabin; dsimp only; (repeat' split) <;> simp

theorem countOccupancy_groups (s : State) : (countOccupancy s).cbu.groups = s.cbu.groups :=
  List.foldlRecOn _ _ (motive := fun t : State => t.cbu.groups = s.cbu.groups) rfl fun t ht n _ =>
    (countCabin_groups n t).trans ht

/-- The count of some cabins leaves the entry of every other. -/
theorem foldl_countCabin_other (l : List Nat) (n : Nat) (hn : n ∉ l) (s : State) :
    (l.foldl (fun t m => countCabin m t) s).cbu.find n = s.cbu.find n :=
  List.foldlRecOn l _ (motive := fun t : State => t.cbu.find n = s.cbu.find n) rfl fun t ht m hm =>
    (countCabin_find_other t m n fun h => hn (h ▸ hm)).trans ht

/-! ## The condition (R67, R158) -/

/-- A cabin counted whose counter does not reach 0 changes in its counter alone. -/
theorem countCabin_quiet (n : Nat) (s : State) (h : ∀ c, s.cbu.find n = some c → c.acting = .occupied → c.counter ≠ 1) :
    KeepsAllBut [.cbu] s (countCabin n s) := by
  cases hc : s.cbu.find n with
  | none => simp [countCabin, hc, keepsAllBut_iff]
  | some c =>
    by_cases hocc : c.acting = .occupied
    · have hk : ¬countDown c.counter = 0 := fun hz => h c hc hocc ((countDown_eq_zero _).mp hz)
      have hcount : countCabin n s = putCabin n { c with counter := countDown c.counter } s := by simp [countCabin, hc, hocc, hk]
      rw [hcount, putCabin_of_sameState { c with counter := countDown c.counter } hc rfl]
      simp [keepsAllBut_iff]
    · simp [countCabin, hc, hocc, keepsAllBut_iff]

/-- A count at which no counter reaches 0 changes the counters alone. -/
theorem countOccupancy_quiet (s : State) (h : ∀ c ∈ s.cbu.cabins, c.acting = .occupied → c.counter ≠ 1) :
    KeepsAllBut [.cbu] s (countOccupancy s) := by
  have key : ∀ (l : List Nat) (t : State), l.Nodup →
      (∀ n ∈ l, ∀ c, t.cbu.find n = some c → c.acting = .occupied → c.counter ≠ 1) →
      KeepsAllBut [.cbu] t (l.foldl (fun t n => countCabin n t) t) := fun l => by
    induction l with
    | nil => exact fun t _ _ b _ => by cases b <;> rfl
    | cons n l ih =>
      intro t hl ht
      obtain ⟨hn, hl⟩ := List.nodup_cons.mp hl
      refine (countCabin_quiet n t (ht n List.mem_cons_self)).trans (ih _ hl fun m hm c hc => ?_)
      rw [countCabin_find_other t n m fun hmn => hn (hmn ▸ hm)] at hc
      exact ht m (List.mem_cons_of_mem n hm) c hc
  exact key _ s List.nodup_range fun n _ c hc => h c (List.mem_of_getElem? hc)

/-- The count of every cabin is the count of some, of one, and of the others. -/
theorem countOccupancy_split {s : State} {n : Nat} {c : Cabin} (hc : s.cbu.find n = some c) :
    ∃ before after : List Nat, n ∉ before ∧ n ∉ after ∧ countOccupancy s
      = after.foldl (fun t m => countCabin m t) (countCabin n (before.foldl (fun t m => countCabin m t) s)) := by
  obtain ⟨before, after, hsplit⟩ := List.append_of_mem (List.mem_range.mpr (CabinUnit.lt_of_find hc))
  have hnodup : (before ++ n :: after).Nodup := hsplit ▸ List.nodup_range
  rw [List.nodup_append, List.nodup_cons] at hnodup
  obtain ⟨-, ⟨hafter, -⟩, hdisjoint⟩ := hnodup
  exact ⟨before, after, fun hmem => hdisjoint n hmem n List.mem_cons_self rfl, hafter,
    by rw [countOccupancy, overCabins, hsplit, List.foldl_append, List.foldl_cons]⟩

/-- A counter that reaches 0 sets CabinOverstay. -/
theorem countOccupancy_latches {s : State} {n : Nat} {c : Cabin} (hc : s.cbu.find n = some c) (hocc : c.acting = .occupied)
    (hone : c.counter = 1) : (countOccupancy s).cnu.bits.getLsbD 1 = true := by
  obtain ⟨before, after, hbefore, -, hsplit⟩ := countOccupancy_split hc
  have hfind := (foldl_countCabin_other before n hbefore s).trans hc
  rw [hsplit]
  generalize before.foldl (fun t m => countCabin m t) s = u at hfind ⊢
  have hlatched : (countCabin n u).cnu.bits.getLsbD 1 = true := by
    simp [countCabin, hfind, hocc, hone, countDown, NoticeContent.cls, NoticeClass.code]
  exact List.foldlRecOn after _ (motive := fun t : State => (countCabin n u).cnu.Within t.cnu) (.refl _)
    (fun t ht m _ => countCabin_within ht m) 1 hlatched

/-! ## The entries of a cabin whose time has run out (R56) -/

/-- An Occupied cabin whose counter the count brings to 0. -/
def Cabin.RunsOut (c : Cabin) : Prop := c.state = .occupied ∧ c.counter = 1

/-- The record of a cabin's station once its overstay has been shown. -/
def Station.overstaying (st : Station) (entryExpiry : Option Nat) : Station :=
  ((st.write (.bolt 0) (.bolt (match entryExpiry with | some x => .unlockedUntil x | none => .locked))).write (.lamp 0)
    (.lamp .fastFlash)).write .standing (.standing .blank)

@[simp] theorem Station.overstaying_addr (st : Station) (x : Option Nat) : (st.overstaying x).addr = st.addr := rfl

theorem countCabin_runsOut {n : Nat} {c : Cabin} {s : State} (hc : s.cbu.find n = some c) (h : c.RunsOut) :
    (countCabin n s).flm = s.flm.update (n + 33) (fun st => st.overstaying c.entryExpiry) := by
  obtain ⟨hs, hone⟩ := h
  have hocc : c.acting = .occupied := by simp [Cabin.acting, hs]
  have hcount : (countCabin n s).flm = (moveCabin n { c with counter := 0, overstayFlag := true } s).flm := by
    simp [countCabin, hc, hocc, hone, countDown]
  rw [hcount, moveCabin, showCabin, putCabin_cbu, CabinUnit.find_put_self _ _ _ _ hc]
  simp only [FieldLine.showCabin, Option.bind_some, Cabin.wishes, hs, putCabin_keeps, cabinAddr_eq, if_true]
  rfl

theorem countCabin_flm_stands {n : Nat} {s : State} (h : ∀ c, s.cbu.find n = some c → ¬c.RunsOut) :
    (countCabin n s).flm = s.flm := by
  cases hc : s.cbu.find n with
  | none => simp [countCabin, hc]
  | some c =>
    by_cases hquiet : c.acting = .occupied ∧ c.counter = 1
    · obtain ⟨hocc, hone⟩ := hquiet
      have hs : c.state = .unreachable := by
        by_contra hreach
        exact h c hc ⟨by rwa [Cabin.acting, if_neg hreach] at hocc, hone⟩
      simp [countCabin, hc, hocc, hone, countDown, moveCabin, showCabin, FieldLine.showCabin, CabinUnit.find_put_self _ _ _ _ hc,
        Cabin.wishes, hs]
    · exact countCabin_quiet n s (fun d hd hocc hone => hquiet (by rw [hc, Option.some.injEq] at hd; subst hd; exact ⟨hocc, hone⟩))
        .flm (by simp)

theorem countCabin_station_other {n addr : Nat} {s : State} (h : addr ≠ n + 33) :
    (countCabin n s).flm.find addr = s.flm.find addr := by
  by_cases hrun : ∃ c, s.cbu.find n = some c ∧ c.RunsOut
  · obtain ⟨c, hc, hrun⟩ := hrun
    rw [countCabin_runsOut hc hrun, FieldLine.find_update _ _ _ _ fun st => st.overstaying_addr _, if_neg h]
  · rw [countCabin_flm_stands fun c hc hr => hrun ⟨c, hc, hr⟩]

/-- The count of some cabins leaves the record of every other station. -/
theorem foldl_countCabin_station (l : List Nat) (addr : Nat) (h : ∀ n ∈ l, addr ≠ n + 33) (s : State) :
    (l.foldl (fun t m => countCabin m t) s).flm.find addr = s.flm.find addr :=
  List.foldlRecOn l _ (motive := fun t : State => t.flm.find addr = s.flm.find addr) rfl fun _ ht m hm =>
    (countCabin_station_other (h m hm)).trans ht

/-- The station of a cabin whose time runs out at a count shows the overstay. -/
theorem countOccupancy_runsOut {s : State} {n : Nat} {c : Cabin} (hc : s.cbu.find n = some c) (h : c.RunsOut) :
    (countOccupancy s).flm.find (n + 33) = (s.flm.find (n + 33)).map (fun st => st.overstaying c.entryExpiry) := by
  obtain ⟨before, after, hbefore, hafter, hsplit⟩ := countOccupancy_split hc
  have hfind := (foldl_countCabin_other before n hbefore s).trans hc
  have hother : ∀ l : List Nat, n ∉ l → ∀ m ∈ l, n + 33 ≠ m + 33 := fun l hl m hm heq => hl (by
    rw [Nat.add_right_cancel heq]; exact hm)
  rw [hsplit, foldl_countCabin_station after _ (hother after hafter), countCabin_runsOut hfind h,
    FieldLine.find_update_self _ _ _ (fun st => st.overstaying_addr _), foldl_countCabin_station before _ (hother before hbefore)]

/-- Every other station's record stands. -/
theorem countOccupancy_station_stands {s : State} {addr : Nat}
    (h : ∀ n c, s.cbu.find n = some c → c.RunsOut → addr ≠ n + 33) :
    (countOccupancy s).flm.find addr = s.flm.find addr := by
  have key : ∀ (l : List Nat) (t : State), l.Nodup →
      (∀ n ∈ l, ∀ c, t.cbu.find n = some c → c.RunsOut → addr ≠ n + 33) →
      (l.foldl (fun t n => countCabin n t) t).flm.find addr = t.flm.find addr := fun l => by
    induction l with
    | nil => exact fun t _ _ => rfl
    | cons n l ih =>
      intro t hl ht
      obtain ⟨hn, hl⟩ := List.nodup_cons.mp hl
      have hstands : (countCabin n t).flm.find addr = t.flm.find addr := by
        by_cases haddr : addr = n + 33
        · rw [countCabin_flm_stands fun c hc hr => ht n List.mem_cons_self c hc hr haddr]
        · exact countCabin_station_other haddr
      rw [List.foldl_cons, ih _ hl fun m hm c hc => ?_, hstands]
      rw [countCabin_find_other t n m fun hmn => hn (hmn ▸ hm)] at hc
      exact ht m (List.mem_cons_of_mem n hm) c hc
  exact key _ s List.nodup_range fun n _ c hc hr => h n c hc hr

/-! ## What the entries of an overstay hold (R138) -/

/-- An entry of an image in which one key's entries have been written. -/
theorem Station.mem_write {st : Station} {k : EntryKey} {v : EntryValue} {e : Entry} (h : e ∈ (st.write k v).image) :
    (e.key = k → e.value = v ∧ e.dirty = true) ∧ (e.key ≠ k → e ∈ st.image) := by
  obtain ⟨x, hx, rfl⟩ := List.mem_map.mp h
  split
  · next hk => exact ⟨fun _ => ⟨rfl, rfl⟩, fun hne => absurd hk hne⟩
  · next hk => exact ⟨fun heq => absurd heq hk, fun _ => hx⟩

theorem Station.write_keys (st : Station) (k : EntryKey) (v : EntryValue) :
    (st.write k v).image.map (·.key) = st.image.map (·.key) := by
  simp only [Station.write, List.map_map]
  exact List.map_congr_left fun e _ => by by_cases h : e.key = k <;> simp [h]

theorem Station.overstaying_keys (st : Station) (x : Option Nat) :
    (st.overstaying x).image.map (·.key) = st.image.map (·.key) := by
  simp only [Station.overstaying, Station.write_keys]

theorem Station.overstaying_entries (st : Station) (x : Option Nat) : ∀ e ∈ (st.overstaying x).image,
    (e.key = .lamp 0 → e.value = .lamp .fastFlash ∧ e.dirty = true)
      ∧ (e.key = .standing → e.value = .standing .blank ∧ e.dirty = true)
      ∧ (e.key = .bolt 0 → e.dirty = true
          ∧ e.value = (match x with | some y => .bolt (.unlockedUntil y) | none => .bolt .locked)) := by
  intro e h
  obtain ⟨hstanding, hlamp⟩ := Station.mem_write h
  refine ⟨fun hk => (Station.mem_write (hlamp (by rw [hk]; nofun))).1 hk, hstanding, fun hk => ?_⟩
  have hbolt := (Station.mem_write (hlamp (by rw [hk]; nofun))).2 (by rw [hk]; nofun)
  obtain ⟨hvalue, hdirty⟩ := (Station.mem_write hbolt).1 hk
  exact ⟨hdirty, by rw [hvalue]; cases x <;> rfl⟩

/-- The bolt of an overstay. -/
theorem Station.overstaying_bolt (st : Station) (x : Option Nat) (w : EntryValue) : st.value (.bolt 0) = some w →
    (st.overstaying x).value (.bolt 0) = some (.bolt (match x with | some y => .unlockedUntil y | none => .locked)) := by
  intro h
  simp [Station.overstaying, h]

theorem Station.overstaying_other (st : Station) (x : Option Nat) {k : EntryKey} (hb : k ≠ .bolt 0) (hl : k ≠ .lamp 0)
    (hs : k ≠ .standing) : (st.overstaying x).value k = st.value k := by
  simp [Station.overstaying, hb, hl, hs]

end Sys2Proof.Machine

/-! The passing of seconds (R124, R126, R133): the minute's boundary, the rollover, and the commands that run the clock there. -/
namespace Sys2Proof.Machine

/-! ## A second, and the rollover (R124, R133) -/

theorem BandRegister.bands_ne_nil {r r' : BandRegister} (hk : r'.keys = r.keys) (h : r.bands ≠ []) : r'.bands ≠ [] := fun hnil =>
  h (by
    have hlength := congrArg List.length hk
    simp only [BandRegister.keys, List.length_map, hnil, List.length_nil] at hlength
    exact List.length_eq_zero_iff.mp hlength.symm)

/-- A second within the day moves the counter alone of the clock (R124). -/
theorem secondPasses_sck {s : State} (h : s.sck.counter + 1 < 86400) :
    (secondPasses s).sck = { s.sck with counter := s.sck.counter + 1 } := by
  have hkept := (takeDue_keeps s).2.2.1
  rw [secondPasses, advanceSecond_sck _ (by rw [hkept]; exact h), hkept]

/-- The day logic leaves a Closed day, whose wrapped flag is yes where band records exist (R133). -/
theorem dayLogic_sck (s : State) :
    ∃ wrapped, (dayLogic s).sck = { s.sck with day := .closed, wrapped := wrapped } ∧ (s.bdr.bands ≠ [] → wrapped = true) := by
  have hwrap : ∀ u : State, ∃ wrapped, (wrapDay u).sck = { u.sck with wrapped := wrapped } ∧ (u.bdr.bands ≠ [] → wrapped = true) := fun u => by
    by_cases hb : u.bdr.bands = []
    · exact ⟨u.sck.wrapped, by simp [wrapDay, hb], fun h => absurd hb h⟩
    · refine ⟨true, ?_, fun _ => rfl⟩
      cases hw : u.sck.wrapped with
      | true => simp only [wrapDay, hw, Bool.or_true, if_true]; rw [← hw]
      | false => simp [wrapDay, hb, hw]
  unfold dayLogic
  split
  · obtain ⟨wrapped, hsck, hbands⟩ := hwrap (closeDayWith .closedAtMidnight s)
    have hclosed : (closeDayWith .closedAtMidnight s).sck = { s.sck with day := .closed } := by simp [closeDayWith]
    refine ⟨wrapped, by rw [hsck, hclosed], fun h => hbands (BandRegister.bands_ne_nil ?_ h)⟩
    simp [closeDayWith]
  · next hday =>
    obtain ⟨wrapped, hsck, hbands⟩ := hwrap s
    have hclosed : s.sck.day = .closed := by cases hd : s.sck.day <;> simp_all
    exact ⟨wrapped, by rw [hsck, ← hclosed], hbands⟩

/-- The second after 86,399 is the rollover (R126, R133). -/
theorem advanceSecond_rollover {s : State} (h : s.sck.counter = 86399) :
    advanceSecond s = raiseBoundary 0 (dayLogic (setCounter 0 s)) := by
  simp [advanceSecond, State.now, h, Config.daySeconds]

theorem secondPasses_rollover {s : State} (h : s.sck.counter = 86399) :
    secondPasses s = raiseBoundary 0 (dayLogic (setCounter 0 (takeDue s))) :=
  advanceSecond_rollover (by rw [(takeDue_keeps s).2.2.1]; exact h)

/-- The clock after the rollover (R133). -/
theorem secondPasses_rollover_sck {s : State} (h : s.sck.counter = 86399) :
    ∃ wrapped, (secondPasses s).sck = { s.sck with counter := 0, day := .closed, wrapped := wrapped }
      ∧ (s.bdr.bands ≠ [] → wrapped = true) := by
  have hkept := (takeDue_keeps s).2.2.1
  have hkeys := takeDue_keys s
  rw [secondPasses_rollover h, (raiseBoundary_keeps _ _).2.2.2.2.1]
  generalize takeDue s = u at hkept hkeys ⊢
  obtain ⟨wrapped, hsck, hbands⟩ := dayLogic_sck (setCounter 0 u)
  refine ⟨wrapped, by rw [hsck, setCounter_sck, hkept], fun hb => hbands ?_⟩
  rw [(setCounter_keeps _ _).2.1]
  exact BandRegister.bands_ne_nil hkeys hb

theorem secondPasses_counter {s : State} (h : ClockInRange s) :
    (secondPasses s).sck.counter = (s.sck.counter + 1) % 86400 ∧ (secondPasses s).sck.clockValid = s.sck.clockValid := by
  unfold ClockInRange at h
  by_cases hlast : s.sck.counter = 86399
  · obtain ⟨wrapped, hsck, -⟩ := secondPasses_rollover_sck hlast
    rw [hsck, hlast]
    exact ⟨rfl, rfl⟩
  · rw [secondPasses_sck (by omega)]
    exact ⟨by dsimp only; omega, rfl⟩

/-! ## The clock run on (R124) -/

theorem runClock_counter (n : Nat) {s : State} (h : ClockInRange s) :
    (runClock n s).sck.counter = (s.sck.counter + n) % 86400 ∧ (runClock n s).sck.clockValid = s.sck.clockValid := by
  induction n generalizing s with
  | zero => exact ⟨(Nat.mod_eq_of_lt h).symm, rfl⟩
  | succ n ih =>
    obtain ⟨hcounter, hvalid⟩ := secondPasses_counter h
    obtain ⟨hlater, hkept⟩ := ih (s := secondPasses s) (by unfold ClockInRange; omega)
    rw [runClock, hlater, hkept, hcounter, hvalid]
    exact ⟨by omega, rfl⟩

theorem runClock_sck (n : Nat) {s : State} (h : s.sck.counter + n < 86400) :
    (runClock n s).sck = { s.sck with counter := s.sck.counter + n } := by
  induction n generalizing s with
  | zero => rfl
  | succ n ih =>
    have hsck := secondPasses_sck (s := s) (by omega)
    rw [runClock, ih (by rw [hsck]; dsimp only; omega), hsck]
    simp only [SiteClock.mk.injEq, and_self, and_true]
    omega

theorem runClock_succ (n : Nat) (s : State) : runClock (n + 1) s = secondPasses (runClock n s) := by
  induction n generalizing s with
  | zero => rfl
  | succ n ih => rw [runClock, ih, runClock]

/-- The clock run to the rollover (R133). -/
theorem runClock_rollover_sck {s : State} (h : ClockInRange s) :
    ∃ wrapped, (runClock (86400 - s.sck.counter) s).sck = { s.sck with counter := 0, day := .closed, wrapped := wrapped }
      ∧ (s.bdr.bands ≠ [] → wrapped = true) := by
  unfold ClockInRange at h
  obtain ⟨n, hn⟩ : ∃ n, 86400 - s.sck.counter = n + 1 := ⟨86399 - s.sck.counter, by omega⟩
  have hsck := runClock_sck n (s := s) (by omega)
  obtain ⟨wrapped, hrolled, hbands⟩ := secondPasses_rollover_sck (s := runClock n s) (by rw [hsck]; dsimp only; omega)
  rw [hn, runClock_succ]
  exact ⟨wrapped, by rw [hrolled, hsck], fun hb => hbands (BandRegister.bands_ne_nil (runClock_keys n s) hb)⟩

/-! ## The last second of a minute (R126 (a)) -/

theorem step_of_empty {s : State} (h : s.pending = []) : step s = .next (secondPasses s) := by simp [step, h]

theorem exec_minuteBoundary (s : State) : exec .minuteBoundary s = .next (runClock (60 - s.sck.counter % 60) s) := rfl

theorem exec_midnightRollover (s : State) : exec .midnightRollover s = .next (runClock (86400 - s.sck.counter) s) := rfl

section
variable {s : State}

/-- A second before the minute's last: what is due is taken, and the counter moves on. -/
theorem secondPasses_within_minute (hs : ClockInRange s) (h : s.sck.counter % 60 ≠ 59) :
    secondPasses s = setCounter (s.sck.counter + 1) (takeDue s) := by
  unfold ClockInRange at hs
  have hkept := (takeDue_keeps s).2.2.1
  rw [secondPasses, advanceSecond_within_minute _ (by rw [hkept]; omega) (by rw [hkept]; omega), hkept]

theorem secondPasses_at_minute (hs : ClockInRange s) (h : s.sck.counter % 60 = 59) (hday : s.sck.counter ≠ 86399) :
    secondPasses s
      = raiseBoundary ((s.sck.counter + 1) / 60) (setCounter (s.sck.counter + 1) (takeDue s)) := by
  unfold ClockInRange at hs
  have hkept := (takeDue_keeps s).2.2.1
  rw [secondPasses, advanceSecond_at_minute _ (by rw [hkept]; omega) (by rw [hkept]; omega), hkept]

/-- The boundary of a minute's last second is that second. -/
theorem exec_minuteBoundary_last (h : s.sck.counter % 60 = 59) : exec .minuteBoundary s = .next (secondPasses s) := by
  rw [exec_minuteBoundary, h]; rfl

/-- The boundary of a second before the last is that of the second after it. -/
theorem exec_minuteBoundary_earlier (hs : ClockInRange s) (h : s.sck.counter % 60 ≠ 59) :
    exec .minuteBoundary s = exec .minuteBoundary (setCounter (s.sck.counter + 1) (takeDue s)) := by
  unfold ClockInRange at hs
  have hnext : 60 - s.sck.counter % 60 = 60 - (s.sck.counter + 1) % 60 + 1 := by omega
  rw [exec_minuteBoundary, exec_minuteBoundary, hnext, runClock, secondPasses_within_minute hs h]
  rfl

end

/-- Settles O3: the second by whether it is the day's last or the minute's, the commands by the seconds they run, and the count
cabin by cabin. -/
theorem secondsAndBoundariesPass : Obligations.SecondsAndBoundariesPass := by
  refine ⟨fun s hp h => ?_, fun s h => ⟨?_, ?_⟩, fun s u h hu => ?_, fun s t ht => ?_⟩
  · obtain ⟨hcounter, hvalid⟩ := secondPasses_counter h
    exact ⟨_, step_of_empty hp, hcounter, hvalid, (secondPasses_keeps s).2, (secondPasses_keeps s).1.trans hp⟩
  · obtain ⟨hcounter, hvalid⟩ := runClock_counter (60 - s.sck.counter % 60) h
    exact ⟨_, exec_minuteBoundary s, by rw [hcounter]; omega, hvalid, (runClock_keeps _ s).2⟩
  · obtain ⟨wrapped, hsck, hbands⟩ := runClock_rollover_sck h
    refine ⟨_, exec_midnightRollover s, ?_⟩
    rw [hsck]
    exact ⟨rfl, rfl, rfl, rfl, hbands, (runClock_keeps _ s).2⟩
  · refine ⟨fun hm => ⟨?_, fun hp => ?_⟩, fun hm hday => ?_, fun hday => ⟨?_, ?_⟩, fun hm hp => ?_⟩
    · rw [exec_minuteBoundary_earlier h hm, ← hu]; rfl
    · rw [step_of_empty hp, secondPasses_within_minute h hm, ← hu]; rfl
    · rw [exec_minuteBoundary_last hm, secondPasses_at_minute h hm hday, ← hu]; rfl
    · rw [exec_minuteBoundary_last (by omega), secondPasses_rollover hday, ← hu]; rfl
    · rw [exec_midnightRollover, exec_minuteBoundary, hday]
    · rw [step_of_empty hp, exec_minuteBoundary_last hm]
  · subst ht
    refine ⟨fun n c hc => ?_, countOccupancy_groups s, by simp [keepsAllBut_iff], countOccupancy_quiet s, fun n c hc hocc hone =>
      ⟨countOccupancy_latches hc hocc hone, fun st hs hst => ?_⟩⟩
    · rw [countOccupancy_find, hc, Option.map_some, Cabin.counted_eq]
    · refine ⟨st.overstaying c.entryExpiry, ?_, st.overstaying_keys _, Station.overstaying_entries st _⟩
      rw [countOccupancy_runsOut hc ⟨hs, hone⟩, hst, Option.map_some]

end Sys2Proof.Machine

/-! SET CLOCK (R127): every timer carried over, and the one boundary raised after it (R126 (c)). -/
namespace Sys2Proof.Machine

/-! ## A timer carried over (R127) -/

theorem carryTimer_lt (former set x : Nat) : carryTimer former set x < 86400 :=
  Nat.mod_lt _ (by decide)

/-- A timer carried over is reached after the same time (R127). -/
theorem secondsUntil_carryTimer {former set x : Nat} (hf : former < 86400) (hs : set < 86400) (hx : x < 86400) :
    secondsUntil set (carryTimer former set x) = secondsUntil former x := by
  unfold carryTimer addSeconds secondsUntil Config.daySeconds
  omega

@[simp] theorem Cabin.carry_acting (c : Cabin) (f : Nat → Nat) : (c.carry f).acting = c.acting := rfl

@[simp] theorem Cabin.carry_counter (c : Cabin) (f : Nat → Nat) : (c.carry f).counter = c.counter := rfl

/-- The count reads no timer. -/
theorem Cabin.counted_carry (c : Cabin) (f : Nat → Nat) : (c.carry f).counted = c.counted.carry f := by
  simp only [Cabin.counted, Cabin.carry_acting, Cabin.carry_counter]
  by_cases hocc : c.acting = .occupied
  · by_cases hzero : countDown c.counter = 0 <;> simp only [hocc, hzero, if_true, if_false] <;> rfl
  · simp only [hocc, if_false]

theorem Station.carry_value (st : Station) (f : Nat → Nat) (k : EntryKey) :
    (st.carry f).value k = (st.value k).map (·.carry f) := by
  unfold Station.value Station.carry
  rw [List.find?_map, Option.map_map, Option.map_map]
  rfl

section
variable (f : Nat → Nat) (s : State)

theorem carryTimers_find_cabin (n : Nat) : (carryTimers f s).cbu.find n = (s.cbu.find n).map (·.carry f) :=
  List.getElem?_map

theorem carryTimers_find_station (addr : Nat) : (carryTimers f s).flm.find addr = (s.flm.find addr).map (·.carry f) := by
  unfold FieldLine.find carryTimers
  dsimp only
  rw [List.find?_map]
  rfl

end

/-! ## The clock set (R126 (c), R127) -/

/-- The clock set and its timers carried over, before the boundary. -/
def clockCarried (second : Nat) (s : State) : State :=
  { carryTimers (carryTimer s.sck.counter second) s with sck := { s.sck with counter := second, clockValid := true } }

theorem clockSetTo_eq (second : Nat) (s : State) :
    clockSetTo second s = if second / 60 = s.sck.counter / 60 then clockCarried second s
      else raiseBoundary (second / 60) (clockCarried second s) := by
  by_cases h : second / 60 = s.sck.counter / 60
  · rw [if_pos h]; exact if_neg (not_not_intro h)
  · rw [if_neg h]; exact if_pos h

section
variable {second : Nat} {s : State}

theorem clockSetTo_within (h : second / 60 = s.sck.counter / 60) : clockSetTo second s = clockCarried second s := by
  rw [clockSetTo_eq, if_pos h]

theorem clockSetTo_across (h : second / 60 ≠ s.sck.counter / 60) :
    clockSetTo second s = raiseBoundary (second / 60) (clockCarried second s) := by
  rw [clockSetTo_eq, if_neg h]

theorem clockCarried_find_cabin (n : Nat) :
    (clockCarried second s).cbu.find n = (s.cbu.find n).map (·.carry (carryTimer s.sck.counter second)) :=
  carryTimers_find_cabin _ s n

theorem clockCarried_find_station (addr : Nat) :
    (clockCarried second s).flm.find addr = (s.flm.find addr).map (·.carry (carryTimer s.sck.counter second)) :=
  carryTimers_find_station _ s addr

/-- The boundary leaves the clock, the records, the lockers, the lanes, the watches and the groups as they were carried over. -/
theorem clockSetTo_stands (second : Nat) (s : State) :
    (clockSetTo second s).sck = (clockCarried second s).sck ∧ (clockSetTo second s).bdr = (clockCarried second s).bdr
      ∧ (clockSetTo second s).lmu = (clockCarried second s).lmu ∧ (clockSetTo second s).xlu = (clockCarried second s).xlu
      ∧ (clockSetTo second s).lkc.watches = (clockCarried second s).lkc.watches
      ∧ (clockSetTo second s).cbu.groups = (clockCarried second s).cbu.groups := by
  rw [clockSetTo_eq]
  split
  · exact ⟨rfl, rfl, rfl, rfl, rfl, rfl⟩
  · obtain ⟨-, hbdr, hlmu, hxlu, hsck, -⟩ := raiseBoundary_keeps (second / 60) (clockCarried second s)
    have hgroups : ∀ m t, (raiseBoundary m t).cbu.groups = t.cbu.groups := fun m t => by
      rw [raiseBoundary, (swapTariff_keeps m _).2.2.2.1, countOccupancy_groups]
    exact ⟨hsck, hbdr, hlmu, hxlu, raiseBoundary_watches _ _, hgroups _ _⟩

/-- A cabin after SET CLOCK: its timers carried over, and counted once where a boundary is raised. -/
theorem clockSetTo_find_cabin (n : Nat) : (clockSetTo second s).cbu.find n = (s.cbu.find n).map (fun c =>
    if second / 60 = s.sck.counter / 60 then c.carry (carryTimer s.sck.counter second)
    else (c.carry (carryTimer s.sck.counter second)).counted) := by
  by_cases h : second / 60 = s.sck.counter / 60
  · simp only [clockSetTo_within h, clockCarried_find_cabin, h, if_true]
  · rw [clockSetTo_across h, raiseBoundary_find_cabin, clockCarried_find_cabin, Option.map_map]
    simp only [h, if_false]
    rfl

/-- A carried cabin counted, or not, in its fields. -/
theorem Cabin.carry_counted (c : Cabin) (f : Nat → Nat) (p : Prop) [Decidable p] :
    (if p then c.carry f else (c.carry f).counted) =
      { c with
        offerExpiry := c.offerExpiry.map f
        entryExpiry := c.entryExpiry.map f
        cleaningExpiry := c.cleaningExpiry.map f
        doorOpenSince := c.doorOpenSince.map f
        counter := if ¬p ∧ c.acting = .occupied ∧ -1440 < c.counter then c.counter - 1 else c.counter
        overstayFlag := decide (¬p ∧ c.acting = .occupied ∧ c.counter = 1) || c.overstayFlag } := by
  by_cases hp : p
  · simp [hp, Cabin.carry]
  · rw [if_neg hp, Cabin.counted_carry, Cabin.counted_eq]
    by_cases hocc : c.acting = .occupied
    · by_cases hlow : c.counter ≤ -1440
      · simp [hp, hocc, Cabin.carry, hlow, not_lt.mpr hlow]
      · simp [hp, hocc, Cabin.carry, hlow, not_le.mp hlow]
    · simp [hp, hocc, Cabin.carry]

/-! ### The tariff bank (R86) -/

/-- The bank in force after a swap, and its copy in the store, whose write runs. -/
theorem raiseBoundary_tfs_switched (minute : Nat) {s : State} (h : s.tfs.load = .complete) :
    (raiseBoundary minute s).tfs = { live := some s.tfs.standby, standby := List.replicate 142 0, load := .empty
                                     store := { bytes := s.tfs.standby, writing := true } } := by
  simp [raiseBoundary, swapTariff, h, Config.tariffBytes]

theorem clockSetTo_switches (hm : second / 60 ≠ s.sck.counter / 60) (hload : s.tfs.load = .complete) :
    (clockSetTo second s).tfs = { live := some s.tfs.standby, standby := List.replicate 142 0, load := .empty
                                  store := { bytes := s.tfs.standby, writing := true } }
      ∧ (clockSetTo second s).cnu.bits.getLsbD 5 = true := by
  rw [clockSetTo_across hm]
  exact ⟨raiseBoundary_tfs_switched _ (s := clockCarried second s) hload,
    (raiseBoundary_switches _ (clockCarried second s) hload).2.2⟩

theorem clockSetTo_tfs_stands (h : second / 60 = s.sck.counter / 60 ∨ s.tfs.load ≠ .complete) :
    (clockSetTo second s).tfs = s.tfs := by
  rw [clockSetTo_eq]
  split
  · rfl
  · next hm => exact raiseBoundary_tfs_kept _ (clockCarried second s) (h.resolve_left hm)

/-! ### Conditions and notices (R158) -/

/-- With neither a cabin to count to 0 nor a bank to swap a boundary raises no condition and no notice. -/
theorem raiseBoundary_quiet (minute : Nat) {s : State} (hload : s.tfs.load ≠ .complete)
    (hcount : ∀ c ∈ s.cbu.cabins, c.acting = .occupied → c.counter ≠ 1) : KeepsAllBut [.cbu] s (raiseBoundary minute s) := by
  have hquiet := countOccupancy_quiet s hcount
  have hswap : raiseBoundary minute s = countOccupancy s := by
    unfold raiseBoundary
    generalize countOccupancy s = u at hquiet ⊢
    rw [swapTariff, if_neg (by rw [hquiet .tfs (by simp)]; exact hload)]
  rw [hswap]
  exact hquiet

theorem clockSetTo_quiet (h : second / 60 = s.sck.counter / 60
      ∨ (s.tfs.load ≠ .complete ∧ ∀ c ∈ s.cbu.cabins, c.acting = .occupied → c.counter ≠ 1)) :
    (clockSetTo second s).cnu = s.cnu ∧ (clockSetTo second s).lkc.notices = s.lkc.notices := by
  rw [clockSetTo_eq]
  split
  · exact ⟨rfl, rfl⟩
  · next hm =>
    obtain ⟨hload, hcount⟩ := h.resolve_left hm
    have hquiet := raiseBoundary_quiet (second / 60) (s := clockCarried second s) hload fun c hc => by
      obtain ⟨d, hd, rfl⟩ := List.mem_map.mp hc
      exact hcount d hd
    exact ⟨hquiet .cnu (by simp), (congrArg LinkController.notices (hquiet .lkc (by simp)) :)⟩

/-! ### The images of the stations (R56, R139) -/

theorem raiseBoundary_flm (minute : Nat) (s : State) : (raiseBoundary minute s).flm = (countOccupancy s).flm :=
  (swapTariff_keeps minute _).2.2.2.2.2.2.2

/-- A cabin counted after SET CLOCK runs out as the cabin before it would. -/
theorem clockCarried_runsOut {n : Nat} {c : Cabin} (hc : (clockCarried second s).cbu.find n = some c) (h : c.RunsOut) :
    ∃ d, s.cbu.find n = some d ∧ d.RunsOut := by
  rw [clockCarried_find_cabin, Option.map_eq_some_iff] at hc
  obtain ⟨d, hd, rfl⟩ := hc
  exact ⟨d, hd, h⟩

/-- The entry of an image after SET CLOCK: its timer carried over, but for what the count writes. -/
theorem clockSetTo_value {addr : Nat} {st : Station} {k : EntryKey} {w : EntryValue} (hst : s.flm.find addr = some st)
    (hl : k ≠ .lamp 0) (hs : k ≠ .standing)
    (hrun : second / 60 ≠ s.sck.counter / 60 → k = .bolt 0 → ∀ n c, s.cbu.find n = some c → c.RunsOut → addr ≠ n + 33)
    (hw : st.value k = some w) :
    ∃ st', (clockSetTo second s).flm.find addr = some st'
      ∧ st'.value k = some (w.carry (carryTimer s.sck.counter second)) := by
  have hcarried : (clockCarried second s).flm.find addr = some (st.carry (carryTimer s.sck.counter second)) := by
    rw [clockCarried_find_station, hst, Option.map_some]
  have hvalue : (st.carry (carryTimer s.sck.counter second)).value k = some (w.carry (carryTimer s.sck.counter second)) := by
    rw [Station.carry_value, hw, Option.map_some]
  by_cases hm : second / 60 = s.sck.counter / 60
  · exact ⟨_, by rw [clockSetTo_within hm]; exact hcarried, hvalue⟩
  · rw [clockSetTo_across hm, raiseBoundary_flm]
    by_cases hout : ∃ n c, (clockCarried second s).cbu.find n = some c ∧ c.RunsOut ∧ addr = n + 33
    · obtain ⟨n, c, hc, hr, rfl⟩ := hout
      obtain ⟨d, hd, hdr⟩ := clockCarried_runsOut hc hr
      refine ⟨_, by rw [countOccupancy_runsOut hc hr, hcarried, Option.map_some], ?_⟩
      rw [Station.overstaying_other _ _ (fun hk => hrun hm hk n d hd hdr rfl) hl hs, hvalue]
    · refine ⟨_, by rw [countOccupancy_station_stands fun n c hc hr ha => hout ⟨n, c, hc, hr, ha⟩, hcarried], hvalue⟩

/-- The bolt of a cabin that the count brings into overstay is written from the carried entry expiry (R56). -/
theorem clockSetTo_overstay {n : Nat} {c : Cabin} {st : Station} {w : EntryValue} (hm : second / 60 ≠ s.sck.counter / 60)
    (hc : s.cbu.find n = some c) (hrun : c.RunsOut) (hst : s.flm.find (n + 33) = some st) (hw : st.value (.bolt 0) = some w) :
    ∃ st', (clockSetTo second s).flm.find (n + 33) = some st'
      ∧ st'.value (.bolt 0) = some (.bolt (match c.entryExpiry with
          | some x => .unlockedUntil (carryTimer s.sck.counter second x)
          | none => .locked)) := by
  have hcarried : (clockCarried second s).cbu.find n = some (c.carry (carryTimer s.sck.counter second)) := by
    rw [clockCarried_find_cabin, hc, Option.map_some]
  have hvalue : (st.carry (carryTimer s.sck.counter second)).value (.bolt 0)
      = some (w.carry (carryTimer s.sck.counter second)) := by
    rw [Station.carry_value, hw, Option.map_some]
  refine ⟨(st.carry (carryTimer s.sck.counter second)).overstaying (c.carry (carryTimer s.sck.counter second)).entryExpiry, ?_, ?_⟩
  · rw [clockSetTo_across hm, raiseBoundary_flm, countOccupancy_runsOut hcarried hrun, clockCarried_find_station, hst]
    rfl
  · rw [Station.overstaying_bolt _ _ _ hvalue, Cabin.carry]
    cases c.entryExpiry <;> rfl

end

/-! ## The order -/

theorem setClock_passes {second : Nat} {s : State} (h : second ≤ 86399)
    (hfree : ¬(s.configured = true ∧ (s.sck.day = .opened ∨ s.bdr.bands ≠ []))) :
    setClock second s = done (.clockSet second s.sck.counter) (clockSetTo second s) := by
  have htenanted : tenanted s = false := by simpa [tenanted] using hfree
  rw [setClock, if_neg (by omega), htenanted]
  rfl

theorem setClock_notClosed {second : Nat} {s : State} (h : second ≤ 86399) (hconf : s.configured = true)
    (hday : s.sck.day = .opened ∨ s.bdr.bands ≠ []) : setClock second s = refused .notClosed s := by
  have htenanted : tenanted s = true := by simpa [tenanted] using ⟨hconf, hday⟩
  rw [setClock, if_neg (by omega), htenanted]
  rfl

theorem timedKey_ne (k : TimedEntry) : timedKey k ≠ .lamp 0 ∧ timedKey k ≠ .standing := by
  cases k <;> exact ⟨nofun, nofun⟩

/-- Settles O46: the clock set and the boundary raised part by part, and the two refusals. -/
theorem setClockCarriesTheTimers : Obligations.SetClockCarriesTheTimers := by
  refine ⟨fun tag body s h hsecond hfree => ?_, fun former set x hf hs hx =>
      ⟨carryTimer_lt former set x, secondsUntil_carryTimer hf hs hx⟩,
    fun tag body s h hlate => next_runOrder_refused h (by rw [setClock, if_pos hlate]),
    fun tag body s h hsecond hconf hday => next_runOrder_refused h (setClock_notClosed hsecond hconf hday)⟩
  obtain ⟨hsck, hbdr, hlmu, hxlu, hwatches, hgroups⟩ := clockSetTo_stands (u32At body 0) (popOrder s)
  obtain ⟨hpending, hsts⟩ := clockSetTo_keeps (u32At body 0) (popOrder s)
  refine ⟨_, next_runOrder_done h (setClock_passes hsecond hfree), hsck, congrArg LaneUnit.lanes hxlu,
    (LinkController.place_watches _ _).trans hwatches, hlmu, hbdr, fun n c hc => ?_, hgroups, fun hm hload => ?_,
    clockSetTo_tfs_stands (s := popOrder s), fun hquiet => ?_, fun u hu v hv => ?_, fun addr st k x hst hrun => ?_,
    fun n c st w hm hc hocc hone hst hw => clockSetTo_overstay (s := popOrder s) hm hc ⟨hocc, hone⟩ hst hw,
    answered_placeAnswer _ _, hsts, hpending⟩
  · have hfind := clockSetTo_find_cabin (second := u32At body 0) (s := popOrder s) n
    rw [show (popOrder s).cbu.find n = some c from hc, Option.map_some, Cabin.carry_counted] at hfind
    exact hfind
  · obtain ⟨htfs, hbit⟩ := clockSetTo_switches (s := popOrder s) hm hload
    simp [htfs, hbit]
  · obtain ⟨hcnu, hnotices⟩ := clockSetTo_quiet (s := popOrder s) hquiet
    exact ⟨hcnu, (LinkController.place_keeps_notices _ _).trans hnotices⟩
  · subst hv hu
    exact congrArg _ (clockSetTo_eq (u32At body 0) (popOrder s))
  · obtain ⟨hlamp, hstanding⟩ := timedKey_ne k
    have hcarry := fun w => clockSetTo_value (w := w) (s := popOrder s) hst hlamp hstanding fun hm hk n c hc hr =>
      hrun hm hk n c hc hr.1 hr.2
    exact ⟨hcarry _, hcarry _⟩

end Sys2Proof.Machine

/-! Images clamped and committed: the lengths that a clamping keeps, and the figures it brings into their ranges (R85, R169). -/
namespace Sys2Proof.Machine

/-! ## Bytes of a written image -/

/-- A byte written at an offset within the image replaces the byte there (R83). -/
theorem writeSegment_u8Bytes (l : List Byte) (n : Nat) {offset : Nat} (h : offset < l.length) :
    writeSegment l offset (u8Bytes n) = l.set offset (BitVec.ofNat 8 n) := by
  simp [writeSegment, u8Bytes, List.set_eq_take_append_cons_drop, h]

theorem byteAt_writeSegment_u8Bytes (l : List Byte) (n i : Nat) {offset : Nat} (h : offset < l.length) :
    byteAt (writeSegment l offset (u8Bytes n)) i = if i = offset then n % 256 else byteAt l i := by
  rw [writeSegment_u8Bytes l n h, byteAt, List.getD_eq_getElem?_getD]
  split
  · next hi => simp [hi, h]
  · next hi => simp [byteAt, List.getD_eq_getElem?_getD, List.getElem?_set_ne (Ne.symm hi)]

/-- The check value computed afresh leaves every byte before it (R85, R169). -/
theorem byteAt_withCheckValue (image : List Byte) {n i : Nat} (hl : image.length = n) (hi : i + 2 < n) :
    byteAt (withCheckValue image n) i = byteAt image i := by
  have hlt : i < (image.take (n - 2)).length := by rw [List.length_take]; omega
  simp only [byteAt, withCheckValue, List.getD_eq_getElem?_getD]
  rw [List.getElem?_append_left hlt, List.getElem?_take_of_lt (by omega)]

/-! ## Clamping -/

theorem clamp_bounds {lo hi : Nat} (h : lo ≤ hi) (n : Nat) : lo ≤ clamp lo hi n ∧ clamp lo hi n ≤ hi := by
  unfold clamp
  split
  · exact ⟨le_rfl, h⟩
  · split
    · exact ⟨h, le_rfl⟩
    · omega

/-- A setting of one byte brought into its range (spec 00 5.12 (b)). -/
theorem byteAt_clampField {offset lo hi : Nat} {image : List Byte} (h : offset < image.length) (hlo : lo ≤ hi) (hhi : hi < 256)
    (i : Nat) : byteAt (clampField image ⟨offset, false, lo, hi⟩) i
      = if i = offset then clamp lo hi (byteAt image i) else byteAt image i := by
  obtain ⟨-, hle⟩ := clamp_bounds hlo (byteAt image offset)
  simp only [clampField, Bool.false_eq_true, if_false]
  rw [byteAt_writeSegment_u8Bytes _ _ _ h, Nat.mod_eq_of_lt (by omega)]
  split
  · next hi => rw [hi]
  · rfl

/-! ## The lengths of clamped images -/

/-- A field within an image, which is of two bytes at most, is clamped in its place. -/
theorem clampField_length {f : RangedField} {image : List Byte} (h : f.offset + 2 ≤ image.length) :
    (clampField image f).length = image.length := by
  unfold clampField
  split <;> exact writeSegment_length _ _ _ (by simp only [u8Bytes_length, u16Bytes_length]; omega)

theorem clampFields_length {n : Nat} {fields : List RangedField} {image : List Byte} (h : ∀ f ∈ fields, f.offset + 2 ≤ n)
    (hl : image.length = n) : (clampFields fields image).length = n :=
  List.foldlRecOn fields clampField (motive := fun i : List Byte => i.length = n) hl fun _ hn f hf =>
    (clampField_length (hn ▸ h f hf)).trans hn

theorem clampImage_length {n : Nat} {fields : List RangedField} {image : List Byte} (h : ∀ f ∈ fields, f.offset + 2 ≤ n)
    (h2 : 2 ≤ n) (hl : image.length = n) : (clampImage n fields image).length = n := by
  unfold clampImage
  dsimp only
  split
  · exact hl
  · exact withCheckValue_length _ n h2 (clampFields_length h hl)

/-- The counts that R168 lets pass keep every setting that R169 clamps within the image. -/
theorem siteRangedFields_within {i : List Byte} (h : siteStructureGood i = true) :
    ∀ f ∈ siteRangedFields i, f.offset + 2 ≤ 346 := by
  simp only [siteStructureGood, Bool.and_eq_true, decide_eq_true_eq] at h
  obtain ⟨⟨⟨⟨⟨⟨⟨⟨⟨⟨-, -⟩, hbanks⟩, -⟩, hcabins⟩, -⟩, -⟩, hlanes⟩, -⟩, -⟩, -⟩ := h
  intro f hf
  simp only [siteRangedFields, List.mem_append, List.mem_map, List.mem_flatMap, List.mem_range, List.mem_cons, List.not_mem_nil,
    or_false] at hf
  rcases hf with (((hhead | ⟨b, hb, rfl⟩) | ⟨c, hc, rfl⟩) | ⟨g, hg, hgroup⟩) | ⟨l, hl, hlane⟩
  · rcases hhead with rfl | rfl <;> decide
  · simp only [siteBankOffset]; omega
  · simp only [siteCabinOffset]; omega
  · rcases hgroup with rfl | rfl | rfl | rfl | rfl <;> (simp only [siteGroupOffset]; omega)
  · rcases hlane with rfl | rfl | rfl <;> (simp only [siteLaneOffset]; omega)

theorem siteImageGood_length {i : List Byte} (h : siteImageGood i = true) : i.length = 346 := by
  simp only [siteImageGood, checkValueMatches, Bool.and_eq_true, decide_eq_true_eq] at h
  obtain ⟨⟨hlength, -⟩, -⟩ := h
  exact hlength

/-- An image that passes R168 is clamped in its 346 bytes (R169). -/
theorem clampSite_length {i : List Byte} (h : siteImageGood i = true) : (clampSite i).length = 346 := by
  have hstructure : siteStructureGood i = true := by
    simp only [siteImageGood, Bool.and_eq_true] at h
    exact h.2
  exact clampImage_length (siteRangedFields_within hstructure) (by decide) (siteImageGood_length h)

section
variable {t : List Byte} {c : Nat}

theorem clearMaskExcess_length (h : t.length = 142) (hc : c < 8) : (clearMaskExcess t c).length = 142 :=
  (writeSegment_length _ _ _ (by simp only [tariffClassOffset, u8Bytes_length]; omega)).trans h

theorem clampClass_length (h : t.length = 142) (hc : c < 8) : (clampClass t c).length = 142 := by
  refine clampFields_length (fun f hf => ?_) (clearMaskExcess_length h hc)
  simp only [List.mem_cons, List.not_mem_nil, or_false] at hf
  rcases hf with rfl | rfl | rfl <;> (simp only [tariffClassOffset]; omega)

theorem foldl_clampClass_length (classes : List Nat) (h : t.length = 142) (hc : ∀ c ∈ classes, c < 8) :
    (classes.foldl clampClass t).length = 142 :=
  List.foldlRecOn classes clampClass (motive := fun i : List Byte => i.length = 142) h fun _ hi c hmem =>
    clampClass_length hi (hc c hmem)

/-- A tariff image is clamped in its 142 bytes (R85). -/
theorem clampTariff_length (h : t.length = 142) : (clampTariff t).length = 142 := by
  unfold clampTariff
  dsimp only
  split
  · exact h
  · exact withCheckValue_length _ _ (by decide) (foldl_clampClass_length _ h fun c hc => List.mem_range.mp hc)

/-! ## The figures of a clamped tariff (R85) -/

/-- What the clamping of one class makes of every byte: allowance, mask, grace and unit in their ranges, the rest as it stood. -/
theorem byteAt_clampClass (h : t.length = 142) (hc : c < 8) (i : Nat) :
    byteAt (clampClass t c) i =
      if i = tariffClassOffset c + 3 then clamp 1 60 (byteAt t i)
      else if i = tariffClassOffset c + 2 then clamp 0 30 (byteAt t i)
      else if i = tariffClassOffset c then clamp 0 3 (byteAt t i)
      else if i = tariffClassOffset c + 1 then byteAt t i % 32
      else byteAt t i := by
  have hoff : tariffClassOffset c + 5 ≤ 142 := by simp only [tariffClassOffset]; omega
  have hmask := clearMaskExcess_length h hc
  have hallowance := (clampField_length (f := ⟨tariffClassOffset c, false, 0, 3⟩) (by rw [hmask]; dsimp only; omega)).trans hmask
  have hgrace :=
    (clampField_length (f := ⟨tariffClassOffset c + 2, false, 0, 30⟩) (by rw [hallowance]; dsimp only; omega)).trans hallowance
  have hmasked : byteAt (clearMaskExcess t c) i = if i = tariffClassOffset c + 1 then byteAt t i % 32 else byteAt t i := by
    rw [clearMaskExcess, byteAt_writeSegment_u8Bytes _ _ _ (by rw [h]; omega)]
    split
    · next hi => rw [hi, tariffMask]; omega
    · rfl
  simp only [clampClass, clampFields, List.foldl_cons, List.foldl_nil]
  rw [byteAt_clampField (by rw [hgrace]; omega) (by decide) (by decide),
    byteAt_clampField (by rw [hallowance]; omega) (by decide) (by decide),
    byteAt_clampField (by rw [hmask]; omega) (by decide) (by decide), hmasked]
  grind

/-- R85 (a) to (d) of one class: its figures lie in their ranges. -/
def ClassInRange (t : List Byte) (c : Nat) : Prop :=
  tariffAllowance t c ≤ 3 ∧ tariffMask t c < 32 ∧ tariffGrace t c ≤ 30 ∧ 1 ≤ tariffUnit t c ∧ tariffUnit t c ≤ 60

/-- The figures of a class are the first four bytes of its record. -/
theorem ClassInRange.congr {u : List Byte} (hr : ClassInRange t c)
    (h : ∀ k < 4, byteAt u (tariffClassOffset c + k) = byteAt t (tariffClassOffset c + k)) : ClassInRange u c := by
  have hallowance : tariffAllowance u c = tariffAllowance t c := h 0 (by decide)
  have hmask : tariffMask u c = tariffMask t c := h 1 (by decide)
  have hgrace : tariffGrace u c = tariffGrace t c := h 2 (by decide)
  have hunit : tariffUnit u c = tariffUnit t c := h 3 (by decide)
  rwa [ClassInRange, hallowance, hmask, hgrace, hunit]

theorem clampClass_inRange (h : t.length = 142) (hc : c < 8) : ClassInRange (clampClass t c) c := by
  obtain ⟨-, hallowance⟩ := clamp_bounds (show 0 ≤ 3 by decide) (byteAt t (tariffClassOffset c))
  obtain ⟨-, hgrace⟩ := clamp_bounds (show 0 ≤ 30 by decide) (byteAt t (tariffClassOffset c + 2))
  obtain ⟨hleast, hmost⟩ := clamp_bounds (show 1 ≤ 60 by decide) (byteAt t (tariffClassOffset c + 3))
  have hmask : byteAt t (tariffClassOffset c + 1) % 32 < 32 := Nat.mod_lt _ (by decide)
  simp [ClassInRange, tariffAllowance, tariffMask, tariffGrace, tariffUnit, byteAt_clampClass h hc, *]

/-- The clamping of another class leaves this one's figures. -/
theorem ClassInRange.clampOther {d : Nat} (hr : ClassInRange t c) (h : t.length = 142) (hd : d < 8) (hne : d ≠ c) :
    ClassInRange (clampClass t d) c := by
  refine hr.congr fun k hk => ?_
  have hapart : ∀ j < 4, tariffClassOffset c + k ≠ tariffClassOffset d + j := fun j hj => by
    simp only [tariffClassOffset]; omega
  have hfirst : tariffClassOffset c + k ≠ tariffClassOffset d := hapart 0 (by decide)
  rw [byteAt_clampClass h hd, if_neg (hapart 3 (by decide)), if_neg (hapart 2 (by decide)), if_neg hfirst,
    if_neg (hapart 1 (by decide))]

theorem foldl_clampClass_inRange (classes : List Nat) (h : t.length = 142) (hc : ∀ d ∈ classes, d < 8)
    (hin : c ∈ classes ∨ ClassInRange t c) : ClassInRange (classes.foldl clampClass t) c := by
  induction classes generalizing t with
  | nil => exact hin.resolve_left List.not_mem_nil
  | cons d ds ih =>
    have hd := hc d List.mem_cons_self
    refine ih (clampClass_length h hd) (fun e he => hc e (List.mem_cons_of_mem d he)) ?_
    by_cases hdc : d = c
    · exact .inr (hdc ▸ clampClass_inRange h hd)
    · exact hin.imp (fun hmem => (List.mem_cons.mp hmem).resolve_left (Ne.symm hdc)) fun hr => hr.clampOther h hd hdc

/-- Every figure of a clamped tariff lies in its range (R85 (a) to (d)). -/
theorem clampTariff_inRange (h : t.length = 142) (hc : c < 8) : ClassInRange (clampTariff t) c := by
  have hclasses : ∀ d ∈ List.range 8, d < 8 := fun d hd => List.mem_range.mp hd
  have hclamped := foldl_clampClass_inRange (List.range 8) h hclasses (.inl (List.mem_range.mpr hc))
  unfold clampTariff
  dsimp only
  split
  · next hsame => rwa [hsame] at hclamped
  · refine hclamped.congr fun k hk => byteAt_withCheckValue _ (foldl_clampClass_length _ h hclasses) ?_
    simp only [tariffClassOffset, Config.tariffBytes]
    omega

end

/-! ## TARIFF LOAD and TARIFF COMMIT (R83 to R85) -/

theorem exec_tariffLoad {tag : Byte} {body : List Byte} {s : State} (h : Taken .tariffLoad tag body s) :
    exec (.tariffLoad tag body) s = .next (settleOwned tag (tariffLoad body (popOrder s))) :=
  congrArg Host.Outcome.next (runOrder_taken _ _ _ _ _ h)

theorem exec_tariffCommit {tag : Byte} {body : List Byte} {s : State} (h : Taken .tariffCommit tag body s) :
    exec (.tariffCommit tag body) s = .next (settleOwned tag (tariffCommit (popOrder s))) :=
  congrArg Host.Outcome.next (runOrder_taken _ _ _ _ _ h)

/-- A segment within the image is written, and the bank is Loading (R83). -/
theorem tariffLoad_within {body : List Byte} (s : State) (hoffset : byteAt body 0 ≤ 141) (hsegment : body.drop 1 ≠ [])
    (hend : byteAt body 0 + (body.drop 1).length ≤ 142) :
    tariffLoad body s = done (.loadState .loading)
      { s with tfs := { s.tfs with standby := writeSegment s.tfs.standby (byteAt body 0) (body.drop 1), load := .loading } } := by
  have hin : ¬(141 < byteAt body 0 ∨ body.drop 1 = [] ∨ 142 < byteAt body 0 + (body.drop 1).length) := by
    simp only [not_or, not_lt]; exact ⟨hoffset, hsegment, hend⟩
  simp only [tariffLoad, Bool.or_eq_true, decide_eq_true_eq, or_assoc]
  rw [if_neg hin]

theorem tariffLoad_outside {body : List Byte} (s : State)
    (h : 141 < byteAt body 0 ∨ body.drop 1 = [] ∨ 142 < byteAt body 0 + (body.drop 1).length) :
    tariffLoad body s = refused .range s := by
  simp only [tariffLoad, Bool.or_eq_true, decide_eq_true_eq, or_assoc]
  rw [if_pos h]

/-- A bank that passes R84 is Complete in its clamped image (R85). -/
theorem tariffCommit_good {s : State} (hload : s.tfs.load ≠ .empty) (hgood : tariffImageGood s.tfs.standby = true) :
    tariffCommit s = ({ s with tfs := { s.tfs with standby := clampTariff s.tfs.standby, load := .complete } },
      some { code := .done, clamped := decide (clampTariff s.tfs.standby ≠ s.tfs.standby),
             body := .generation (tariffGeneration (clampTariff s.tfs.standby)) }) := by
  simp [tariffCommit, hload, hgood]

theorem tariffCommit_bad {s : State} (h : s.tfs.load = .empty ∨ tariffImageGood s.tfs.standby = false) :
    tariffCommit s = refused .invalid s := by
  rcases h with h | h <;> simp [tariffCommit, h]

/-- Settles O34: the two orders by the owner's checks, the figures byte by byte. -/
theorem tariffLoadedAndCommitted : Obligations.TariffLoadedAndCommitted := by
  refine ⟨⟨fun tag body s h => ⟨fun hoffset hsegment hend => ?_, fun hout => ?_⟩,
    fun tag body s h => ⟨fun hload hgood => ?_, fun hbad => ?_⟩⟩, fun t c ht hc => clampTariff_inRange ht hc⟩
  · rw [exec_tariffLoad h, tariffLoad_within _ hoffset hsegment hend, settleOwned_done]
    rfl
  · rw [exec_tariffLoad h, tariffLoad_outside _ hout, settleOwned_refused]
  · rw [exec_tariffCommit h, tariffCommit_good (s := popOrder s) hload hgood, settleOwned_some]
    simp only [Reply.answer, popOrder_keeps]
  · rw [exec_tariffCommit h, tariffCommit_bad (s := popOrder s) hbad, settleOwned_refused]

end Sys2Proof.Machine

/-! The minute's boundary and the tariff store (R86, R126), and the reads of the tariff, a charge, the clock and the part. -/
namespace Sys2Proof.Machine

/-! ## The swap at the boundary (R86) -/

/-- A Complete bank put in force, its copy given to the store and the notice raised. -/
theorem swapTariff_complete (minute : Nat) {s : State} (h : s.tfs.load = .complete) :
    (swapTariff minute s).tfs = { live := some s.tfs.standby, standby := List.replicate 142 0, load := .empty
                                  store := { bytes := s.tfs.standby, writing := true } }
      ∧ (swapTariff minute s).cnu.bits.getLsbD 5 = true := by
  simp [swapTariff, h, Config.tariffBytes, NoticeContent.cls, NoticeClass.code]

theorem swapTariff_standing (minute : Nat) {s : State} (h : s.tfs.load ≠ .complete) : swapTariff minute s = s := by
  rw [swapTariff, if_neg h]

section
variable {s : State}

/-- Seconds short of the minute's boundary leave the tariff store. -/
theorem runClock_within_minute_tfs (n : Nat) (hs : ClockInRange s) (h : s.sck.counter % 60 + n ≤ 59) :
    (runClock n s).tfs = s.tfs := by
  induction n generalizing s with
  | zero => rfl
  | succ n ih =>
    have hsecond := secondPasses_within_minute hs (by omega)
    have hcounter : (secondPasses s).sck.counter = s.sck.counter + 1 := by rw [hsecond, setCounter_sck]
    have htfs : (secondPasses s).tfs = s.tfs := by rw [hsecond, setCounter_tfs, (takeDue_keeps s).2.1]
    unfold ClockInRange at hs
    rw [runClock, ih (by unfold ClockInRange; omega) (by omega), htfs]

/-- The last second of a minute hands its boundary to the receivers, the tariff store as it stood (R126 (a)). -/
theorem secondPasses_raises_boundary (hs : ClockInRange s) (h : s.sck.counter % 60 = 59) :
    ∃ minute u, secondPasses s = raiseBoundary minute u ∧ u.tfs = s.tfs := by
  by_cases hday : s.sck.counter = 86399
  · exact ⟨_, _, secondPasses_rollover hday, by simp⟩
  · exact ⟨_, _, secondPasses_at_minute hs h hday, by simp⟩

/-- MINUTE_BOUNDARY ends in a boundary raised, the tariff store as it stood (R126, log entry 2). -/
theorem exec_minuteBoundary_raises (hs : ClockInRange s) :
    ∃ minute u, exec .minuteBoundary s = .next (raiseBoundary minute u) ∧ u.tfs = s.tfs := by
  obtain ⟨n, hn⟩ : ∃ n, 60 - s.sck.counter % 60 = n + 1 := ⟨59 - s.sck.counter % 60, by omega⟩
  unfold ClockInRange at hs
  have hsck := runClock_sck n (s := s) (by omega)
  obtain ⟨minute, u, hraised, htfs⟩ := secondPasses_raises_boundary (s := runClock n s)
    (by unfold ClockInRange; rw [hsck]; dsimp only; omega) (by rw [hsck]; dsimp only; omega)
  refine ⟨minute, u, ?_, htfs.trans (runClock_within_minute_tfs n hs (by omega))⟩
  rw [exec_minuteBoundary, hn, runClock_succ, hraised]

end

/-- Settles O35: the swap by the load state, MINUTE_BOUNDARY by the one boundary at its end. -/
theorem tariffSwapsAndStoreWritesEnd : Obligations.TariffSwapsAndStoreWritesEnd := by
  refine ⟨fun minute s => ⟨fun hload => ?_, swapTariff_standing minute⟩, fun s hs => ?_, fun s => ⟨rfl, rfl⟩⟩
  · obtain ⟨htfs, hbit⟩ := swapTariff_complete minute hload
    simp only [htfs, hbit, true_and]
    simp [keepsAllBut_iff]
  · obtain ⟨minute, u, hexec, hu⟩ := exec_minuteBoundary_raises hs
    refine ⟨_, hexec, fun hload => ?_, fun hload => ?_⟩
    · rw [← hu] at hload ⊢
      obtain ⟨-, -, hbit⟩ := raiseBoundary_switches minute u hload
      rw [raiseBoundary_tfs_switched minute hload]
      exact ⟨rfl, rfl, rfl, rfl, rfl, hbit⟩
    · rw [raiseBoundary_tfs_kept minute u (hu ▸ hload), hu]

/-! ## The reads (R89, R103, R129, R164) -/

/-- Settles O36: each read is Done with its record, or refused, and its owner hands back the state it was given. -/
theorem tariffAndClockReadsReport : Obligations.TariffAndClockReadsReport := by
  refine ⟨⟨fun tag body s h => ⟨fun hlive => ?_, fun hstandby => ?_, fun hneither => ?_⟩,
    fun tag body s r live h hvalid hr hlive => ?_⟩, fun tag body s h => ?_, fun tag body s h => ?_⟩
  · simp [exec, execReadTariff, runOrder_taken _ _ _ _ _ h, readTariff, hlive]
  · simp [exec, execReadTariff, runOrder_taken _ _ _ _ _ h, readTariff, hstandby]
  · have hrefused : ∀ u, readTariff body u = refused .range u := fun u => by
      unfold readTariff
      split
      · omega
      · omega
      · rfl
    simp [exec, execReadTariff, runOrder_taken _ _ _ _ _ h, hrefused]
  · have hbank : s.liveBank = live := by simp [State.liveBank, hlive]
    simp [exec, execQuotePreview, runOrder_taken _ _ _ _ _ h, quotePreview, hvalid, hr, hbank, minuteOf, State.now]
  · simp [exec, execReadClock, runOrder_taken _ _ _ _ _ h, readClock, minuteOf, State.now]
  · have hconfigured : (popOrder s).configured = s.configured := rfl
    simp [exec, execIdentify, runOrder_taken _ _ _ _ _ h, identify, hconfigured]

end Sys2Proof.Machine

/-! The lengths of the images through every operation (R83, R85, R167, R169): only the loads, the commits, a swap and the cold
reset write them. -/
namespace Sys2Proof.Machine

theorem ImagesGood.congr {s t : State} (h : ImagesGood s) (htfs : t.tfs = s.tfs) (hsts : t.sts = s.sts) : ImagesGood t := by
  rwa [ImagesGood, htfs, hsts]

section
variable {s : State}

/-! ## The clock -/

/-- The bank emptied by a swap is of 142 bytes. -/
theorem raiseBoundary_images (h : ImagesGood s) (minute : Nat) : ImagesGood (raiseBoundary minute s) := by
  by_cases hload : s.tfs.load = .complete
  · refine ⟨?_, by simpa [raiseBoundary] using h.2⟩
    rw [raiseBoundary_tfs_switched minute hload]
    exact List.length_replicate
  · exact h.congr (raiseBoundary_tfs_kept minute s hload) (raiseBoundary_keeps minute s).2.2.2.2.2

theorem advanceSecond_images (h : ImagesGood s) : ImagesGood (advanceSecond s) := by
  unfold advanceSecond
  (repeat' split)
  · exact raiseBoundary_images (h.congr (by simp) (by simp)) 0
  · exact raiseBoundary_images (s := setCounter (s.now + 1) s) h _
  · exact h

theorem takeDue_images (h : ImagesGood s) : ImagesGood (takeDue s) := h.congr (by simp) (by simp)

theorem secondPasses_images (h : ImagesGood s) : ImagesGood (secondPasses s) := advanceSecond_images (takeDue_images h)

theorem runClock_images (h : ImagesGood s) (n : Nat) : ImagesGood (runClock n s) := by
  induction n generalizing s with
  | zero => exact h
  | succ n ih => exact ih (secondPasses_images h)

theorem runToTimer_images (h : ImagesGood s) (timer : Option Nat) (act : State → State)
    (hact : ∀ t, (act t).tfs = t.tfs ∧ (act t).sts = t.sts) : ImagesGood (runToTimer timer act s) := by
  cases timer with
  | none => exact h
  | some x => exact (runClock_images h _).congr (hact _).1 (hact _).2

theorem setClock_images (h : ImagesGood s) (second : Nat) : ImagesGood (setClock second s).1 := by
  have hset : ImagesGood (clockSetTo second s) := by
    rw [clockSetTo_eq]
    split
    · exact h
    · exact raiseBoundary_images (s := clockCarried second s) h _
  unfold setClock
  (repeat' split)
  · exact h
  · exact h
  · exact hset

theorem adjustForward_images (h : ImagesGood s) (n : Nat) : ImagesGood (adjustForward n s) := by
  induction n generalizing s with
  | zero => exact h
  | succ n ih => exact ih (takeDue_images (advanceSecond_images h))

theorem boundariesOf_images (h : ImagesGood s) (minutes : List Nat) : ImagesGood (boundariesOf minutes s) :=
  List.foldlRecOn minutes _ (motive := ImagesGood) h fun t ht m _ => raiseBoundary_images (s := setCounter (m * 60) t) ht m

theorem adjustClock_images (h : ImagesGood s) (k : Int) : ImagesGood (adjustClock k s).1 := by
  have hto : ∀ second, ImagesGood (adjustTo second s) := fun second => by
    unfold adjustTo
    (repeat' split)
    · exact adjustForward_images (takeDue_images h) _
    · exact boundariesOf_images h _
    · exact h
  unfold adjustClock
  dsimp only
  (repeat' split)
  · exact h
  · exact h
  · exact hto _

/-! ## The loads, the commits and the cold reset -/

/-- A segment is written within the standby bank (R83). -/
theorem tariffLoad_images (h : ImagesGood s) (body : List Byte) : ImagesGood (tariffLoad body s).1 := by
  obtain ⟨hstandby, hstaging⟩ := h
  unfold tariffLoad
  dsimp only
  split
  · exact ⟨hstandby, hstaging⟩
  · next hin =>
    simp only [Bool.or_eq_true, decide_eq_true_eq, not_or, not_lt] at hin
    exact ⟨(writeSegment_length _ _ _ (by rw [hstandby]; exact hin.2)).trans hstandby, hstaging⟩

theorem tariffCommit_images (h : ImagesGood s) : ImagesGood (tariffCommit s).1 := by
  obtain ⟨hstandby, hstaging⟩ := h
  have hclamped := clampTariff_length hstandby
  by_cases hpass : s.tfs.load ≠ .empty ∧ tariffImageGood s.tfs.standby = true
  · obtain ⟨hload, hgood⟩ := hpass
    rw [tariffCommit_good hload hgood, ImagesGood]
    dsimp only
    exact ⟨hclamped, hstaging⟩
  · rw [tariffCommit_bad (by simpa [or_iff_not_imp_left] using hpass)]
    exact ⟨hstandby, hstaging⟩

/-- A segment is written within the staging area (R167). -/
theorem siteLoad_images (h : ImagesGood s) (body : List Byte) : ImagesGood (siteLoad body s).1 := by
  obtain ⟨hstandby, hstaging⟩ := h
  unfold siteLoad
  dsimp only
  (repeat' split)
  · exact ⟨hstandby, hstaging⟩
  · exact ⟨hstandby, hstaging⟩
  · next hin =>
    simp only [Bool.or_eq_true, decide_eq_true_eq, not_or, not_lt] at hin
    exact ⟨hstandby, (writeSegment_length _ _ _ (by rw [hstaging]; exact hin.2)).trans hstaging⟩

theorem siteCommit_images (h : ImagesGood s) : ImagesGood (siteCommit s).1 := by
  obtain ⟨hstandby, hstaging⟩ := h
  unfold siteCommit
  (repeat' split)
  · exact ⟨hstandby, hstaging⟩
  · exact ⟨hstandby, hstaging⟩
  · next hgood =>
    simp only [Bool.not_eq_true', Bool.not_eq_false] at hgood
    exact ⟨hstandby, clampSite_length hgood⟩

/-- A cold reset empties the standby bank, and stages the stored image as clamped or an empty one (R171). -/
theorem coldReset_images (straps : BitVec 2) (s : State) : ImagesGood (coldReset straps s) := by
  have hstandby : (coldTariff s.tfs.store).standby.length = 142 := by
    unfold coldTariff; split <;> exact List.length_replicate
  unfold coldReset
  dsimp only
  split
  · next hgood => exact ⟨hstandby, clampSite_length hgood⟩
  · exact ⟨hstandby, List.length_replicate⟩

end

/-! ## The step -/

theorem runOrder_images (k : OrderKind) (tag : Byte) (body : List Byte) (owner : State → Owned) {s : State}
    (ho : ∀ u, ImagesGood u → ImagesGood (owner u).1) (h : ImagesGood s) : ImagesGood (runOrder k tag body owner s) :=
  runOrder_owner ImagesGood k tag body owner s (fun _ _ hu => hu) ho h

theorem exec_images (c : Instr) (s t : State) (h : ImagesGood s) (ht : exec c s = .next t) : ImagesGood t := by
  have horder := fun (k : OrderKind) (tag : Byte) (body : List Byte) (owner : State → Owned)
    (ho : ∀ u, (owner u).1.tfs = u.tfs ∧ (owner u).1.sts = u.sts) =>
      runOrder_images k tag body owner (fun u hu => hu.congr (ho u).1 (ho u).2) h
  cases c
  all_goals
    injection ht with ht
    subst ht
  case coldReset straps => exact coldReset_images straps s
  case tariffLoad => exact runOrder_images _ _ _ _ (fun u hu => tariffLoad_images hu _) h
  case tariffCommit => exact runOrder_images _ _ _ _ (fun u hu => tariffCommit_images hu) h
  case siteLoad => exact runOrder_images _ _ _ _ (fun u hu => siteLoad_images hu _) h
  case siteCommit => exact runOrder_images _ _ _ _ (fun u hu => siteCommit_images hu) h
  case setClock => exact runOrder_images _ _ _ _ (fun u hu => setClock_images hu _) h
  case adjustClock => exact runOrder_images _ _ _ _ (fun u hu => adjustClock_images hu _) h
  case minuteBoundary | midnightRollover => exact runClock_images h _
  case openingExpiry | offerExpiry | entryExpiry | cleaningExpiry | abandonment | quoteExpiry | passExpiry | watchExpiry
      | desiredEntryExpiry => exact runToTimer_images h _ _ fun t => by simp
  case storeWriteEnd copy => cases copy <;> exact h
  case unknownOrder =>
    split
    · exact h
    · unfold dispatchOrder; (repeat' split) <;> exact h
  case lockerServiceOut | lockerServiceIn | cabinServiceOut | cabinServiceIn =>
    split
    · exact h
    · exact horder _ _ _ _ fun u => by simp
  case poll | pollAnswer | missedAnswer | warmReset | lineBreak | frameReceived | frameLengthOutOfRange | byteWithoutStopBit
      | interByteGap | transmissionEnd | noticeHoldAsserted | noticeHoldNegated | startByteReceived | lineReturnToMark =>
    refine h.congr ?_ ?_ <;> (repeat' split) <;> simp
  all_goals exact horder _ _ _ _ fun u => by simp

/-- Settles O9: a step's images are those before it, a segment or a clamped image in their place, or an empty image. -/
theorem stepKeepsImageLengths : Obligations.StepKeepsImageLengths := by
  intro s t h ht
  unfold step at ht
  split at ht
  · injection ht with ht
    subst ht
    exact secondPasses_images h
  · next c rest _ => exact exec_images c { s with pending := rest } t h ht

end Sys2Proof.Machine

/-! The settlement computation stage by stage (R93 to R100): the time bands, the units, the rounding and the cap. -/
namespace Sys2Proof.Machine

/-! ## Units and their rates (R95 to R98) -/

/-- A band whose start is at or before the minute, every later band starting after it, is the one in force (R97). -/
theorem timeBandAt_eq_of_last {t : List Byte} {m n j : Nat} (hj : j < n) (hstart : tariffStart t j ≤ m)
    (hlater : ∀ k, j < k → k < n → m < tariffStart t k) : timeBandAt t m n = j := by
  induction n with
  | zero => omega
  | succ n ih =>
    rcases Nat.lt_succ_iff_lt_or_eq.mp hj with hlt | rfl
    · have hafter : ¬ tariffStart t n ≤ m := Nat.not_le.mpr (hlater n hlt n.lt_succ_self)
      rw [timeBandAt, if_neg hafter]
      exact ih hlt fun k hk hkn => hlater k hk (Nat.lt_succ_of_lt hkn)
    · rw [timeBandAt, if_pos hstart]

theorem timeSum_eq_sum_unitRate (t : List Byte) (cls entry paid grace unit n : Nat) :
    timeSum t cls entry paid grace unit n
      = ((List.range n).map fun u => unitRate t cls (unitStart entry paid grace unit u)).sum := by
  induction n with
  | zero => rfl
  | succ n ih => simp [timeSum, ih, List.range_succ]

/-- The unit count is the quotient rounded up: its units cover the overstay, and one fewer would not (R95). -/
theorem unitCount_covers_least {unit : Nat} (h : 1 ≤ unit) (overstay : Nat) :
    overstay ≤ unitCount overstay unit * unit ∧ unitCount overstay unit * unit < overstay + unit := by
  have hbelow : unitCount overstay unit * unit ≤ overstay + unit - 1 := Nat.div_mul_le_self _ _
  have habove : overstay + unit - 1 < unitCount overstay unit * unit + unit := Nat.lt_div_mul_add h
  omega

/-- No overstay, no unit (R95). -/
theorem unitCount_zero {unit : Nat} (h : 1 ≤ unit) : unitCount 0 unit = 0 := Nat.div_eq_of_lt (by omega)

theorem overstayMinutes_eq_zero_iff {stay paid grace : Nat} : overstayMinutes stay paid grace = 0 ↔ stay ≤ paid + grace := by
  unfold overstayMinutes; omega

theorem overstayMinutes_add {stay paid grace : Nat} (h : paid + grace ≤ stay) :
    overstayMinutes stay paid grace + (paid + grace) = stay := by
  unfold overstayMinutes; omega

/-! ## The rounding and the cap (R99, R100) -/

/-- Adding the eights bit to the sixteenths is adding half a cent before the remainder is discarded (R99). -/
theorem roundCents_eq_div (total : Nat) : roundCents total = (total + 8) / 16 := by
  unfold roundCents; omega

theorem roundCents_eq_shift_add_bit (total : Nat) : roundCents total = (total >>> 4) + (total.testBit 3).toNat := by
  rw [Nat.shiftRight_eq_div_pow, Nat.toNat_testBit]; rfl

theorem capCharge_eq_min (rounded cap : Nat) : capCharge rounded cap = min rounded cap := rfl

/-- Settles O38: every clause on the figures is one of the sum with half a cent, divided. -/
theorem totalsRoundedHalfUp : Obligations.TotalsRoundedHalfUp := by
  refine ⟨roundCents_eq_shift_add_bit, fun F => ?_, fun F _ h7 => ?_, fun F hF => ?_, fun t wrapped minute r => ⟨rfl, rfl⟩,
    by decide⟩
  · rw [roundCents_eq_div]
    omega
  · rw [roundCents_eq_div]
    omega
  · rw [roundCents_eq_div]
    omega

/-! ## The whole computation -/

section
variable (t : List Byte) (wrapped : Bool) (minute : Nat) (r : BandRecord)

/-- The time sum at the rates of the last band begun by each unit's start (R96 to R98). -/
theorem settlementWorking_timeSum {start rate : Nat → Nat}
    (hstart : ∀ u, start u = r.entryMinute + r.paidMinutes + tariffGrace t r.cls + u * tariffUnit t r.cls)
    (hrate : ∀ u, u < (settlementWorking t wrapped minute r).units →
      ∃ j, j < tariffBandCount t ∧ tariffStart t j ≤ start u
        ∧ (∀ k, j < k → k < tariffBandCount t → start u < tariffStart t k) ∧ rate u = tariffRate t j r.cls) :
    (settlementWorking t wrapped minute r).timeSum
      = ((List.range (settlementWorking t wrapped minute r).units).map rate).sum := by
  refine (timeSum_eq_sum_unitRate ..).trans (congrArg List.sum (List.map_congr_left fun u hu => ?_))
  obtain ⟨j, hj, hbegun, hlater, hrated⟩ := hrate u (List.mem_range.mp hu)
  have hband : timeBandAt t (start u) (tariffBandCount t) = j := timeBandAt_eq_of_last hj hbegun hlater
  rw [unitStart, ← hstart, unitRate, hband, hrated]

/-- A stay within the paid time and the grace has no unit and no time sum (R95, R98). -/
theorem settlementWorking_within_free_time
    (hstay : (settlementWorking t wrapped minute r).stay ≤ r.paidMinutes + tariffGrace t r.cls) (hunit : 1 ≤ tariffUnit t r.cls) :
    (settlementWorking t wrapped minute r).units = 0 ∧ (settlementWorking t wrapped minute r).timeSum = 0 := by
  have hlate : (settlementWorking t wrapped minute r).overstay = 0 := overstayMinutes_eq_zero_iff.mpr hstay
  have hunits : (settlementWorking t wrapped minute r).units = 0 :=
    (congrArg (unitCount · (tariffUnit t r.cls)) hlate).trans (unitCount_zero hunit)
  exact ⟨hunits, congrArg
    (timeSum t r.cls r.entryMinute r.paidMinutes (tariffGrace t r.cls) (tariffUnit t r.cls)) hunits⟩

end

/-- Settles O37: each stage of the working is the model's own function of the stages before it. -/
theorem settlementChargesByTheRules : Obligations.SettlementChargesByTheRules := by
  intro t wrapped minute r
  refine ⟨rfl, fun _ => rfl, fun hbefore => Nat.sub_eq_zero_of_le hbefore.le, fun free hfree => ?_,
    fun start rate => settlementWorking_timeSum t wrapped minute r, settlementWorking_within_free_time t wrapped minute r,
    fun o u ho hu hunit => ?_, rfl, roundCents_eq_div _, capCharge_eq_min _ _⟩
  · subst hfree
    exact ⟨fun hlate => overstayMinutes_add hlate.le, overstayMinutes_eq_zero_iff.mpr⟩
  · subst ho hu
    exact unitCount_covers_least hunit _

end Sys2Proof.Machine

/-! CANCEL QUOTE and READ LANE (R115, R121): a quote given up at a lane that holds one, and a lane reported. -/
namespace Sys2Proof.Machine

/-! ## A quote cancelled (R115) -/

/-- A lane whose quote is given up: Idle, or remembering that, with the last expiry it had. -/
def Lane.quoteGivenUp (e : Lane) : Lane := { e with band := none, quoteAmount := none, quoteExpiry := none }.act .idle

theorem giveBackQuote_find_self {l : Nat} {e : Lane} {s : State} (he : s.xlu.find l = some e) :
    (giveBackQuote l e e.lastExpiry s).xlu.find l = some e.quoteGivenUp := by
  rw [giveBackQuote_xlu, LaneUnit.find_put_self _ _ _ _ he, Lane.quoteGivenUp]

theorem giveBackQuote_keepsAllBut (l : Nat) (e : Lane) (last : Option (BandNo × Nat)) (s : State) :
    KeepsAllBut [.bdr, .xlu, .flm, .lkc] s (giveBackQuote l e last s) := by
  simp [keepsAllBut_iff]

theorem cancelQuote_done {l : Nat} {e : Lane} {b : BandNo} {q : Nat} {s : State} (he : s.xlu.find l = some e)
    (ha : e.acting = .holding) (hb : e.band = some b) (hq : e.quoteAmount = some q) :
    cancelQuote l s = done (.quoteCancelled b q) (giveBackQuote l e e.lastExpiry s) := by
  simp [cancelQuote, he, ha, hb, hq]

theorem cancelQuote_noSuch {l : Nat} {e : Lane} {s : State} (he : s.xlu.find l = some e) (ha : e.acting ≠ .holding) :
    cancelQuote l s = refused .noSuch s := by
  simp [cancelQuote, he, ha]

/-! ## A lane reported (R121) -/

theorem readLane_done {l : Nat} {e : Lane} {s : State} (he : s.xlu.find l = some e) :
    readLane l s = done (.lane l e (s.flm.health (l + 85))) s := by
  simp [readLane, he, laneAddr_eq]

/-! ## The two orders -/

/-- Settles O41. -/
theorem quoteCancelledOrRead : Obligations.QuoteCancelledOrRead := by
  refine ⟨?cancelled, ?nothingToCancel, ?reported⟩
  case cancelled =>
    intro tag body s e b r q h he ha hb hq hr
    have hbdr : (giveBackQuote (byteAt body 0) e e.lastExpiry (popOrder s)).bdr
        = s.bdr.update b (fun r => { r with state := .inside, quote := none }) := by
      rw [giveBackQuote_bdr, hb, unquote, updateBand_bdr]; rfl
    refine ⟨_, next_runOrder_done h (cancelQuote_done he ha hb hq), giveBackQuote_find_self he, ?_, fun x hx => ?_,
      answered_placeAnswer _ _, (giveBackQuote_keepsAllBut _ e e.lastExpiry (popOrder s)).ofOrder (by simp) _⟩
    · simp [hbdr, hr]
    · simp [hbdr, hx]
  case nothingToCancel =>
    intro tag body s e h he ha
    exact next_runOrder_refused h (cancelQuote_noSuch he ha)
  case reported =>
    intro tag body s e h he
    exact next_runOrder_done h (readLane_done he)

end Sys2Proof.Machine

/-! The occupancy limits of a committed site table (R169): the clamping of the image brings each to 120 or below. -/
namespace Sys2Proof.Machine

/-! ## A byte clamped among other fields -/

/-- A segment leaves every byte outside it (R83, R167). -/
theorem byteAt_writeSegment_outside {l segment : List Byte} {offset i : Nat} (h : offset + segment.length ≤ l.length)
    (hi : i < offset ∨ offset + segment.length ≤ i) : byteAt (writeSegment l offset segment) i = byteAt l i := by
  have htake : (l.take offset).length = offset := by rw [List.length_take]; omega
  simp only [byteAt, writeSegment, List.getD_eq_getElem?_getD, List.append_assoc]
  rcases hi with hbefore | hafter
  · rw [List.getElem?_append_left (by omega), List.getElem?_take_of_lt hbefore]
  · rw [List.getElem?_append_right (by omega), List.getElem?_append_right (by omega), List.getElem?_drop, htake]
    congr 3
    omega

/-- A field clamped leaves every byte before it, and every byte from its second neighbour on. -/
theorem byteAt_clampField_outside {f : RangedField} {image : List Byte} {i : Nat} (h : f.offset + 2 ≤ image.length)
    (hi : i < f.offset ∨ f.offset + 2 ≤ i) : byteAt (clampField image f) i = byteAt image i := by
  unfold clampField
  split <;> exact byteAt_writeSegment_outside (by simp only [u8Bytes_length, u16Bytes_length]; omega)
    (by simp only [u8Bytes_length, u16Bytes_length]; omega)

/-- A byte that one field of a list clamps, and that the others leave, is in that field's range. -/
theorem byteAt_clampFields_le {o lo hi : Nat} (hlo : lo ≤ hi) (hhi : hi < 256) {fields : List RangedField} {image : List Byte}
    (hwithin : ∀ f ∈ fields, f.offset + 2 ≤ image.length)
    (hapart : ∀ f ∈ fields, f = ⟨o, false, lo, hi⟩ ∨ o < f.offset ∨ f.offset + 2 ≤ o)
    (hin : ⟨o, false, lo, hi⟩ ∈ fields ∨ byteAt image o ≤ hi) : byteAt (clampFields fields image) o ≤ hi := by
  induction fields generalizing image with
  | nil => exact hin.resolve_left List.not_mem_nil
  | cons f fields ih =>
    have hf := hwithin f List.mem_cons_self
    refine ih (image := clampField image f) (fun k hk => ?_) (fun k hk => hapart k (List.mem_cons_of_mem f hk)) ?_
    · rw [clampField_length hf]
      exact hwithin k (List.mem_cons_of_mem f hk)
    · rcases hapart f List.mem_cons_self with rfl | houtside
      · right
        rw [byteAt_clampField (by dsimp only at hf; omega) hlo hhi, if_pos rfl]
        exact (clamp_bounds hlo _).2
      · have hne : f ≠ ⟨o, false, lo, hi⟩ := by rintro rfl; dsimp only at houtside; omega
        rw [byteAt_clampField_outside hf houtside]
        exact hin.imp_left fun hmem => (List.mem_cons.mp hmem).resolve_left hne.symm

/-! ## The occupancy limits of a site image (R168, R169) -/

/-- No other setting lies on the occupancy limit of a group, where the counts are those that R168 lets pass. -/
theorem siteRangedFields_limit {i : List Byte} (h : siteStructureGood i = true) {g : Nat} (hg : g < 4) :
    ∀ f ∈ siteRangedFields i, f = ⟨siteGroupOffset g + 4, false, 5, 120⟩ ∨ siteGroupOffset g + 4 < f.offset
      ∨ f.offset + 2 ≤ siteGroupOffset g + 4 := by
  simp only [siteStructureGood, Bool.and_eq_true, decide_eq_true_eq] at h
  obtain ⟨⟨⟨⟨⟨⟨⟨⟨⟨⟨-, -⟩, hbanks⟩, -⟩, hcabins⟩, -⟩, -⟩, -⟩, -⟩, -⟩, -⟩ := h
  intro f hf
  simp only [siteRangedFields, List.mem_append, List.mem_map, List.mem_flatMap, List.mem_range, List.mem_cons, List.not_mem_nil,
    or_false] at hf
  rcases hf with (((hhead | ⟨b, hb, rfl⟩) | ⟨c, hc, rfl⟩) | ⟨k, hk, hgroup⟩) | ⟨l, hl, hlane⟩
  · right; right
    rcases hhead with rfl | rfl <;> (simp only [siteGroupOffset]; omega)
  · right; right; simp only [siteBankOffset, siteGroupOffset]; omega
  · right; right; simp only [siteCabinOffset, siteGroupOffset]; omega
  · by_cases hlimit : f = ⟨siteGroupOffset k + 4, false, 5, 120⟩ ∧ k = g
    · obtain ⟨rfl, rfl⟩ := hlimit
      exact .inl rfl
    · right
      rcases hgroup with rfl | rfl | rfl | rfl | rfl <;> (simp only [siteGroupOffset, true_and] at hlimit ⊢; omega)
  · right; left
    rcases hlane with rfl | rfl | rfl <;> (simp only [siteLaneOffset, siteGroupOffset]; omega)

/-- The occupancy limit of each group of a clamped image is at most 120 (R169). -/
theorem clampSite_limit {i : List Byte} (h : siteImageGood i = true) {g : Nat} (hg : g < 4) :
    (siteGroup (clampSite i) g).occupancyLimit ≤ 120 := by
  have hlength := siteImageGood_length h
  have hstructure : siteStructureGood i = true := by
    simp only [siteImageGood, Bool.and_eq_true] at h
    exact h.2
  have hwithin := siteRangedFields_within hstructure
  have hfield : (⟨siteGroupOffset g + 4, false, 5, 120⟩ : RangedField) ∈ siteRangedFields i := by
    simp only [siteRangedFields, List.mem_append, List.mem_flatMap, List.mem_range]
    exact .inl (.inr ⟨g, hg, by simp⟩)
  have hclamped : byteAt (clampFields (siteRangedFields i) i) (siteGroupOffset g + 4) ≤ 120 :=
    byteAt_clampFields_le (by decide) (by decide) (hlength.symm ▸ hwithin) (siteRangedFields_limit hstructure hg) (.inl hfield)
  show byteAt (clampSite i) (siteGroupOffset g + 4) ≤ 120
  unfold clampSite clampImage
  dsimp only
  split
  · next hsame => rwa [hsame] at hclamped
  · rw [byteAt_withCheckValue (n := Config.siteBytes) _ (clampFields_length hwithin hlength)
      (by simp only [siteGroupOffset, Config.siteBytes]; omega)]
    exact hclamped

end Sys2Proof.Machine

/-! The occupancy counters and the current limits through every operation (R53, R67, R169): an acceptance loads a limit, a
boundary counts down to −1,440, SET CABIN LIMIT and a rebuild set the limits, and nothing else moves either. -/
namespace Sys2Proof.Machine

/-! ## Counters and limits in range -/

/-- R67: an occupancy counter lies between −1,440 and 120. -/
def CounterInRange (k : Int) : Prop := -1440 ≤ k ∧ k ≤ 120

/-- Every occupancy counter in its range (R67), and no current limit above 120 (R53, R169). -/
def CabinUnit.CountersFit (u : CabinUnit) : Prop :=
  (∀ c ∈ u.cabins, CounterInRange c.counter) ∧ ∀ g ∈ u.groups, g.currentLimit ≤ 120

theorem countersInRange_iff (s : State) : CountersInRange s ↔ s.cbu.CountersFit := Iff.rfl

/-- Counters in range, cabin by cabin. -/
theorem CabinUnit.countersFit_iff_find (u : CabinUnit) :
    u.CountersFit ↔ (∀ n c, u.find n = some c → CounterInRange c.counter) ∧ ∀ g ∈ u.groups, g.currentLimit ≤ 120 := by
  simp only [CabinUnit.CountersFit, CabinUnit.find, List.mem_iff_getElem?, forall_exists_index]
  exact and_congr_left fun _ => forall_comm

section
variable {u : CabinUnit}

theorem CabinUnit.CountersFit.find (h : u.CountersFit) {n : Nat} {c : Cabin} (hc : u.find n = some c) : CounterInRange c.counter :=
  (u.countersFit_iff_find.mp h).1 n c hc

/-- The limit that an acceptance loads (R64). -/
theorem CabinUnit.CountersFit.limit (h : u.CountersFit) (g : Nat) : ((u.group g).map (·.currentLimit)).getD 0 ≤ 120 := by
  cases hg : u.group g with
  | none => simp
  | some k => exact h.2 k (List.mem_of_getElem? hg)

/-- A cabin written with a counter in range. -/
theorem CabinUnit.CountersFit.put (h : u.CountersFit) (n : Nat) {e : Cabin} (he : CounterInRange e.counter) :
    (u.put n e).CountersFit := by
  refine ⟨fun c hc => ?_, h.2⟩
  rcases List.mem_or_eq_of_mem_set hc with hmem | rfl
  · exact h.1 c hmem
  · exact he

/-- A cabin written with the counter it had. -/
@[simp] theorem CabinUnit.countersFit_put_kept (h : u.CountersFit) {n : Nat} {e : Cabin}
    (he : ∀ c, u.find n = some c → e.counter = c.counter) : (u.put n e).CountersFit := by
  cases hc : u.find n with
  | none =>
    have hout : u.put n e = u := by
      simp only [CabinUnit.put, List.set_eq_of_length_le (List.getElem?_eq_none_iff.mp hc)]
    rwa [hout]
  | some c => exact h.put n (he c hc ▸ h.find hc)

/-- A group's record changed, its current limit left at 120 or below. -/
@[simp] theorem CabinUnit.countersFit_updateGroup (h : u.CountersFit) {g : Nat} {f : Group → Group}
    (hf : ∀ k, k.currentLimit ≤ 120 → (f k).currentLimit ≤ 120) : (u.updateGroup g f).CountersFit := by
  refine ⟨h.1, fun k hk => ?_⟩
  obtain ⟨i, hi⟩ := List.mem_iff_getElem?.mp hk
  simp only [CabinUnit.updateGroup, List.getElem?_modify] at hi
  obtain ⟨k₀, hk₀, rfl⟩ := Option.map_eq_some_iff.mp hi
  have hlimit := h.2 k₀ (List.mem_of_getElem? hk₀)
  split
  · exact hf k₀ hlimit
  · exact hlimit

end

/-! ## What a cabin's acts leave of its counter -/

@[simp] theorem Cabin.act_counter (c : Cabin) (st : CabinState) : (c.act st).counter = c.counter := by
  unfold Cabin.act; split <;> rfl

@[simp] theorem Cabin.released_counter (c : Cabin) (now cleaningTime : Nat) :
    (c.released now cleaningTime).counter = c.counter := by
  unfold Cabin.released; dsimp only; (repeat' split) <;> simp

@[simp] theorem Cabin.cleaned_counter (c : Cabin) : c.cleaned.counter = c.counter := by
  unfold Cabin.cleaned; split <;> simp

@[simp] theorem Cabin.unoffered_counter (c : Cabin) : c.unoffered.counter = c.counter := rfl

/-- A counter in range is in range after a boundary: it stops at −1,440 (R67). -/
theorem Cabin.counted_inRange {c : Cabin} (h : CounterInRange c.counter) : CounterInRange c.counted.counter := by
  unfold CounterInRange at h ⊢
  rw [Cabin.counted_eq]
  split
  · dsimp only; split <;> omega
  · exact h

section
variable {s : State}

theorem foldl_counters {α : Type} (f : State → α → State) (as : List α) (h : s.cbu.CountersFit)
    (hf : ∀ t a, t.cbu.CountersFit → (f t a).cbu.CountersFit) : (as.foldl f s).cbu.CountersFit :=
  List.foldlRecOn as f (motive := fun t : State => t.cbu.CountersFit) h fun t ht a _ => hf t a ht

theorem overCabins_counters (h : s.cbu.CountersFit) (f : Nat → State → State)
    (hf : ∀ n t, t.cbu.CountersFit → (f n t).cbu.CountersFit) : (overCabins f s).cbu.CountersFit :=
  foldl_counters _ _ h fun t n ht => hf n t ht

theorem overGroups_counters (h : s.cbu.CountersFit) (f : Nat → State → State)
    (hf : ∀ n t, t.cbu.CountersFit → (f n t).cbu.CountersFit) : (overGroups f s).cbu.CountersFit :=
  foldl_counters _ _ h fun t n ht => hf n t ht

/-! ## Queues and offers -/

@[simp] theorem displaceTail_counters (h : s.cbu.CountersFit) (g : Nat) (announce : Bool) :
    (displaceTail g announce s).cbu.CountersFit := by
  unfold displaceTail; dsimp only; (repeat' split) <;> simp [h]

@[simp] theorem restoreHead_counters (h : s.cbu.CountersFit) (g : Nat) (e : QueueEntry) (announce : Bool) :
    (restoreHead g e announce s).cbu.CountersFit := by simp [restoreHead, h]

theorem makeOffer_counters (h : s.cbu.CountersFit) (g n : Nat) (e : QueueEntry) : (makeOffer g n e s).cbu.CountersFit := by
  cases hc : s.cbu.find n with
  | none => simpa [makeOffer, hc] using h
  | some c => simp [makeOffer_cbu g n e c s hc, hc, h, Cabin.offeredTo]

@[simp] theorem allocate_counters (h : s.cbu.CountersFit) (g : Nat) : (allocate g s).cbu.CountersFit :=
  allocate_induct (P := fun t => t.cbu.CountersFit) g (fun _ _ _ _ _ ht _ _ _ _ => makeOffer_counters ht g _ _) s h

@[simp] theorem allocateIfFree_counters (h : s.cbu.CountersFit) (n : Nat) : (allocateIfFree n s).cbu.CountersFit := by
  unfold allocateIfFree; (repeat' split) <;> simp [h]

@[simp] theorem withdrawBand_counters (h : s.cbu.CountersFit) (b : BandNo) : (withdrawBand b s).cbu.CountersFit := by
  unfold withdrawBand; (repeat' split) <;> simp [removeEntry, *]

/-- An acceptance loads its group's current limit (R64). -/
@[simp] theorem acceptOffer_counters (h : s.cbu.CountersFit) (n : Nat) (c : Cabin) : (acceptOffer n c s).cbu.CountersFit := by
  have hlimit := h.limit c.group
  unfold acceptOffer
  dsimp only
  split <;> (simp only [playOnce_keeps, setLink_keeps, moveCabin_cbu]; exact h.put n (by dsimp only [CounterInRange]; omega))

/-- A cleaning ended, and the allocation that follows (R70). -/
@[simp] theorem endCleaning_counters (h : s.cbu.CountersFit) {n : Nat} {c : Cabin} (hc : s.cbu.find n = some c) :
    (allocateIfFree n (endCleaning n c s)).cbu.CountersFit :=
  allocateIfFree_counters (s := endCleaning n c s) (by simp [*]) n

/-! ## Presentations, events and timers -/

@[simp] theorem joinQueue_counters (h : s.cbu.CountersFit) (g : Nat) (b : BandNo) : (joinQueue g b s).cbu.CountersFit := by
  simp [joinQueue, appendEntry, h]

@[simp] theorem presentAtPad_counters (h : s.cbu.CountersFit) (g : Nat) (r : BandRecord) :
    (presentAtPad g r s).cbu.CountersFit := by
  unfold presentAtPad; dsimp only; (repeat' split) <;> simp [h]

@[simp] theorem presentAtCabin_counters (h : s.cbu.CountersFit) (n : Nat) (r : BandRecord) :
    (presentAtCabin n r s).cbu.CountersFit := by
  unfold presentAtCabin; dsimp only; (repeat' split) <;> simp [renewEntry, *]

@[simp] theorem masterAtCabin_counters (h : s.cbu.CountersFit) (n : Nat) : (masterAtCabin n s).cbu.CountersFit := by
  unfold masterAtCabin; (repeat' split) <;> simp [*]

@[simp] theorem cabinDoorEvent_counters (h : s.cbu.CountersFit) (n : Nat) (isOpen : Bool) :
    (cabinDoorEvent n isOpen s).cbu.CountersFit := by
  unfold cabinDoorEvent; (repeat' split) <;> simp [*]

@[simp] theorem takeOfferExpiry_counters (h : s.cbu.CountersFit) (n : Nat) : (takeOfferExpiry n s).cbu.CountersFit := by
  have hmiss : ∀ c e, s.cbu.find n = some c → (missOffer n c e s).cbu.CountersFit := fun c e hc => by
    unfold missOffer
    dsimp only
    refine allocate_counters ?_ _
    split <;> simp [appendEntry, h, hc]
  unfold takeOfferExpiry; (repeat' split) <;> simp [*]

@[simp] theorem takeEntryExpiry_counters (h : s.cbu.CountersFit) (n : Nat) : (takeEntryExpiry n s).cbu.CountersFit := by
  unfold takeEntryExpiry; (repeat' split) <;> simp [*]

@[simp] theorem takeCleaningExpiry_counters (h : s.cbu.CountersFit) (n : Nat) : (takeCleaningExpiry n s).cbu.CountersFit := by
  unfold takeCleaningExpiry; (repeat' split) <;> simp [*]

@[simp] theorem takeAbandonment_counters (h : s.cbu.CountersFit) (n : Nat) : (takeAbandonment n s).cbu.CountersFit := by
  unfold takeAbandonment abandonCabin; (repeat' split) <;> simp [*]

/-! ## Acts of other blocks -/

@[simp] theorem closeOffer_counters (h : s.cbu.CountersFit) (n : Nat) : (closeOffer n s).cbu.CountersFit := by
  unfold closeOffer; dsimp only; (repeat' split) <;> simp [*]

@[simp] theorem closeCabins_counters (h : s.cbu.CountersFit) : (closeCabins s).cbu.CountersFit :=
  overGroups_counters (overCabins_counters (overGroups_counters h _ fun g t ht => by simp [emptyQueue, ht]) _
    fun n _ ht => closeOffer_counters ht n) _ fun g t ht => by simpa using ht

@[simp] theorem loseCabin_counters (h : s.cbu.CountersFit) (n : Nat) : (loseCabin n s).cbu.CountersFit := by
  unfold loseCabin; (repeat' split) <;> simp [*]

@[simp] theorem reconcileCabin_counters (h : s.cbu.CountersFit) (n : Nat) (door : DoorReading) :
    (reconcileCabin n door s).cbu.CountersFit := by
  unfold reconcileCabin; dsimp only; split <;> simp [*]

@[simp] theorem regainCabin_counters (h : s.cbu.CountersFit) (n : Nat) (door : DoorReading) :
    (regainCabin n door s).cbu.CountersFit := by
  have hrestore : (restoreCabin n s).cbu.CountersFit := by
    unfold restoreCabin; (repeat' split) <;> simp [*]
  simp [regainCabin, hrestore]

@[simp] theorem purgeCabin_counters (h : s.cbu.CountersFit) (n : Nat) : (purgeCabin n s).cbu.CountersFit := by
  unfold purgeCabin; dsimp only; (repeat' split) <;> simp [*]

@[simp] theorem warmCabins_counters (h : s.cbu.CountersFit) : (warmCabins s).cbu.CountersFit := by
  have hunwind : ∀ n (u : State), u.cbu.CountersFit → (unwindOffer n u).cbu.CountersFit := fun n u hu => by
    unfold unwindOffer
    (repeat' split)
    · exact hu
    · exact hu
    · exact restoreHead_counters (s := endOffer n _ .free u) (by simp [*]) _ _ _
  exact overGroups_counters (overGroups_counters h _ fun _ _ ht => foldl_counters _ _ ht fun u x hu => hunwind x.2 u hu) _
    fun g _ ht => allocate_counters ht g

/-! ## The cabin orders -/

@[simp] theorem cabinAssign_counters (h : s.cbu.CountersFit) (b : BandNo) (g : Nat) : (cabinAssign b g s).1.cbu.CountersFit := by
  unfold cabinAssign; dsimp only; (repeat' split) <;> simp [refused, done, h]

/-- SET CABIN LIMIT takes no limit above 120 (R53). -/
@[simp] theorem setCabinLimit_counters (h : s.cbu.CountersFit) (g minutes : Nat) :
    (setCabinLimit g minutes s).1.cbu.CountersFit := by
  unfold setCabinLimit
  split
  · exact h
  · next hrange =>
    simp only [Bool.or_eq_true, decide_eq_true_eq, not_or, not_lt] at hrange
    exact CabinUnit.countersFit_updateGroup h fun _ _ => hrange.2

@[simp] theorem cleaned_counters (h : s.cbu.CountersFit) (n : Nat) : (cleaned n s).1.cbu.CountersFit := by
  unfold cleaned; (repeat' split) <;> simp [refused, done, *]

@[simp] theorem cabinService_counters (h : s.cbu.CountersFit) (n d : Nat) : (cabinService n d s).1.cbu.CountersFit := by
  have hout : ∀ c, s.cbu.find n = some c → (cabinOut n c s).cbu.CountersFit := fun c hc => by
    have hrestored := fun g e => restoreHead_counters (s := endOffer n c .outOfService s) (by simp [*]) g e true
    unfold cabinOut; dsimp only; (repeat' split) <;> simp [*]
  have hin : ∀ c, s.cbu.find n = some c → (cabinIn n c s).cbu.CountersFit := fun c hc => by
    have hback := allocateIfFree_counters (s := moveCabin n ({ c with pendingOut := false }.act .free) s) (by simp [*]) n
    unfold cabinIn; dsimp only; split <;> simp [*]
  unfold cabinService; (repeat' split) <;> simp [refused, done, *]

/-! ## Bands, lanes, events and answers -/

@[simp] theorem barBand_counters (h : s.cbu.CountersFit) (b : BandNo) : (barBand b s).1.cbu.CountersFit := by
  unfold barBand; (repeat' split) <;> simp [refused, done, h]

@[simp] theorem replaceBand_counters (h : s.cbu.CountersFit) (old new : BandNo) : (replaceBand old new s).1.cbu.CountersFit := by
  have hlink : ∀ (link : Option CabinLink) (u : State), u.cbu.CountersFit → (relink old new link u).cbu.CountersFit :=
    fun link u hu => by unfold relink; (repeat' split) <;> simp [*]
  unfold replaceBand
  (repeat' split) <;> simp [refused, done, h, hlink]

@[simp] theorem insertBand_counters (h : s.cbu.CountersFit) (n : Nat) (b : BandNo) (seen : Recognised) :
    (insertBand n b seen s).cbu.CountersFit := by
  have hassess : ∀ (u : State) e r, u.cbu.CountersFit → (assessBand n e r u).cbu.CountersFit := fun u e r hu => by
    unfold assessBand; dsimp only; split <;> simp [hu]
  have hidle : ∀ (u : State) e, u.cbu.CountersFit → (insertAtIdle n e b seen u).cbu.CountersFit := fun u e hu => by
    unfold insertAtIdle; (repeat' split) <;> simp [hassess, hu]
  unfold insertBand
  dsimp only
  (repeat' split) <;> simp [hidle, h]

theorem presentAt_counters (h : s.cbu.CountersFit) (reader : Reader) (b : BandNo) {master : State → State}
    {band : BandRecord → State → State} (hm : ∀ t, t.cbu.CountersFit → (master t).cbu.CountersFit)
    (hb : ∀ r t, t.cbu.CountersFit → (band r t).cbu.CountersFit) : (presentAt reader b master band s).cbu.CountersFit := by
  unfold presentAt; dsimp only; split <;> simp [hm, hb, h]

@[simp] theorem cabinEvent_counters (h : s.cbu.CountersFit) (addr : Nat) (ev : StationEvent) :
    (cabinEvent addr ev s).cbu.CountersFit := by
  cases ev with
  | bandPresented p b =>
    exact presentAt_counters h _ _ (fun t ht => masterAtCabin_counters ht _) fun r t ht => presentAtCabin_counters ht _ r
  | doorChanged p isOpen => exact cabinDoorEvent_counters h _ _
  | passSensed => exact h
  | collectorFault => exact h

@[simp] theorem padEvent_counters (h : s.cbu.CountersFit) (addr : Nat) (ev : StationEvent) :
    (padEvent addr ev s).cbu.CountersFit := by
  cases ev with
  | bandPresented p b =>
    exact presentAt_counters h _ _ (fun t ht => by simpa using ht) fun r t ht => presentAtPad_counters ht _ r
  | doorChanged p isOpen => exact h
  | passSensed => exact h
  | collectorFault => exact h

@[simp] theorem laneEvent_counters (h : s.cbu.CountersFit) (addr : Nat) (ev : StationEvent) :
    (laneEvent addr ev s).cbu.CountersFit := by
  cases ev with
  | bandPresented p b => simp only [laneEvent, presentAtLane]; split <;> simp [h]
  | doorChanged p isOpen => exact h
  | passSensed => simpa [laneEvent] using h
  | collectorFault => simpa [laneEvent] using h

@[simp] theorem routeEvent_counters (h : s.cbu.CountersFit) (addr : Nat) (ev : StationEvent) :
    (routeEvent addr ev s).cbu.CountersFit := by
  unfold routeEvent; split <;> simp [h]

@[simp] theorem takeStatusOf_counters (h : s.cbu.CountersFit) (addr : Nat) (r : Option StatusReport) :
    (takeStatusOf addr r s).cbu.CountersFit := by
  have howner : ∀ (x : StatusReport) (u : State), u.cbu.CountersFit → (reconcileOwner addr x u).cbu.CountersFit := fun x u hu => by
    cases x <;> simp [reconcileOwner, hu]
  cases r <;> simp [takeStatusOf, takeStatus, h, howner]

@[simp] theorem regainStation_counters (h : s.cbu.CountersFit) (addr : Nat) (r : StatusReport) :
    (regainStation addr r s).cbu.CountersFit := by
  have howner : ∀ u : State, u.cbu.CountersFit → (regainOwner addr r u).cbu.CountersFit := fun u hu => by
    cases r <;> simp [regainOwner, regainBank, hu]
  simp [regainStation, howner, h]

@[simp] theorem goodAnswer_counters (h : s.cbu.CountersFit) (p : Poll) (reply : PollReply) (status : Option StatusReport) :
    (goodAnswer p reply status s).cbu.CountersFit := by
  have hevent : ∀ u : State, u.cbu.CountersFit → (takeEvent p.addr reply.event u).cbu.CountersFit := fun u hu => by
    unfold takeEvent; (repeat' split) <;> simp [hu]
  unfold goodAnswer; (repeat' split) <;> simp [takeAnswer, hevent, h]

@[simp] theorem missedPoll_counters (h : s.cbu.CountersFit) (p : Poll) : (missedPoll p s).cbu.CountersFit := by
  have howner : ∀ u : State, u.cbu.CountersFit → (loseOwner p.addr u).cbu.CountersFit := fun u hu => by
    unfold loseOwner; split <;> simp [hu]
  have hlose : ∀ u : State, u.cbu.CountersFit → (loseStation p.addr u).cbu.CountersFit := fun u hu => by
    simp [loseStation, howner, hu]
  unfold missedPoll missAnswer
  dsimp only
  (repeat' split) <;> simp [hlose, h]

/-! ## The clock and the day -/

@[simp] theorem takeDue_counters (h : s.cbu.CountersFit) : (takeDue s).cbu.CountersFit := by
  have hlockers : (s.lmu.numbers.foldl (fun t n => takeOpeningExpiry n t) s).cbu.CountersFit := by simpa using h
  have hcabins := overCabins_counters (overCabins_counters (overCabins_counters (overCabins_counters hlockers takeOfferExpiry
    fun n t ht => takeOfferExpiry_counters ht n) takeEntryExpiry fun n t ht => takeEntryExpiry_counters ht n)
    takeCleaningExpiry fun n t ht => takeCleaningExpiry_counters ht n) takeAbandonment fun n t ht => takeAbandonment_counters ht n
  simpa [takeDue] using hcabins

/-- A boundary counts each cabin once, and leaves the groups (R67). -/
@[simp] theorem raiseBoundary_counters (h : s.cbu.CountersFit) (minute : Nat) : (raiseBoundary minute s).cbu.CountersFit := by
  have hgroups : (raiseBoundary minute s).cbu.groups = s.cbu.groups := by simp [raiseBoundary, countOccupancy_groups]
  refine (CabinUnit.countersFit_iff_find _).mpr ⟨fun n c hc => ?_, hgroups ▸ h.2⟩
  rw [raiseBoundary_find_cabin] at hc
  obtain ⟨c₀, hc₀, rfl⟩ := Option.map_eq_some_iff.mp hc
  exact Cabin.counted_inRange (h.find hc₀)

@[simp] theorem closeDayWith_counters (h : s.cbu.CountersFit) (reason : Nat → Nat → Nat → DayReason) :
    (closeDayWith reason s).cbu.CountersFit :=
  closeCabins_counters (s := { s with sck := { s.sck with day := .closed } }) h

@[simp] theorem advanceSecond_counters (h : s.cbu.CountersFit) : (advanceSecond s).cbu.CountersFit := by
  have hday : ∀ u : State, u.cbu.CountersFit → (dayLogic u).cbu.CountersFit := fun u hu => by
    unfold dayLogic; split <;> simp [hu]
  unfold advanceSecond; (repeat' split) <;> simp [hday, h]

theorem secondPasses_counters (h : s.cbu.CountersFit) : (secondPasses s).cbu.CountersFit := by simp [secondPasses, h]

theorem runClock_counters (h : s.cbu.CountersFit) (n : Nat) : (runClock n s).cbu.CountersFit := by
  induction n generalizing s with
  | zero => exact h
  | succ n ih => exact ih (secondPasses_counters h)

theorem runToTimer_counters (h : s.cbu.CountersFit) (timer : Option Nat) (act : State → State)
    (hact : ∀ t, t.cbu.CountersFit → (act t).cbu.CountersFit) : (runToTimer timer act s).cbu.CountersFit := by
  cases timer with
  | none => exact h
  | some x => exact hact _ (runClock_counters h _)

@[simp] theorem setClock_counters (h : s.cbu.CountersFit) (second : Nat) : (setClock second s).1.cbu.CountersFit := by
  have hcarried : (clockCarried second s).cbu.CountersFit := by
    refine ⟨fun c hc => ?_, h.2⟩
    obtain ⟨c₀, hc₀, rfl⟩ := List.mem_map.mp hc
    exact h.1 c₀ hc₀
  have hset : (clockSetTo second s).cbu.CountersFit := by
    rw [clockSetTo_eq]
    split <;> simp [hcarried]
  unfold setClock; (repeat' split) <;> simp [refused, done, h, hset]

theorem adjustForward_counters (h : s.cbu.CountersFit) (n : Nat) : (adjustForward n s).cbu.CountersFit := by
  induction n generalizing s with
  | zero => exact h
  | succ n ih => exact ih (takeDue_counters (advanceSecond_counters h))

@[simp] theorem adjustClock_counters (h : s.cbu.CountersFit) (k : Int) : (adjustClock k s).1.cbu.CountersFit := by
  have hback : ∀ second, (adjustBack second s).cbu.CountersFit := fun second =>
    foldl_counters (s := s) _ _ h fun t m ht => raiseBoundary_counters (s := setCounter (m * 60) t) ht m
  have hto : ∀ second, (adjustTo second s).cbu.CountersFit := fun second => by
    unfold adjustTo; (repeat' split) <;> simp [h, hback, adjustForward_counters]
  unfold adjustClock; dsimp only; (repeat' split) <;> simp [refused, done, h, hto]

@[simp] theorem openDay_counters (h : s.cbu.CountersFit) : (openDay s).1.cbu.CountersFit := by
  have hopened : ∀ live, (openedDay live s).cbu.CountersFit := fun live => by
    refine ⟨h.1, fun k hk => ?_⟩
    obtain ⟨k₀, hk₀, rfl⟩ := List.mem_map.mp hk
    exact h.2 k₀ hk₀
  unfold openDay; (repeat' split) <;> simp [refused, done, h, hopened]

@[simp] theorem closeDay_counters (h : s.cbu.CountersFit) : (closeDay s).1.cbu.CountersFit := by
  unfold closeDay; split <;> simp [refused, done, h]

@[simp] theorem purge_counters (h : s.cbu.CountersFit) : (purge s).1.cbu.CountersFit := by
  have hlockers : (purgeLockers (emptyBands (purgeLanes s))).cbu.CountersFit := by
    simpa [purgeLockers, emptyBands, purgeLanes] using h
  have hacts : (purgeActs s).cbu.CountersFit := by
    unfold purgeActs
    dsimp only
    exact overCabins_counters hlockers purgeCabin fun n t ht => purgeCabin_counters ht n
  unfold purge
  split
  · exact h
  · simpa only [done, (raiseNotice_keeps _ _).2.2.2.1] using hacts

/-! ## The resets and the rebuilds -/

@[simp] theorem warmReset_counters (h : s.cbu.CountersFit) : (warmReset s).cbu.CountersFit := by
  have howners : ∀ u : State, u.cbu.CountersFit → (warmOwners u).cbu.CountersFit := fun u hu => by
    have hlanes : (warmLanes (warmCabins u)).cbu.CountersFit := by simpa [warmLanes] using warmCabins_counters hu
    unfold warmOwners
    split
    · exact hlanes
    · exact hu
  exact howners (linkReset s) h

theorem takeBreak_counters (h : s.cbu.CountersFit) : (takeBreak s).cbu.CountersFit := by
  unfold takeBreak
  dsimp only
  split
  · exact warmReset_counters (s := linkReset (setFramer .awaitingMark s)) h
  · exact h

/-- A rebuild begins with every counter at 0 and every limit that of the clamped image (R79, R169). -/
theorem freshCabins_counters {image : List Byte} (h : siteImageGood image = true) :
    (freshCabins (siteTableOf (clampSite image))).CountersFit := by
  refine ⟨fun c hc => ?_, fun k hk => ?_⟩
  · obtain ⟨setting, -, rfl⟩ := List.mem_map.mp hc
    simp [freshCabin, CounterInRange]
  · obtain ⟨setting, hsetting, rfl⟩ := List.mem_map.mp hk
    obtain ⟨g, hg, rfl⟩ := List.mem_map.mp hsetting
    exact clampSite_limit h (List.mem_range.mp hg)

theorem coldReset_counters (straps : BitVec 2) (s : State) : (coldReset straps s).cbu.CountersFit := by
  unfold coldReset
  dsimp only
  split
  · next hgood => exact freshCabins_counters hgood
  · simp [coldBase, CabinUnit.CountersFit]

theorem siteCommit_counters (h : s.cbu.CountersFit) : (siteCommit s).1.cbu.CountersFit := by
  unfold siteCommit
  (repeat' split)
  · exact h
  · exact h
  · next hgood =>
    simp only [Bool.not_eq_true', Bool.not_eq_false] at hgood
    exact freshCabins_counters hgood

end

/-! ## The step -/

theorem runOrder_counters (k : OrderKind) (tag : Byte) (body : List Byte) (owner : State → Owned) {s : State}
    (ho : ∀ u, u.cbu.CountersFit → (owner u).1.cbu.CountersFit) (h : s.cbu.CountersFit) :
    (runOrder k tag body owner s).cbu.CountersFit :=
  runOrder_owner (fun u => u.cbu.CountersFit) k tag body owner s (fun _ _ hu => hu) ho h

theorem exec_counters (c : Instr) (s t : State) (h : s.cbu.CountersFit) (ht : exec c s = .next t) : t.cbu.CountersFit := by
  cases c
  all_goals
    injection ht with ht
    subst ht
  case coldReset straps => exact coldReset_counters straps s
  case siteCommit => exact runOrder_counters _ _ _ _ (fun u hu => siteCommit_counters hu) h
  case minuteBoundary | midnightRollover => exact runClock_counters h _
  case openingExpiry | offerExpiry | entryExpiry | cleaningExpiry | abandonment | quoteExpiry | passExpiry | watchExpiry
      | desiredEntryExpiry => exact runToTimer_counters h _ _ fun t ht => by simp [ht]
  case unknownOrder =>
    split
    · exact h
    · unfold dispatchOrder; (repeat' split) <;> exact h
  case lockerServiceOut | lockerServiceIn | cabinServiceOut | cabinServiceIn =>
    split
    · exact h
    · exact runOrder_counters _ _ _ _ (fun u hu => by simp [hu]) h
  case storeWriteEnd copy => cases copy <;> exact h
  case lineBreak =>
    split
    · exact h
    · exact takeBreak_counters h
  case poll | pollAnswer | missedAnswer | warmReset | frameReceived | frameLengthOutOfRange | byteWithoutStopBit
      | interByteGap | transmissionEnd | noticeHoldAsserted | noticeHoldNegated | startByteReceived | lineReturnToMark =>
    (repeat' split) <;> simp [h]
  all_goals exact runOrder_counters _ _ _ _ (fun u hu => by simp [hu]) h

theorem step_keepsCounters : KeptByStep CountersInRange := by
  intro s t h ht
  rw [countersInRange_iff] at h ⊢
  unfold step at ht
  split at ht
  · injection ht with ht
    subst ht
    exact secondPasses_counters h
  · next c rest _ => exact exec_counters c { s with pending := rest } t h ht

end Sys2Proof.Machine

/-! The site clock through every operation (R124): the passing of a second, SET CLOCK and ADJUST CLOCK move the counter within
the day, a cold reset sets it to 0, and nothing else moves it. -/
namespace Sys2Proof.Machine

theorem ClockInRange.congr {s t : State} (h : ClockInRange s) (hsck : t.sck.counter = s.sck.counter) : ClockInRange t := by
  rwa [ClockInRange, hsck]

section
variable {s : State}

/-! ## The passing of seconds -/

theorem runClock_inRange (h : ClockInRange s) (n : Nat) : ClockInRange (runClock n s) := by
  rw [ClockInRange, (runClock_counter n h).1]
  exact Nat.mod_lt _ (by decide)

theorem runToTimer_inRange (h : ClockInRange s) (timer : Option Nat) (act : State → State) (hact : ∀ t, (act t).sck = t.sck) :
    ClockInRange (runToTimer timer act s) := by
  cases timer with
  | none => exact h
  | some x => exact (runClock_inRange h _).congr (congrArg SiteClock.counter (hact _))

/-! ## The orders that set or adjust the clock (R127, R128) -/

theorem setClock_inRange (h : ClockInRange s) (second : Nat) : ClockInRange (setClock second s).1 := by
  unfold setClock
  (repeat' split)
  · exact h
  · exact h
  · next hrange _ =>
    have hset : (clockSetTo second s).sck.counter = second := by rw [(clockSetTo_stands second s).1]; rfl
    rw [done, ClockInRange, hset]
    omega

theorem adjustClock_inRange (h : ClockInRange s) (k : Int) : ClockInRange (adjustClock k s).1 := by
  unfold adjustClock
  dsimp only
  (repeat' split)
  · exact h
  · exact h
  · next hrange _ =>
    simp only [Bool.or_eq_true, decide_eq_true_eq, not_or, not_lt] at hrange
    have hday : (s.now + k).toNat < 86400 := by omega
    rw [done, ClockInRange, adjustTo_sck _ s hday]
    exact hday

/-! ## The orders of the day, and SITE COMMIT -/

theorem openDay_counter (s : State) : (openDay s).1.sck.counter = s.sck.counter := by
  unfold openDay; (repeat' split) <;> simp [refused, done, openedDay]

theorem closeDay_counter (s : State) : (closeDay s).1.sck.counter = s.sck.counter := by
  unfold closeDay; split <;> simp [refused, done, closeDayWith]

theorem purge_counter (s : State) : (purge s).1.sck.counter = s.sck.counter := by
  have hacts : (purgeActs s).sck.counter = s.sck.counter := by simp [purgeActs, purgeLockers, emptyBands, purgeLanes]
  unfold purge; split <;> simp [refused, done, hacts]

theorem siteCommit_counter (s : State) : (siteCommit s).1.sck.counter = s.sck.counter := by
  unfold siteCommit; (repeat' split) <;> rfl

theorem coldReset_counter (straps : BitVec 2) (s : State) : (coldReset straps s).sck.counter = 0 := by
  unfold coldReset; dsimp only; split <;> rfl

end

/-! ## The step -/

theorem exec_clockInRange (c : Instr) (s t : State) (h : ClockInRange s) (ht : exec c s = .next t) : ClockInRange t := by
  have horder := fun (k : OrderKind) (tag : Byte) (body : List Byte) (owner : State → Owned)
    (ho : ∀ u, ClockInRange u → ClockInRange (owner u).1) =>
      runOrder_owner ClockInRange k tag body owner s (fun _ _ hu => hu) ho h
  have hkept := fun (k : OrderKind) (tag : Byte) (body : List Byte) (owner : State → Owned)
    (ho : ∀ u, (owner u).1.sck.counter = u.sck.counter) => horder k tag body owner fun u hu => hu.congr (ho u)
  cases c
  all_goals
    injection ht with ht
    subst ht
  case coldReset straps => rw [ClockInRange, coldReset_counter]; decide
  case setClock => exact horder _ _ _ _ fun u hu => setClock_inRange hu _
  case adjustClock => exact horder _ _ _ _ fun u hu => adjustClock_inRange hu _
  case openDay => exact hkept _ _ _ _ openDay_counter
  case closeDay => exact hkept _ _ _ _ closeDay_counter
  case purge => exact hkept _ _ _ _ purge_counter
  case siteCommit => exact hkept _ _ _ _ siteCommit_counter
  case minuteBoundary | midnightRollover => exact runClock_inRange h _
  case openingExpiry | offerExpiry | entryExpiry | cleaningExpiry | abandonment | quoteExpiry | passExpiry | watchExpiry
      | desiredEntryExpiry => exact runToTimer_inRange h _ _ fun t => by simp
  case storeWriteEnd copy => cases copy <;> exact h
  case unknownOrder =>
    split
    · exact h
    · unfold dispatchOrder; (repeat' split) <;> exact h
  case lockerServiceOut | lockerServiceIn | cabinServiceOut | cabinServiceIn =>
    split
    · exact h
    · exact hkept _ _ _ _ fun u => by simp
  case poll | pollAnswer | missedAnswer | warmReset | lineBreak | frameReceived | frameLengthOutOfRange | byteWithoutStopBit
      | interByteGap | transmissionEnd | noticeHoldAsserted | noticeHoldNegated | startByteReceived | lineReturnToMark =>
    refine h.congr ?_
    (repeat' split) <;> simp
  all_goals exact hkept _ _ _ _ fun u => by simp

theorem step_keepsClock : KeptByStep ClockInRange := by
  intro s t h ht
  unfold step at ht
  split at ht
  · injection ht with ht
    subst ht
    exact runClock_inRange h 1
  · next c rest _ => exact exec_clockInRange c { s with pending := rest } t h ht

/-- Settles O5: the clock is moved within the day alone; an acceptance loads a limit, a boundary counts down to −1,440, and a
limit is set from its order's range or a clamped image. -/
theorem stepKeepsCounters : Obligations.StepKeepsCounters := ⟨step_keepsClock, step_keepsCounters⟩

end Sys2Proof.Machine

/-! What a new part holds after reset (R124, R130, R165, R171), and the timers' commands (R125). -/
namespace Sys2Proof.Machine

/-! ## After reset -/

/-- Settles O4: each field of a new part is read from its block's reset value (R124, R130, R165, R171), and every class is
enabled in the notice mask. -/
theorem resetLeavesANewPart : Obligations.ResetLeavesANewPart := by
  have hclock : State.reset.sck = resetClock := rfl
  have hsite : State.reset.sts = emptySite neverWritten := rfl
  have htariff : State.reset.tfs = emptyTariff neverWritten := rfl
  have hbands : State.reset.bdr = emptyRegister := rfl
  have hlink : State.reset.lkc = resetLink 0 false := rfl
  have hconditions : State.reset.cnu = resetConditions := rfl
  have hmask : BitVec.allOnes 10 = 0x3FF#10 := by decide
  rw [Obligations.ResetLeavesANewPart, hclock, hsite, htariff, hbands, hlink, hconditions]
  exact ⟨rfl, rfl, rfl, rfl, rfl, rfl, rfl, rfl, rfl, rfl, rfl, rfl, rfl, rfl, rfl, rfl, rfl, rfl, rfl, rfl, rfl, hmask⟩

/-! ## A timer's command (R125) -/

/-- A standing timer: the clock runs to its second, and the act is taken there. -/
theorem runToTimer_of_some {timer : Option Nat} {x : Nat} (h : timer = some x) (act : State → State) (s : State) :
    runToTimer timer act s = act (runClock (secondsUntil s.now x) s) := by rw [h, runToTimer]

theorem runToTimer_of_none {timer : Option Nat} (h : timer = none) (act : State → State) (s : State) :
    runToTimer timer act s = s := by rw [h, runToTimer]

/-- The timer of a watch is that of the first one open under its tag (R160). -/
theorem exec_watchExpiry_of_find {tag : Byte} {w : Watch} {s : State} (h : s.lkc.watches.find? (fun w => w.tag = tag) = some w) :
    exec (.watchExpiry tag) s = .next (takeWatchExpiry tag (runClock (secondsUntil s.now w.expiry) s)) :=
  congrArg Host.Outcome.next (runToTimer_of_some (by rw [h, Option.map_some]) _ s)

theorem exec_watchExpiry_of_noWatch {tag : Byte} {s : State} (h : ∀ w ∈ s.lkc.watches, w.tag ≠ tag) :
    exec (.watchExpiry tag) s = .next s := by
  have hfind : s.lkc.watches.find? (fun w => w.tag = tag) = none := by simpa using h
  exact congrArg Host.Outcome.next (runToTimer_of_none (by rw [hfind, Option.map_none]) _ s)

/-- Settles O42: each command is its timer's run, and the watch's timer is found by its tag. -/
theorem timerCommandsRunTheClock : Obligations.TimerCommandsRunTheClock := by
  intro s
  have hruns : ∀ (timer : Option Nat) (act : State → State) (x : Nat), timer = some x →
      (Host.Outcome.next (runToTimer timer act s) : Host.Outcome State Fault Refusal)
        = .next (act (runClock (secondsUntil s.now x) s)) :=
    fun _ act _ h => congrArg Host.Outcome.next (runToTimer_of_some h act s)
  have hstands : ∀ (timer : Option Nat) (act : State → State), timer = none →
      (Host.Outcome.next (runToTimer timer act s) : Host.Outcome State Fault Refusal) = .next s :=
    fun _ act h => congrArg Host.Outcome.next (runToTimer_of_none h act s)
  refine ⟨fun n => hruns (openingExpiryOf n s) (takeOpeningExpiry n), fun n => hruns _ (takeOfferExpiry n),
    fun n => hruns _ (takeEntryExpiry n), fun n => hruns _ (takeCleaningExpiry n), fun n => hruns _ (takeAbandonment n),
    fun l => hruns _ (takeQuoteExpiry l), fun l => hruns _ (takePassExpiry l), fun tag w => exec_watchExpiry_of_find,
    fun addr k => hruns _ (takeTimedEntry addr (timedKey k)), ?_⟩
  exact ⟨fun n => hstands _ (takeOpeningExpiry n), fun n => hstands _ (takeOfferExpiry n),
    fun n => hstands _ (takeEntryExpiry n), fun n => hstands _ (takeCleaningExpiry n), fun n => hstands _ (takeAbandonment n),
    fun l => hstands _ (takeQuoteExpiry l), fun l => hstands _ (takePassExpiry l), fun tag => exec_watchExpiry_of_noWatch,
    fun addr k => hstands _ (takeTimedEntry addr (timedKey k))⟩

end Sys2Proof.Machine

/-! The parts of a POLL_ANSWER (R137, R139, R141, R144, R145): what each leaves of the station's record, and the order in which
they are taken. -/
namespace Sys2Proof.Machine

/-! ## The acknowledgement (R139) -/

theorem Entry.acknowledged_carried (e : Entry) : e.acknowledged.carried = false := rfl

/-- An acknowledged entry keeps its value, but for a one-shot part or a flash code (R146, R147). -/
theorem Entry.acknowledged_value {e : Entry} (hsounder : ∀ a o, e.value ≠ .sounder a o) (hflash : ∀ c, e.value ≠ .flash c) :
    e.acknowledged.value = e.value := by
  cases hv : e.value with
  | sounder a o => exact absurd hv (hsounder a o)
  | flash c => exact absurd hv (hflash c)
  | _ => simp [Entry.acknowledged, hv]

theorem Station.mem_acknowledge {st : Station} {e : Entry} (he : e ∈ st.image) :
    (if e.carried then e.acknowledged else e) ∈ st.acknowledge.image := List.mem_map_of_mem he

theorem Station.mem_acknowledge_of_uncarried {st : Station} {e : Entry} (he : e ∈ st.image) (hc : e.carried = false) :
    e ∈ st.acknowledge.image := by simpa [hc] using st.mem_acknowledge he

theorem Station.mem_acknowledge_of_carried {st : Station} {e : Entry} (he : e ∈ st.image) (hc : e.carried = true) :
    e.acknowledged ∈ st.acknowledge.image := by simpa [hc] using st.mem_acknowledge he

theorem Station.acknowledge_uncarried (st : Station) : ∀ e ∈ st.acknowledge.image, e.carried = false := by
  intro e he
  obtain ⟨x, -, rfl⟩ := List.mem_map.mp he
  by_cases hx : x.carried = true
  · rw [if_pos hx, Entry.acknowledged_carried]
  · rw [if_neg hx, Bool.eq_false_of_not_eq_true hx]

/-! ## The station's record after each part -/

theorem ReadKind.join_plain (due : Option ReadKind) :
    ReadKind.join due .plain = some (if due = some .clearing then .clearing else .plain) := by
  rcases due with - | (- | -) <;> rfl

theorem updateStation_find {addr : Nat} {st : Station} {s : State} (hst : s.flm.find addr = some st) (g : Station → Station)
    (hg : ∀ x, (g x).addr = x.addr) : (updateStation addr g s).flm.find addr = some (g st) := by
  rw [updateStation_flm, FieldLine.find_update_self _ _ g hg, hst, Option.map_some]

/-- The poll over and its answer acknowledged: where the other parts of an answer begin (R139, R142). -/
def acknowledgedState (addr : Nat) (s : State) : State := updateStation addr (fun st => st.answered s.now) (endPoll s)

theorem acknowledgedState_find {addr : Nat} {st : Station} {s : State} (hst : s.flm.find addr = some st) :
    (acknowledgedState addr s).flm.find addr = some (st.answered s.now) :=
  updateStation_find (s := endPoll s) hst (fun st => st.answered s.now) fun _ => rfl

theorem acknowledgedState_find_other {addr a : Nat} (s : State) (ha : a ≠ addr) :
    (acknowledgedState addr s).flm.find a = s.flm.find a := by
  rw [acknowledgedState, updateStation_flm, FieldLine.find_update _ _ _ (fun st => st.answered s.now) fun _ => rfl, if_neg ha]
  rfl

theorem takeRestart_flm (addr : Nat) (s : State) : (takeRestart addr true s).flm = s.flm.update addr Station.restarted := by
  unfold takeRestart
  (repeat' split) <;> simp_all

/-- The first restart flag since the last status read is told (R145). -/
theorem takeRestart_first {addr : Nat} {st : Station} {s : State} (hst : s.flm.find addr = some st)
    (hseen : st.restartSeen = false) :
    takeRestart addr true s
      = raiseNotice (.stationHealth addr (kindOf addr) .restarted s.now) (updateStation addr Station.restarted s) := by
  simp [takeRestart, hst, hseen]

/-- A further one is not (R145). -/
theorem takeRestart_seen {addr : Nat} {st : Station} {s : State} (hst : s.flm.find addr = some st)
    (hseen : st.restartSeen = true) : takeRestart addr true s = updateStation addr Station.restarted s := by
  simp [takeRestart, hst, hseen]

theorem takeEvent_repeat {addr : Nat} {ev : StationEvent} {bit : Bool} {st : Station} {s : State}
    (hst : s.flm.find addr = some st) (hbit : st.lastBit = some bit) : takeEvent addr (some (ev, bit)) s = s := by
  simp [takeEvent, hst, hbit]

theorem takeEvent_fresh {addr : Nat} {ev : StationEvent} {bit : Bool} {st : Station} {s : State}
    (hst : s.flm.find addr = some st) (hbit : st.lastBit ≠ some bit) :
    takeEvent addr (some (ev, bit)) s = routeEvent addr ev (updateStation addr (fun x => { x with lastBit := some bit }) s) := by
  simp [takeEvent, hst, hbit]

/-- The answer of a status read leaves nothing due for an overrun (R144). -/
theorem takeOverrun_statusRead (addr : Nat) (flag : Bool) {read : Option ReadKind} (s : State) (hread : read.isSome = true) :
    takeOverrun addr flag read s = s := by
  simp [takeOverrun, Option.isSome_iff_ne_none.mp hread]

/-! ## The answer as a whole -/

section
variable {p : Poll} {reply : PollReply} {st : Station} {s : State}

/-- The acknowledgement, the restart flag and the event, which every answer of a station not Lost begins with. -/
def eventTaken (p : Poll) (reply : PollReply) (s : State) : State :=
  takeEvent p.addr reply.event (takeRestart p.addr reply.restart (acknowledgedState p.addr s))

theorem exec_pollAnswer_of_status {status : Option StatusReport} (hp : s.flm.inFlight = some p)
    (hst : s.flm.find p.addr = some st) (hhealth : st.health ≠ .lost) (hstatus : statusFor p reply s.table = some status) :
    exec (.pollAnswer reply) s = .next (continueVisit reply.event.isSome (takeStatusOf p.addr status
      (takeOverrun p.addr reply.overrun p.read (eventTaken p reply s)))) := by
  have hlost : ¬s.flm.health p.addr = some .lost := by simp [FieldLine.health, hst, hhealth]
  simp only [exec, execPollAnswer, hp, hstatus, goodAnswer, if_neg hlost]
  rfl

theorem exec_pollAnswer_ordinary (hp : s.flm.inFlight = some p) (hst : s.flm.find p.addr = some st)
    (hhealth : st.health ≠ .lost) (hread : p.read = none) :
    exec (.pollAnswer reply) s
      = .next (continueVisit reply.event.isSome (takeOverrun p.addr reply.overrun none (eventTaken p reply s))) := by
  rw [exec_pollAnswer_of_status hp hst hhealth (status := none) (by simp [statusFor, hread]), hread]
  rfl

theorem exec_pollAnswer_statusRead {r : StatusReport} (hp : s.flm.inFlight = some p) (hst : s.flm.find p.addr = some st)
    (hhealth : st.health ≠ .lost) (hread : p.read.isSome = true) (hr : reply.status = some r)
    (hfits : reportFits r s.table p.addr = true) :
    exec (.pollAnswer reply) s
      = .next (continueVisit reply.event.isSome
          (takeStatus p.addr (logicalReport r s.table p.addr) (eventTaken p reply s))) := by
  obtain ⟨k, hk⟩ := Option.isSome_iff_exists.mp hread
  rw [exec_pollAnswer_of_status hp hst hhealth (status := some (logicalReport r s.table p.addr))
    (by simp [statusFor, hk, hr, hfits]), takeOverrun_statusRead _ _ _ hread]
  rfl

end

/-! ## An answer to an ordinary poll with one part at most -/

section
variable {p : Poll} {st : Station} {s : State}

/-- An answer to an ordinary poll with no event and no flag but those named. -/
def flagReply (overrun restart : Bool) : PollReply := { event := none, overrun := overrun, restart := restart, status := none }

/-- The acknowledgement alone: the answer with no event and no flag (R137, R139). -/
theorem exec_pollAnswer_plain (hp : s.flm.inFlight = some p) (hst : s.flm.find p.addr = some st) (hhealth : st.health ≠ .lost)
    (hread : p.read = none) :
    exec (.pollAnswer (flagReply false false)) s = .next (continueVisit false (acknowledgedState p.addr s)) :=
  exec_pollAnswer_ordinary hp hst hhealth hread

theorem exec_pollAnswer_restart (hp : s.flm.inFlight = some p) (hst : s.flm.find p.addr = some st)
    (hhealth : st.health ≠ .lost) (hread : p.read = none) :
    exec (.pollAnswer (flagReply false true)) s
      = .next (continueVisit false (takeRestart p.addr true (acknowledgedState p.addr s))) :=
  exec_pollAnswer_ordinary hp hst hhealth hread

theorem exec_pollAnswer_overrun (hp : s.flm.inFlight = some p) (hst : s.flm.find p.addr = some st)
    (hhealth : st.health ≠ .lost) (hread : p.read = none) :
    exec (.pollAnswer (flagReply true false)) s
      = .next (continueVisit false (updateStation p.addr (fun st => st.markRead .plain) (acknowledgedState p.addr s))) :=
  exec_pollAnswer_ordinary hp hst hhealth hread

/-- The record after the restart flag: no bit, a status read due, no misses (R145). -/
theorem restart_find (hst : s.flm.find p.addr = some st) :
    (takeRestart p.addr true (acknowledgedState p.addr s)).flm.find p.addr = some (st.answered s.now).restarted := by
  rw [takeRestart_flm, FieldLine.find_update_self _ _ Station.restarted fun _ => rfl, acknowledgedState_find hst,
    Option.map_some]

theorem restart_inFlight (addr : Nat) (s : State) : (takeRestart addr true (acknowledgedState addr s)).flm.inFlight = none := by
  rw [takeRestart_flm]
  rfl

end

/-- Settles O51: the plain answer by its acknowledgement, each flag and the event by its own part, and the whole answer by the
parts in turn. -/
theorem pollAnswersTaken : Obligations.PollAnswersTaken := by
  refine ⟨fun p st s hp hread hst hhealth => ?plain, fun p st s hp hread hst hhealth => ⟨?restart, ?overrun⟩,
    fun addr ev bit st s hst => ⟨takeEvent_repeat hst, takeEvent_fresh hst⟩,
    fun reply p st s acked evented u t hp hst hhealth hacked hevented ht => ?whole⟩
  case plain =>
    exact ⟨_, st.answered s.now, exec_pollAnswer_plain hp hst hhealth hread, rfl, acknowledgedState_find hst, rfl, rfl, rfl, rfl,
      st.sameKeys_acknowledge.2, fun _ => Station.mem_acknowledge_of_uncarried, st.acknowledge_uncarried,
      fun e he hc => ⟨_, Station.mem_acknowledge_of_carried he hc, rfl, rfl, Entry.acknowledged_value⟩,
      fun _ => acknowledgedState_find_other s, by simp [keepsAllBut_iff, acknowledgedState]⟩
  case restart =>
    have hacked := acknowledgedState_find hst
    refine ⟨_, (st.answered s.now).restarted, exec_pollAnswer_restart hp hst hhealth hread, restart_inFlight _ _,
      restart_find hst, rfl, ?_, rfl, rfl, fun hseen => ?_, fun hseen => ?_⟩
    · exact congrArg Option.isSome (ReadKind.join_plain st.statusDue)
    · rw [takeRestart_first hacked hseen]
      exact ⟨by simp [NoticeContent.cls, NoticeClass.code], by simp [keepsAllBut_iff, acknowledgedState]⟩
    · rw [takeRestart_seen hacked hseen]
      simp [keepsAllBut_iff, acknowledgedState]
  case overrun =>
    exact ⟨_, (st.answered s.now).markRead .plain, exec_pollAnswer_overrun hp hst hhealth hread, rfl,
      updateStation_find (acknowledgedState_find hst) (fun st => st.markRead .plain) fun _ => rfl, rfl, rfl,
      ReadKind.join_plain st.statusDue, by simp [keepsAllBut_iff, acknowledgedState]⟩
  case whole =>
    subst hacked hevented ht
    refine ⟨fun hread hu => ?_, fun r hread hr hfits hu => ?_⟩
    · subst hu
      exact exec_pollAnswer_ordinary hp hst hhealth hread
    · subst hu
      exact exec_pollAnswer_statusRead hp hst hhealth hread hr hfits

/-! ## Timed entries (R138, R139) and READ STATION (R148) -/

theorem Station.mem_write_other {st : Station} {k : EntryKey} {e : Entry} (v : EntryValue) (he : e ∈ st.image)
    (hk : e.key ≠ k) : e ∈ (st.write k v).image := List.mem_map.mpr ⟨e, he, if_neg hk⟩

/-- A timed entry whose expiry is the present second, at a station whose writes are marked (R139). -/
theorem exec_desiredEntryExpiry_now {addr : Nat} {k : TimedEntry} {v : EntryValue} {st : Station} {s : State}
    (hst : s.flm.find addr = some st) (hv : st.value (timedKey k) = some v) (hx : v.expiry = some s.sck.counter)
    (hmarks : marksWrites addr s = true) :
    exec (.desiredEntryExpiry addr k) s = .next (updateStation addr (fun st => st.write (timedKey k) v.expired) s) := by
  have hx : v.expiry = some s.now := hx
  have htimer : entryTimer addr (timedKey k) s = some s.now := by simp [entryTimer, hst, hv, hx]
  simp only [exec, execDesiredEntryExpiry, htimer, runToTimer_now]
  simp [takeTimedEntry, hst, hv, hx, hmarks, Station.writeMarked]

theorem readStation_done {addr : Nat} (s : State) (hlow : 1 ≤ addr) (hhigh : addr ≤ 88) :
    readStation addr s = done (.station (kindOf addr) ((s.flm.find addr).map Station.readout)) s := by
  have hrange : ¬(addr = 0 ∨ 88 < addr) := by omega
  simp [readStation, hrange]

/-- Settles O53: the timer stands at the present second and writes its entry; READ STATION by its order. -/
theorem timedEntriesExpire : Obligations.TimedEntriesExpire := by
  refine ⟨fun addr k v st s hst hv hx hmarks => ?_, rfl, fun _ => rfl, fun _ => rfl,
    fun tag body s h hlow hhigh => next_runOrder_done h (readStation_done (popOrder s) hlow hhigh)⟩
  exact ⟨_, st.write (timedKey k) v.expired, exec_desiredEntryExpiry_now hst hv hx hmarks,
    updateStation_find hst (fun st => st.write (timedKey k) v.expired) fun _ => rfl,
    Station.write_some _ _ _ (by simp [hv]), fun e he hk => ((Station.mem_write he).1 hk).symm,
    fun e he hk => Station.mem_write_other v.expired he hk, by simp [keepsAllBut_iff]⟩

end Sys2Proof.Machine

/-! Frames written and read back (spec 11 2.01, R151, R173), and the frame of every answer and every notice (R174). -/
namespace Sys2Proof.Machine

/-! ## A frame and its parts -/

/-- The bytes of a frame that its check value covers: length, kind, tag and body (R151). -/
def checkedRun (kind tag : Byte) (body : List Byte) : List Byte := u8Bytes (body.length + 2) ++ [kind, tag] ++ body

theorem checkedRun_length (kind tag : Byte) (body : List Byte) : (checkedRun kind tag body).length = body.length + 3 := by
  simp only [checkedRun, List.length_append, u8Bytes_length, List.length_cons, List.length_nil]; omega

theorem frameBytes_eq (kind tag : Byte) (body : List Byte) :
    frameBytes kind tag body = (0xC5 :: checkedRun kind tag body) ++ u16Bytes (crc (checkedRun kind tag body)).toNat := rfl

theorem frameBytes_length (kind tag : Byte) (body : List Byte) : (frameBytes kind tag body).length = body.length + 6 := by
  simp [frameBytes_eq, checkedRun_length]

theorem byteAt_frameBytes_length {body : List Byte} (h : body.length ≤ 248) (kind tag : Byte) :
    byteAt (frameBytes kind tag body) 1 = body.length + 2 := by
  have hbyte : byteAt (frameBytes kind tag body) 1 = (body.length + 2) % 256 := by
    simp [byteAt, frameBytes_eq, checkedRun, u8Bytes]
  omega

theorem isFrame_frameBytes {body : List Byte} (hlow : 1 ≤ body.length) (hhigh : body.length ≤ 248) (kind tag : Byte) :
    isFrame (frameBytes kind tag body) = true := by
  have hstart : byteAt (frameBytes kind tag body) 0 = 0xC5 := rfl
  simp only [isFrame, hstart, byteAt_frameBytes_length hhigh, frameBytes_length, Bool.and_eq_true, decide_eq_true_eq,
    true_and, and_true]
  omega

/-- The check value stands behind the bytes that it covers. -/
theorem frameCheckMatches_frameBytes {body : List Byte} (h : body.length ≤ 248) (kind tag : Byte) :
    frameCheckMatches (frameBytes kind tag body) = true := by
  have hrun : ((frameBytes kind tag body).drop 1).take (body.length + 2 + 1) = checkedRun kind tag body := by
    rw [frameBytes_eq, List.cons_append, List.drop_one, List.tail_cons, List.take_left' (checkedRun_length kind tag body)]
  have hcheck : u16At (frameBytes kind tag body) (body.length + 2 + 2) = (crc (checkedRun kind tag body)).toNat := by
    have hread := u16At_u16Bytes (0xC5 :: checkedRun kind tag body) (crc (checkedRun kind tag body)).toNat (BitVec.isLt _)
    rwa [List.length_cons, checkedRun_length] at hread
  simp only [frameCheckMatches, byteAt_frameBytes_length h, hrun, hcheck, decide_true]

theorem frameOrder_frameBytes {body : List Byte} (h : body.length ≤ 248) (kind tag : Byte) :
    frameOrder (frameBytes kind tag body) = { kind := kind, tag := tag, body := body } := by
  have hbody : ((frameBytes kind tag body).drop 4).take (body.length + 2 - 2) = body := List.take_left' rfl
  rw [frameOrder, byteAt_frameBytes_length h, hbody]
  rfl

/-- A frame of a body that a frame has room for reads back as what it was written from (R151, R173). -/
theorem frameBytes_readsBack {body : List Byte} (hlow : 1 ≤ body.length) (hhigh : body.length ≤ 248) (kind tag : Byte) :
    isFrame (frameBytes kind tag body) = true ∧ frameCheckMatches (frameBytes kind tag body) = true
      ∧ frameOrder (frameBytes kind tag body) = { kind := kind, tag := tag, body := body } :=
  ⟨isFrame_frameBytes hlow hhigh kind tag, frameCheckMatches_frameBytes hhigh kind tag, frameOrder_frameBytes hhigh kind tag⟩

/-! ## The lengths of the fields of a body (spec 11 1.01) -/

@[simp] theorem u32Bytes_length (n : Nat) : (u32Bytes n).length = 4 := rfl

@[simp] theorem bandBytes_length (b : BandNo) : (bandBytes b).length = 5 := rfl

@[simp] theorem secondField_length (x : Option Nat) : (secondField x).length = 4 := rfl

@[simp] theorem bandField_length (b : Option BandNo) : (bandField b).length = 5 := rfl

@[simp] theorem boolByte_length (b : Bool) : (boolByte b).length = 1 := rfl

@[simp] theorem flagsByte_length (l : List Bool) : (flagsByte l).length = 1 := rfl

@[simp] theorem s16Bytes_length (n : Int) : (s16Bytes n).length = 2 := rfl

@[simp] theorem lockerSlot_length (l : List Nat) (i : Nat) : (lockerSlot l i).length = 2 := rfl

@[simp] theorem linkBytes_length (l : Option CabinLink) : (linkBytes l).length = 3 := by
  unfold linkBytes; split <;> rfl

@[simp] theorem quoteBytes_length (q : Option Quote) : (quoteBytes q).length = 7 := by
  unfold quoteBytes; split <;> rfl

@[simp] theorem presentationBytes_length (p : Option (Reader × Nat)) : (presentationBytes p).length = 6 := by
  unfold presentationBytes; split <;> rfl

theorem boolByte_eq (b : Bool) : boolByte b = [if b then 1#8 else 0#8] := by cases b <;> rfl

/-! ## The lengths of the bodies (spec 11 section 4) -/

theorem bandRecordBytes_length (r : BandRecord) (place : Option PartyPlace) : (bandRecordBytes r place).length = 50 := by
  simp [bandRecordBytes]

theorem lockerBytes_length (n : Nat) (l : Locker) : (lockerBytes n l).length = 18 := by simp [lockerBytes]

theorem cabinBytes_length (n : Nat) (c : Cabin) : (cabinBytes n c).length = 34 := by simp [cabinBytes]

theorem laneBytes_length (n : Nat) (e : Lane) (health : Option Health) : (laneBytes n e health).length = 34 := by
  simp [laneBytes]

theorem identityBytes_length (configured : Bool) (site live : Option Nat) (day : DayState) (valid : Bool) (speed : BitVec 2) :
    (identityBytes configured site live day valid speed).length = 14 := by simp [identityBytes]

theorem workingBytes_length (w : Working) : (workingBytes w).length = 26 := by simp [workingBytes]

theorem previewBytes_length (charge : Nat) (w : Working) : (previewBytes charge w).length = 30 := by
  simp [previewBytes, workingBytes_length]

theorem settlementDueBytes_length (b : BandNo) (lane amount expiry : Nat) (w : Working) :
    (settlementDueBytes b lane amount expiry w).length = 40 := by
  simp [settlementDueBytes, workingBytes_length]

/-- An owner's body leaves room for result code and flags. -/
theorem AnswerBody.bytes_length_le (b : AnswerBody) : b.bytes.length ≤ 246 := by
  unfold AnswerBody.bytes
  split
  case h_1 | h_2 => simp
  case h_3 => simp [bandRecordBytes_length]
  case h_4 => simp [lockerBytes_length]
  case h_5 => simp [cabinBytes_length]
  case h_6 => simp [laneBytes_length]
  case h_7 => simp [identityBytes_length]
  case h_8 =>
    rw [List.length_append, previewBytes_length, List.length_take, Config.maxBody]
    omega
  case h_9 => exact List.length_take_le _ _

/-- A notice's content leaves room for class, number, flags and second. -/
theorem NoticeContent.bytes_length_le (c : NoticeContent) : c.bytes.length ≤ 241 := by
  unfold NoticeContent.bytes
  split
  · simp [settlementDueBytes_length]
  · exact List.length_take_le _ _

/-! ## The frames of answers and notices (R174) -/

theorem Answer.header_eq (a : Answer) : a.header = [BitVec.ofNat 8 a.code.code, if a.clamped then 1#8 else 0#8] := by
  rw [Answer.header, boolByte_eq]
  rfl

theorem Notice.header_eq (n : Notice) (dropped : Bool) :
    n.header dropped
      = BitVec.ofNat 8 n.content.cls.code :: BitVec.ofNat 8 n.content.number :: (if dropped then 1#8 else 0#8)
        :: u32Bytes n.second := by
  rw [Notice.header, boolByte_eq]
  rfl

/-- Settles O12: every body of an answer and of a notice is of a length that a frame has room for. -/
theorem framesReadBack : Obligations.FramesReadBack := by
  refine ⟨fun kind tag body hlow hhigh => frameBytes_readsBack hlow hhigh kind tag, fun a => ?answer, fun n dropped => ?notice⟩
  case answer =>
    have hroom := a.body.bytes_length_le
    rw [Answer.frame, Answer.header_eq]
    exact frameBytes_readsBack (by simp) (by simp; omega) answerKind a.tag
  case notice =>
    have hroom := n.content.bytes_length_le
    rw [Notice.frame, Notice.header_eq]
    exact frameBytes_readsBack (by simp) (by simp; omega) noticeKind noticeTag

end Sys2Proof.Machine

/-! The transmitter and the notice queue (R155, R156): what is chosen, what an offered notice leaves, and what a notice raised
sets. -/
namespace Sys2Proof.Machine

/-! ## The transmitter's choice (R155) -/

section
variable {l : LinkController}

theorem LinkController.choose_answer (h : l.answers ≠ []) : l.choose = { l with tx := .answer } := by
  obtain ⟨a, rest, ha⟩ := List.exists_cons_of_ne_nil h
  simp [LinkController.choose, ha]

theorem LinkController.choose_nothing (ha : l.answers = []) (h : l.hold = true ∨ l.notices = []) :
    l.choose = { l with tx := .idle } := by
  rcases h with h | h <;> simp [LinkController.choose, ha, h]

theorem LinkController.choose_notice {n : Notice} {rest : List Notice} (ha : l.answers = []) (hh : l.hold = false)
    (hn : l.notices = n :: rest) : l.choose = { l with tx := .notice n l.dropped, notices := rest, dropped := false } := by
  simp [LinkController.choose, ha, hh, hn]

theorem LinkController.start_of_idle (h : l.tx = .idle) : l.start = l.choose := if_pos h

theorem LinkController.start_of_sending (h : l.tx ≠ .idle) : l.start = l := if_neg h

end

/-! ## The end of a frame (R155) -/

section
variable {l : LinkController}

theorem LinkController.phaseAfterSend_of_answers {a : Answer} {rest : List Answer} (h : l.answers = a :: rest) :
    l.phaseAfterSend = if l.resetPhase = .answering ∧ a.body = .reset then .due else l.resetPhase := by
  simp [LinkController.phaseAfterSend, h]

theorem LinkController.endSend_answer (h : l.tx = .answer) :
    l.endSend = { l with resetPhase := l.phaseAfterSend, answers := l.answers.tail }.choose := by
  simp [LinkController.endSend, h]

theorem LinkController.endSend_notice (hsending : l.tx ≠ .idle) (h : l.tx ≠ .answer) : l.endSend = l.choose := by
  unfold LinkController.endSend
  split
  · next hidle => exact absurd hidle hsending
  · next hanswer => exact absurd hanswer h
  · rfl

/-- The end of the last frame that no answer follows: the choice is between the oldest notice and nothing. -/
theorem LinkController.endSend_answered (hsending : l.tx ≠ .idle) (hlast : l.tx = .answer → l.answers.length = 1)
    (hnone : l.tx ≠ .answer → l.answers = []) :
    ∃ phase, l.endSend = { l with resetPhase := phase, answers := [] }.choose := by
  by_cases htx : l.tx = .answer
  · have hempty : l.answers.tail = [] := by rw [← List.length_eq_zero_iff, List.length_tail, hlast htx]
    exact ⟨l.phaseAfterSend, by rw [LinkController.endSend_answer htx, hempty]⟩
  · exact ⟨l.resetPhase, by rw [LinkController.endSend_notice hsending htx, ← hnone htx]⟩

end

/-- Settles O18. -/
theorem transmitterChooses : Obligations.TransmitterChooses := by
  intro s
  refine ⟨fun a rest htx ha => ?answer, fun hsending hlast hnone => ?last, fun n d htx ha => ?notice, rfl,
    fun n rest htx ha hn => ?negated, fun htx => ?sending⟩
  case answer =>
    refine ⟨_, rfl, by simp [keepsAllBut_iff], ?_⟩
    dsimp only
    rw [LinkController.endSend_answer htx, LinkController.phaseAfterSend_of_answers ha, ha, List.tail_cons]
    exact ⟨LinkController.choose_answers _, LinkController.choose_resetPhase _, fun h => by
      rw [LinkController.choose_answer (l := { s.lkc with resetPhase := _, answers := rest }) h]
      exact ⟨rfl, rfl⟩⟩
  case last =>
    obtain ⟨phase, hend⟩ := LinkController.endSend_answered hsending hlast hnone
    refine ⟨_, rfl, by simp [keepsAllBut_iff], ?_⟩
    dsimp only
    rw [hend]
    refine ⟨LinkController.choose_answers _, fun h => ?_, fun n rest hh hn => ?_⟩
    · rw [LinkController.choose_nothing (l := { s.lkc with resetPhase := phase, answers := [] }) rfl h]
      exact ⟨rfl, rfl⟩
    · rw [LinkController.choose_notice (l := { s.lkc with resetPhase := phase, answers := [] }) rfl hh hn]
      exact ⟨rfl, rfl, rfl⟩
  case notice =>
    have hend : s.lkc.endSend = { s.lkc with tx := .answer } := by
      rw [LinkController.endSend_notice (by simp [htx]) (by simp [htx]), LinkController.choose_answer ha]
    simp only [exec, execTransmissionEnd, hend]
  case negated =>
    have hstart : { s.lkc with hold := false }.start
        = { s.lkc with hold := false, tx := .notice n s.lkc.dropped, notices := rest, dropped := false } :=
      (LinkController.start_of_idle (l := { s.lkc with hold := false }) htx).trans (LinkController.choose_notice ha rfl hn)
    simp only [exec, execNoticeHoldNegated, hstart]
  case sending =>
    have hstart : { s.lkc with hold := false }.start = { s.lkc with hold := false } := LinkController.start_of_sending htx
    simp only [exec, execNoticeHoldNegated, hstart]

/-! ## A notice offered and a notice raised (R156) -/

section
variable {l : LinkController} {n : Notice}

theorem LinkController.offer_full (h : 32 ≤ l.notices.length) : l.offer n = { l with dropped := true } :=
  if_neg (by simpa [Config.maxNotices] using h)

theorem LinkController.offer_waits (h : l.notices.length < 32) (htx : l.tx ≠ .idle) :
    l.offer n = { l with notices := l.notices ++ [n] } :=
  (if_pos h).trans (LinkController.start_of_sending htx)

/-- What waits after an offer waited before it, or is the notice offered. -/
theorem LinkController.offer_notices_sublist : (l.offer n).notices.Sublist (l.notices ++ [n]) := by
  unfold LinkController.offer
  split
  · rcases LinkController.start_notices { l with notices := l.notices ++ [n] } with h | h <;> rw [h]
    exact List.tail_sublist _
  · exact List.sublist_append_left _ _

end

theorem raiseNotice_disabled {c : NoticeContent} {s : State} (h : s.cnu.mask.getLsbD c.cls.code = false) :
    (raiseNotice c s).lkc = s.lkc := by
  simp [raiseNotice, Conditions.enabled, h]

theorem raiseNotice_enabled {c : NoticeContent} {s : State} (h : s.cnu.mask.getLsbD c.cls.code = true) :
    (raiseNotice c s).lkc = s.lkc.offer { content := c, second := s.now } := by
  simp [raiseNotice, Conditions.enabled, h]

/-- Settles O19. -/
theorem noticeRaised : Obligations.NoticeRaised := fun c s =>
  ⟨rfl, by simp [keepsAllBut_iff], raiseNotice_disabled,
    fun h hfull => (raiseNotice_enabled h).trans (LinkController.offer_full hfull),
    fun h hroom htx => (raiseNotice_enabled h).trans (LinkController.offer_waits hroom htx)⟩

end Sys2Proof.Machine

/-! The receiving side of the link (R151 to R153, R157): a frame taken, a discard reported under the Link class, and what a
line break leaves of the link controller and the conditions. -/
namespace Sys2Proof.Machine

/-! ## A frame taken (R151, R153) -/

section
variable {bytes : List Byte} {s : State}

theorem exec_frameReceived (hmark : s.lkc.framer ≠ .awaitingMark) (hframe : isFrame bytes = true) :
    exec (.frameReceived bytes) s = .next (takeFrame bytes s) := by
  simp [exec, execFrameReceived, hmark, hframe]

theorem takeFrame_arrives (h : frameCheckMatches bytes = true) :
    takeFrame bytes s = arrive (frameOrder bytes) (setFramer .hunting s) := if_pos h

theorem takeFrame_discarded (h : frameCheckMatches bytes = false) :
    takeFrame bytes s = reportDiscard .check (setFramer .hunting s) := if_neg (by simp [h])

theorem arrive_buffered {o : OrderFrame} (h : s.lkc.orders.length < 4) : arrive o s = appendOrder o s := if_pos h

theorem arrive_overrun {o : OrderFrame} (hfull : 4 ≤ s.lkc.orders.length) (hroom : s.lkc.placesUsed < 8) :
    arrive o s = placeAnswer (plainAnswer o.tag .overrun) s :=
  (if_neg (Nat.not_lt.mpr hfull)).trans (if_pos hroom)

theorem arrive_noPlace {o : OrderFrame} (hfull : 4 ≤ s.lkc.orders.length) (hplaces : 8 ≤ s.lkc.placesUsed) :
    arrive o s = reportDiscard .noPlace s :=
  (if_neg (Nat.not_lt.mpr hfull)).trans (if_neg (Nat.not_lt.mpr hplaces))

theorem exec_frameReceived_check (hmark : s.lkc.framer ≠ .awaitingMark) (hframe : isFrame bytes = true)
    (hcheck : frameCheckMatches bytes = false) :
    exec (.frameReceived bytes) s = .next (reportDiscard .check (setFramer .hunting s)) := by
  rw [exec_frameReceived hmark hframe, takeFrame_discarded hcheck]

theorem exec_frameReceived_noPlace (hmark : s.lkc.framer ≠ .awaitingMark) (hframe : isFrame bytes = true)
    (hcheck : frameCheckMatches bytes = true) (hfull : 4 ≤ s.lkc.orders.length) (hplaces : 8 ≤ s.lkc.placesUsed) :
    exec (.frameReceived bytes) s = .next (reportDiscard .noPlace (setFramer .hunting s)) := by
  rw [exec_frameReceived hmark hframe, takeFrame_arrives hcheck, arrive_noPlace (s := setFramer .hunting s) hfull hplaces]

end

/-- Settles O14. -/
theorem frameReceivedTaken : Obligations.FrameReceivedTaken := by
  refine fun bytes s hmark hframe => ⟨fun hcheck hroom => ?buffered, fun hcheck hfull hroom => ?overrun,
    exec_frameReceived_noPlace hmark hframe, exec_frameReceived_check hmark hframe⟩
  case buffered =>
    rw [exec_frameReceived hmark hframe, takeFrame_arrives hcheck, arrive_buffered (s := setFramer .hunting s) hroom]
    rfl
  case overrun =>
    rw [exec_frameReceived hmark hframe, takeFrame_arrives hcheck, arrive_overrun (s := setFramer .hunting s) hfull hroom]

/-! ## A frame ended early (R151) -/

theorem endFrame_inFrame {s : State} (h : s.lkc.framer = .inFrame) (cause : DiscardCause) :
    endFrame cause s = reportDiscard cause (setFramer .hunting s) := if_pos h

theorem endFrame_hunting {s : State} (h : s.lkc.framer = .hunting) (cause : DiscardCause) : endFrame cause s = s :=
  if_neg (by simp [h])

theorem exec_frameLengthOutOfRange {n : Byte} (h : n.toNat < 3 ∨ 250 < n.toNat) (s : State) :
    exec (.frameLengthOutOfRange n) s = .next (endFrame .length s) := by
  have hout : ¬(3 ≤ n.toNat ∧ n.toNat ≤ 250) := by omega
  simp [exec, execFrameLengthOutOfRange, hout]

theorem exec_frameLengthOutOfRange_hunting {s : State} (h : s.lkc.framer = .hunting) (n : Byte) :
    exec (.frameLengthOutOfRange n) s = .next s := by
  simp [exec, execFrameLengthOutOfRange, endFrame_hunting h]

/-! ## A discard reported (R157) -/

theorem reportDiscard_counted {s : State} (h : ∃ n ∈ s.lkc.notices, n.isLink = true) (cause : DiscardCause) :
    reportDiscard cause s
      = { s with cnu := s.cnu.latch .link, lkc := { s.lkc with notices := s.lkc.notices.map Notice.countDiscard } } :=
  if_pos (List.any_eq_true.mpr h)

theorem reportDiscard_raised {s : State} (h : ∀ n ∈ s.lkc.notices, n.isLink = false) (cause : DiscardCause) :
    reportDiscard cause s = raiseNotice (.link cause s.now 1) s :=
  if_neg (by simpa using h)

theorem linkNotice_waits_or_not (s : State) :
    (∃ n ∈ s.lkc.notices, n.isLink = true) ∨ ∀ n ∈ s.lkc.notices, n.isLink = false := by
  by_cases h : ∃ n ∈ s.lkc.notices, n.isLink = true
  · exact .inl h
  · exact .inr (by simpa using h)

theorem reportDiscard_cnu (cause : DiscardCause) (s : State) : (reportDiscard cause s).cnu = s.cnu.latch .link := by
  rcases linkNotice_waits_or_not s with h | h
  · rw [reportDiscard_counted h]
  · rw [reportDiscard_raised h]
    rfl

@[simp] theorem Notice.countDiscard_isLink (n : Notice) : n.countDiscard.isLink = n.isLink := by
  unfold Notice.countDiscard
  split
  · next h => simp [Notice.isLink, h, NoticeContent.cls]
  · rfl

/-- The Link notices of a queue are no more than those of a queue that it is part of. -/
theorem linkNotices_le_of_sublist {l l' : List Notice} (h : l.Sublist l') :
    (l.filter Notice.isLink).length ≤ (l'.filter Notice.isLink).length := (h.filter _).length_le

theorem countDiscard_linkNotices (l : List Notice) :
    ((l.map Notice.countDiscard).filter Notice.isLink).length = (l.filter Notice.isLink).length := by
  rw [List.filter_map, List.length_map]
  exact congrArg (fun p => (l.filter p).length) (funext Notice.countDiscard_isLink)

/-- A raised notice adds itself at most, so that a Link notice raised where none waited is the one that waits. -/
theorem raiseNotice_notices_sublist (c : NoticeContent) (s : State) :
    (raiseNotice c s).lkc.notices.Sublist (s.lkc.notices ++ [{ content := c, second := s.now }]) := by
  cases h : s.cnu.mask.getLsbD c.cls.code with
  | true =>
    rw [raiseNotice_enabled h]
    exact LinkController.offer_notices_sublist
  | false =>
    rw [raiseNotice_disabled h]
    exact List.sublist_append_left _ _

theorem reportDiscard_linkNotices {s : State} (h : (s.lkc.notices.filter Notice.isLink).length ≤ 1) (cause : DiscardCause) :
    ((reportDiscard cause s).lkc.notices.filter Notice.isLink).length ≤ 1 := by
  rcases linkNotice_waits_or_not s with hwaits | hnone
  · rw [reportDiscard_counted hwaits]
    exact (countDiscard_linkNotices _).trans_le h
  · have hempty : s.lkc.notices.filter Notice.isLink = [] := List.filter_eq_nil_iff.mpr (by simpa using hnone)
    rw [reportDiscard_raised hnone]
    refine (linkNotices_le_of_sublist (raiseNotice_notices_sublist _ s)).trans ?_
    rw [List.filter_append, hempty, List.nil_append]
    exact List.length_filter_le _ _

/-! ## The link reset (R152) -/

theorem LinkController.choose_framer (l : LinkController) : l.choose.framer = l.framer := by
  unfold LinkController.choose
  (repeat' split) <;> rfl

@[simp] theorem LinkController.start_framer (l : LinkController) : l.start.framer = l.framer := by
  unfold LinkController.start
  split
  · exact l.choose_framer
  · rfl

theorem LinkController.offer_framer (l : LinkController) (n : Notice) : (l.offer n).framer = l.framer := by
  unfold LinkController.offer
  split <;> simp

/-- With no answer placed the transmitter does not take up one (R155). -/
theorem LinkController.start_tx {l : LinkController} (ha : l.answers = []) (htx : l.tx ≠ .answer) : l.start.tx ≠ .answer := by
  unfold LinkController.start LinkController.choose
  (repeat' split) <;> simp_all

theorem LinkController.offer_tx {l : LinkController} (n : Notice) (ha : l.answers = []) (htx : l.tx ≠ .answer) :
    (l.offer n).tx ≠ .answer := by
  unfold LinkController.offer
  split
  · exact LinkController.start_tx ha htx
  · exact htx

theorem LinkController.cutOff_answers (l : LinkController) : l.cutOff.answers = [] := LinkController.start_answers _

theorem LinkController.cutOff_tx (l : LinkController) : l.cutOff.tx ≠ .answer :=
  LinkController.start_tx rfl (by dsimp only; split <;> simp_all)

theorem LinkController.cutOff_notices_sublist (l : LinkController) : l.cutOff.notices.Sublist l.notices := by
  unfold LinkController.cutOff
  rcases LinkController.start_notices
    { l with orders := [], answers := [], watches := [], tx := if l.tx = Transmitter.answer then .idle else l.tx } with h | h
    <;> rw [h]
  exact List.tail_sublist _

/-- The link reset emptied the link controller or offered it its DayEvent notice besides (R152 (b) to (f)). -/
theorem linkReset_lkc (s : State) :
    (linkReset s).lkc = s.lkc.cutOff
      ∨ (linkReset s).lkc = s.lkc.cutOff.offer { content := .dayEvent .linkReset, second := s.now } := by
  cases h : s.cnu.mask.getLsbD 6 with
  | true => exact .inr (raiseNotice_enabled (s := { s with lkc := s.lkc.cutOff }) h)
  | false => exact .inl (raiseNotice_disabled (s := { s with lkc := s.lkc.cutOff }) h)

theorem linkReset_framer (s : State) : (linkReset s).lkc.framer = s.lkc.framer := by
  have hcut : s.lkc.cutOff.framer = s.lkc.framer := LinkController.start_framer _
  rcases linkReset_lkc s with h | h <;> rw [h]
  · exact hcut
  · rw [LinkController.offer_framer, hcut]

theorem linkReset_resetPhase (s : State) : (linkReset s).lkc.resetPhase = s.lkc.resetPhase := by
  have hcut : s.lkc.cutOff.resetPhase = s.lkc.resetPhase := LinkController.start_resetPhase _
  rcases linkReset_lkc s with h | h <;> rw [h]
  · exact hcut
  · rw [LinkController.offer_resetPhase, hcut]

theorem linkReset_tx (s : State) : (linkReset s).lkc.tx ≠ .answer := by
  rcases linkReset_lkc s with h | h <;> rw [h]
  · exact s.lkc.cutOff_tx
  · exact LinkController.offer_tx _ s.lkc.cutOff_answers s.lkc.cutOff_tx

/-- The DayEvent notice of a link reset is no Link notice. -/
theorem linkReset_linkNotices (s : State) :
    ((linkReset s).lkc.notices.filter Notice.isLink).length ≤ (s.lkc.notices.filter Notice.isLink).length := by
  have hcut := linkNotices_le_of_sublist s.lkc.cutOff_notices_sublist
  refine (linkNotices_le_of_sublist (raiseNotice_notices_sublist _ { s with lkc := s.lkc.cutOff })).trans ?_
  rw [List.filter_append, List.length_append]
  exact hcut

/-! ## The warm reset and the link (R152, R172) -/

/-- The owners' part of a warm reset leaves the emptied link controller and the conditions alone. -/
theorem warmReset_link_cnu (s : State) :
    (warmReset s).lkc = { (linkReset s).lkc with resetPhase := .none } ∧ (warmReset s).cnu = (linkReset s).cnu := by
  cases h : s.configured with
  | true =>
    obtain ⟨hlkc, hcnu, -, -⟩ := warmReset_warmKept s h
    exact ⟨hlkc, hcnu⟩
  | false =>
    have hconf : (linkReset s).configured = false := h
    have howners : warmOwners (linkReset s) = linkReset s := if_neg (by simp [hconf])
    rw [warmReset, howners]
    exact ⟨rfl, rfl⟩

theorem Conditions.latch_latch (c : Conditions) (k : NoticeClass) : (c.latch k).latch k = c.latch k := by
  simp [Conditions.latch, BitVec.or_assoc]

/-! ## A line break (R152) -/

/-- What a line break leaves of the link controller: emptied, waiting for mark, with no answer under way, and no Link notice
more than before. -/
structure LinkController.Broken (l l' : LinkController) : Prop where
  framer : l'.framer = .awaitingMark
  orders : l'.orders = []
  answers : l'.answers = []
  watches : l'.watches = []
  tx : l'.tx ≠ .answer
  linkNotices : (l'.notices.filter Notice.isLink).length ≤ (l.notices.filter Notice.isLink).length

theorem linkReset_broken {s : State} (h : s.lkc.framer = .awaitingMark) : s.lkc.Broken (linkReset s).lkc := by
  obtain ⟨horders, hanswers, hwatches⟩ := linkReset_queues s
  exact ⟨(linkReset_framer s).trans h, horders, hanswers, hwatches, linkReset_tx s, linkReset_linkNotices s⟩

theorem warmReset_broken {s : State} (h : s.lkc.framer = .awaitingMark) : s.lkc.Broken (warmReset s).lkc := by
  obtain ⟨framer, orders, answers, watches, tx, linkNotices⟩ := linkReset_broken h
  rw [(warmReset_link_cnu s).1]
  exact ⟨framer, orders, answers, watches, tx, linkNotices⟩

theorem takeBreak_of_answering {s : State} (h : s.lkc.resetPhase = .answering) :
    takeBreak s = warmReset (linkReset (setFramer .awaitingMark s)) := if_pos h

theorem takeBreak_of_not_answering {s : State} (h : s.lkc.resetPhase ≠ .answering) :
    takeBreak s = linkReset (setFramer .awaitingMark s) := if_neg h

theorem takeBreak_broken (s : State) : s.lkc.Broken (takeBreak s).lkc := by
  have hreset : s.lkc.Broken (linkReset (setFramer .awaitingMark s)).lkc := by
    obtain ⟨framer, orders, answers, watches, tx, linkNotices⟩ := linkReset_broken (s := setFramer .awaitingMark s) rfl
    exact ⟨framer, orders, answers, watches, tx, linkNotices⟩
  by_cases h : s.lkc.resetPhase = .answering
  · rw [takeBreak_of_answering h]
    obtain ⟨framer, orders, answers, watches, tx, linkNotices⟩ := warmReset_broken hreset.framer
    exact ⟨framer, orders, answers, watches, tx, linkNotices.trans hreset.linkNotices⟩
  · rw [takeBreak_of_not_answering h]
    exact hreset

theorem takeBreak_cnu (s : State) : (takeBreak s).cnu = s.cnu.latch .dayEvent := by
  by_cases h : s.lkc.resetPhase = .answering
  · rw [takeBreak_of_answering h, (warmReset_link_cnu _).2]
    exact s.cnu.latch_latch .dayEvent
  · rw [takeBreak_of_not_answering h]
    rfl

theorem exec_lineBreak_taken {s : State} (h : s.lkc.framer ≠ .awaitingMark) : exec .lineBreak s = .next (takeBreak s) :=
  congrArg Host.Outcome.next (if_neg h)

theorem exec_lineBreak_lasting {s : State} (h : s.lkc.framer = .awaitingMark) : exec .lineBreak s = .next s :=
  congrArg Host.Outcome.next (if_pos h)

/-- A break and its condition: DayEvent latched, or nothing where the break lasts on. -/
theorem exec_lineBreak_cnu_linkNotices (s : State) :
    ∃ t, exec .lineBreak s = .next t ∧ (t.cnu = s.cnu.latch .dayEvent ∨ t.cnu = s.cnu)
      ∧ (t.lkc.notices.filter Notice.isLink).length ≤ (s.lkc.notices.filter Notice.isLink).length := by
  by_cases h : s.lkc.framer = .awaitingMark
  · exact ⟨s, exec_lineBreak_lasting h, .inr rfl, le_rfl⟩
  · exact ⟨takeBreak s, exec_lineBreak_taken h, .inl (takeBreak_cnu s), (takeBreak_broken s).linkNotices⟩

/-! ## The two statements of the line -/

/-- Settles O15: a discard is counted or raised as a Link notice waits or not, and every end of a frame reports one. -/
theorem discardReportedUnderLink : Obligations.DiscardReportedUnderLink := by
  refine ⟨fun cause s => ?report, fun c x k second => rfl, fun l n rest ha hh hn => ?begun,
    fun bytes s hmark hframe => ⟨exec_frameReceived_check hmark hframe, exec_frameReceived_noPlace hmark hframe⟩,
    fun s => ⟨fun h => ?inFrame, fun h => ?hunting⟩, fun s => ?lineBreak⟩
  case report =>
    refine ⟨by rw [reportDiscard_cnu]; rfl, by simp [keepsAllBut_iff], fun h => by rw [reportDiscard_counted h],
      fun hnone hon => ?_, fun hnone hoff => ?_, fun h => reportDiscard_linkNotices h cause⟩
    · have hoffered : (reportDiscard cause s).lkc = s.lkc.offer { content := .link cause s.now 1, second := s.now } := by
        rw [reportDiscard_raised hnone, raiseNotice_enabled hon]
      exact ⟨hoffered, fun hfull => hoffered.trans (LinkController.offer_full hfull),
        fun hroom htx => by rw [hoffered, LinkController.offer_waits hroom htx]⟩
    · rw [reportDiscard_raised hnone, raiseNotice_disabled hoff]
  case begun =>
    rw [LinkController.choose_notice ha hh hn]
    exact ⟨rfl, rfl⟩
  case inFrame =>
    exact ⟨fun n hn => by rw [exec_frameLengthOutOfRange hn, endFrame_inFrame h],
      congrArg Host.Outcome.next (endFrame_inFrame h _), congrArg Host.Outcome.next (endFrame_inFrame h _)⟩
  case hunting =>
    exact ⟨exec_frameLengthOutOfRange_hunting h, congrArg Host.Outcome.next (endFrame_hunting h _),
      congrArg Host.Outcome.next (endFrame_hunting h _)⟩
  case lineBreak =>
    obtain ⟨t, ht, hcnu, hnotices⟩ := exec_lineBreak_cnu_linkNotices s
    refine ⟨t, ht, ?_, hnotices⟩
    rcases hcnu with hcnu | hcnu <;> rw [hcnu]
    simp [NoticeClass.code]

/-- Settles O16. -/
theorem lineFollowedAndBreakResets : Obligations.LineFollowedAndBreakResets := by
  refine ⟨fun s => ⟨fun h => congrArg Host.Outcome.next (if_pos h), fun h => congrArg Host.Outcome.next (if_pos h)⟩,
    fun s => ⟨fun hmark => ?taken, exec_lineBreak_lasting⟩⟩
  case taken =>
    have hbroken := takeBreak_broken s
    refine ⟨takeBreak s, exec_lineBreak_taken hmark, hbroken.framer, hbroken.orders, hbroken.answers, hbroken.watches,
      hbroken.tx, ?_, ?_, fun h => ?_, fun h => ?_⟩
    · simp [takeBreak_cnu, NoticeClass.code]
    · simp [takeBreak_cnu]
    · rw [takeBreak_of_not_answering h]
      exact ⟨by simp [keepsAllBut_iff], linkReset_resetPhase _⟩
    · refine ⟨?_, by simp [keepsAllBut_iff]⟩
      rw [takeBreak_of_answering h, (warmReset_link_cnu _).1]

end Sys2Proof.Machine

/-! The dispatch of an order (R153, R154): dispatched, refused or held; and the orders on the conditions and the notice mask
(R158, R159). -/
namespace Sys2Proof.Machine

/-! ## An order dispatched or held (R154) -/

section
variable {o : OrderFrame} {act : State → State} {s : State}

theorem canDispatch_iff (s : State) : canDispatch s = true ↔ s.lkc.placesUsed < 8 ∧ s.lkc.resetPhase = .none := by
  rw [canDispatch, Bool.and_eq_true, decide_eq_true_eq, decide_eq_true_eq, Config.answerPlaces]

theorem popOrder_of_empty (h : s.lkc.orders = []) : popOrder s = s := by
  have hlkc : { s.lkc with orders := s.lkc.orders.tail } = s.lkc := by rw [h, List.tail_nil, ← h]
  rw [popOrder, hlkc]

/-- An order from the head of the buffer, or from an empty buffer, is acted on in the state that it has left. -/
theorem dispatchOrder_dispatched (h : Dispatched o s) : dispatchOrder o act s = act (popOrder s) := by
  obtain ⟨hhead, hplaces, hphase⟩ := h
  have hcan : canDispatch s = true := (canDispatch_iff s).mpr ⟨hplaces, hphase⟩
  unfold dispatchOrder
  rcases hhead with hempty | hhead
  · rw [if_neg (by simp [hempty]), if_pos hempty, if_pos hcan, popOrder_of_empty hempty]
  · rw [if_pos hhead, if_pos hcan]

theorem dispatchOrder_held (hhead : s.lkc.orders.head? = some o) (h : 8 ≤ s.lkc.placesUsed ∨ s.lkc.resetPhase ≠ .none) :
    dispatchOrder o act s = s := by
  have hcan : ¬canDispatch s = true := fun hcan => by
    obtain ⟨hplaces, hphase⟩ := (canDispatch_iff s).mp hcan
    rcases h with h | h
    · omega
    · exact h hphase
  rw [dispatchOrder, if_pos hhead, if_neg hcan]

end

section
variable {k : OrderKind} {tag : Byte} {body : List Byte} {owner : State → Owned} {s : State}

/-- A body whose length is not the order's is refused before its owner sees it (R154 (b)). -/
theorem runOrder_malformed (h : Dispatched (orderFrame k tag body) s) (hlen : k.bodyLengthOk body.length = false) :
    runOrder k tag body owner s = placeAnswer (plainAnswer tag .malformed) (popOrder s) :=
  (dispatchOrder_dispatched h).trans (if_neg (by simp [hlen]))

/-- In the Unconfigured part state an order that is not taken there is refused (R154 (c)). -/
theorem runOrder_notReady (h : Dispatched (orderFrame k tag body) s) (hlen : k.bodyLengthOk body.length = true)
    (hconf : s.configured = false) (hk : k.takenUnconfigured = false) :
    runOrder k tag body owner s = placeAnswer (plainAnswer tag .notReady) (popOrder s) := by
  have hconf : (popOrder s).configured = false := hconf
  exact (dispatchOrder_dispatched h).trans ((if_pos hlen).trans (if_neg (by simp [hconf, hk])))

theorem runOrder_held (hhead : s.lkc.orders.head? = some (orderFrame k tag body))
    (h : 8 ≤ s.lkc.placesUsed ∨ s.lkc.resetPhase ≠ .none) : runOrder k tag body owner s = s :=
  dispatchOrder_held hhead h

end

/-! ## The command of an order -/

theorem directionWf_false {body : List Byte} {length offset other : Nat} (h : body.length = length)
    (hd : byteAt body offset = other) : Instr.directionWf body length offset other = false := by
  simp [Instr.directionWf, h, hd]

/-- The command of an order runs the order, or does nothing, where it is an order of the length given with the direction that is
the other row's (log entry 27). -/
theorem exec_of_orderFields {i : Instr} {k : OrderKind} {tag : Byte} {body : List Byte} (h : orderFields i = some (k, tag, body))
    (s : State) : (∃ owner, exec i s = .next (runOrder k tag body owner s))
      ∨ exec i s = .next s ∧ k.bodyLengthOk body.length = true ∧ i.wf = false := by
  cases i
  all_goals simp only [orderFields, Option.some.injEq, Prod.mk.injEq, reduceCtorEq] at h
  all_goals obtain ⟨rfl, rfl, rfl⟩ := h
  case lockerServiceOut | lockerServiceIn | cabinServiceOut | cabinServiceIn =>
    simp only [exec, execLockerServiceOut, execLockerServiceIn, execCabinServiceOut, execCabinServiceIn]
    split
    · next hother =>
      rw [Bool.and_eq_true, decide_eq_true_eq, decide_eq_true_eq] at hother
      obtain ⟨hlen, hd⟩ := hother
      exact .inr ⟨rfl, by simp [OrderKind.bodyLengthOk, hlen], by simp [Instr.wf, directionWf_false hlen hd]⟩
    · exact .inl ⟨_, rfl⟩
  all_goals exact .inl ⟨_, rfl⟩

/-- Settles O20: every order's command runs its order, which is dispatched and refused, or held. -/
theorem ordersRefusedOrHeldAtDispatch : Obligations.OrdersRefusedOrHeldAtDispatch := by
  refine ⟨⟨fun kind tag body s hkind h => ?unknown, fun i k tag body s hi h hlen => ?malformed,
    fun i k tag body s hi hwf h hlen hconf hk => ?notReady⟩, fun i k tag body s hi hhead hheld => ?held⟩
  case unknown =>
    rw [exec, execUnknownOrder, if_neg (by simp [hkind]), dispatchOrder_dispatched h]
    rfl
  case malformed =>
    rcases exec_of_orderFields hi s with ⟨owner, hexec⟩ | ⟨-, hlen', -⟩
    · rw [hexec, runOrder_malformed h hlen]
    · exact absurd (hlen'.symm.trans hlen) nofun
  case notReady =>
    rcases exec_of_orderFields hi s with ⟨owner, hexec⟩ | ⟨-, -, hwf'⟩
    · rw [hexec, runOrder_notReady h hlen hconf hk]
    · exact absurd (hwf'.symm.trans hwf) nofun
  case held =>
    rcases exec_of_orderFields hi s with ⟨owner, hexec⟩ | ⟨hexec, -, -⟩
    · rw [hexec, runOrder_held hhead hheld]
    · exact hexec

/-! ## Conditions and notice mask (R156, R158, R159) -/

theorem setNoticeMask_written {mask : Nat} (s : State) (h : mask < 1024) :
    setNoticeMask mask s = done (.formerMask s.cnu.mask) { s with cnu := { s.cnu with mask := BitVec.ofNat 10 mask } } :=
  if_neg (Nat.not_le.mpr h)

theorem setNoticeMask_range {mask : Nat} (s : State) (h : 1024 ≤ mask) : setNoticeMask mask s = refused .range s := if_pos h

/-- An answer takes no notice from its queue, so that none is sent with the Dropped flag. -/
theorem LinkController.place_dropped (l : LinkController) (a : Answer) : (l.place a).dropped = l.dropped := by
  unfold LinkController.place LinkController.start LinkController.choose
  (repeat' split) <;> simp_all

/-- The condition of a DayEvent latched on or not: the mask is kept, and so is every bit that is set. -/
theorem kept_or_latched {c c' : Conditions} (h : c' = c.latch .dayEvent ∨ c' = c) : c'.mask = c.mask ∧ c.Within c' := by
  rcases h with h | h <;> subst h
  · exact ⟨rfl, (Conditions.Within.refl c).latch _⟩
  · exact ⟨rfl, .refl _⟩

theorem exec_warmReset_cnu (s : State) :
    ∃ t, exec .warmReset s = .next t ∧ (t.cnu = s.cnu.latch .dayEvent ∨ t.cnu = s.cnu) := by
  refine ⟨_, rfl, ?_⟩
  split
  · exact .inl (warmReset_link_cnu s).2
  · exact .inr rfl

theorem coldReset_cnu (straps : BitVec 2) (s : State) : (coldReset straps s).cnu = resetConditions := by
  unfold coldReset
  dsimp only
  split <;> rfl

/-- Settles O54. -/
theorem conditionsReadAndMasked : Obligations.ConditionsReadAndMasked := by
  refine ⟨fun tag body s ⟨_, h⟩ => next_runOrder_done h rfl, fun tag body s ⟨_, h⟩ => ⟨fun hm => ?written, fun hm => ?range⟩,
    fun a s => ⟨s.lkc.place_keeps_notices a, s.lkc.place_dropped a, rfl⟩,
    fun c s => ⟨rfl, raiseNotice_disabled, raiseNotice_enabled⟩, fun s => ?linkReset, fun s => ?warmReset,
    fun straps s => ⟨_, rfl, coldReset_cnu straps s⟩⟩
  case written => exact next_runOrder_done h (setNoticeMask_written (popOrder s) hm)
  case range => exact next_runOrder_refused h (setNoticeMask_range (popOrder s) hm)
  case linkReset =>
    obtain ⟨t, ht, hcnu, -⟩ := exec_lineBreak_cnu_linkNotices s
    obtain ⟨hmask, hbits⟩ := kept_or_latched hcnu
    exact ⟨t, ht, hmask, hbits⟩
  case warmReset =>
    obtain ⟨t, ht, hcnu⟩ := exec_warmReset_cnu s
    obtain ⟨hmask, hbits⟩ := kept_or_latched hcnu
    exact ⟨t, ht, hmask, hbits⟩

end Sys2Proof.Machine

/-! Watches (R160 to R162): opened, cancelled and expired by command, and met by a change of a locker, a cabin, a lane or a
station. -/
namespace Sys2Proof.Machine

/-! ## WATCH (R160) -/

section
variable {a : WatchArgs} {tag : Byte} {t : Target} {s : State}

/-- A watch asked for is met by the state as it stands where its set holds that state, or, by the other polarity, does not. -/
theorem WatchArgs.watch_meets (a : WatchArgs) (tag : Byte) (t : Target) (now code : Nat) :
    (a.watch tag t now).meets code = true ↔ a.states.contains code = decide (a.polarity = 0) := by
  simp [Watch.meets, WatchArgs.watch]

theorem watch_inUse (ht : targetOf a.kind a.number s = some t) (hrange : a.outOfRange t = false)
    (huse : s.lkc.watching tag = true) : watch tag a s = refused .inUse s := by
  simp [watch, ht, hrange, huse]

theorem watch_metAtOnce (ht : targetOf a.kind a.number s = some t) (hrange : a.outOfRange t = false)
    (huse : s.lkc.watching tag = false) (hmet : a.states.contains (targetCode t s) = decide (a.polarity = 0)) :
    watch tag a s = done .none s := by
  simp only [watch, ht, hrange, huse, (a.watch_meets tag t s.now _).mpr hmet, Bool.false_eq_true, if_false, if_true]

theorem watch_busy (ht : targetOf a.kind a.number s = some t) (hrange : a.outOfRange t = false)
    (huse : s.lkc.watching tag = false) (hmet : ¬(a.states.contains (targetCode t s) = decide (a.polarity = 0)))
    (hfull : 4 ≤ s.lkc.watches.length) : watch tag a s = refused .busy s := by
  have hunmet := mt (a.watch_meets tag t s.now (targetCode t s)).mp hmet
  simp only [watch, ht, hrange, huse, hunmet, Config.maxWatches, hfull, Bool.false_eq_true, if_false, if_true]

theorem watch_opened (ht : targetOf a.kind a.number s = some t) (hrange : a.outOfRange t = false)
    (huse : s.lkc.watching tag = false) (hmet : ¬(a.states.contains (targetCode t s) = decide (a.polarity = 0)))
    (hroom : s.lkc.watches.length < 4) :
    watch tag a s = ({ s with lkc := { s.lkc with watches := s.lkc.watches ++ [a.watch tag t s.now] } }, none) := by
  have hunmet := mt (a.watch_meets tag t s.now (targetCode t s)).mp hmet
  simp only [watch, ht, hrange, huse, hunmet, Config.maxWatches, Nat.not_le.mpr hroom, Bool.false_eq_true, if_false]

end

/-- The order that has left the buffer leaves every target's state as it was. -/
theorem popOrder_targetCode (t : Target) (s : State) : targetCode t (popOrder s) = targetCode t s := by
  cases t <;> rfl

/-! ## CANCEL WATCH and WATCH_EXPIRY (R162) -/

theorem cancelWatch_closes {tag : Byte} {w : Watch} {s : State} (h : s.lkc.watches.find? (fun x => x.tag = tag) = some w) :
    cancelWatch tag s = done .none { s with lkc := s.lkc.close w w.cancelled } := by
  simp only [cancelWatch, h]

theorem cancelWatch_noSuch {tag : Byte} {s : State} (h : s.lkc.watches.find? (fun x => x.tag = tag) = none) :
    cancelWatch tag s = refused .noSuch s := by
  simp only [cancelWatch, h]

@[simp] theorem LinkController.close_answers (l : LinkController) (w : Watch) (a : Answer) :
    (l.close w a).answers = l.answers ++ [a] := LinkController.place_answers _ _

@[simp] theorem LinkController.close_watches (l : LinkController) (w : Watch) (a : Answer) :
    (l.close w a).watches = l.watches.filter (fun x => x.tag ≠ w.tag) := LinkController.place_watches _ _

theorem takeWatchExpiry_taken {tag : Byte} {w : Watch} {s : State} (h : s.lkc.watches.find? (fun x => x.tag = tag) = some w)
    (hx : w.expiry = s.now) :
    takeWatchExpiry tag s = { s with lkc := s.lkc.close w (w.expired (targetCode w.target s)) } := by
  simp only [takeWatchExpiry, h, hx, if_true]

theorem exec_watchExpiry_now {tag : Byte} {w : Watch} {s : State} (h : s.lkc.watches.find? (fun x => x.tag = tag) = some w)
    (hx : w.expiry = s.now) :
    exec (.watchExpiry tag) s = .next { s with lkc := s.lkc.close w (w.expired (targetCode w.target s)) } := by
  have htimer : (s.lkc.watches.find? (fun x => x.tag = tag)).map (·.expiry) = some s.now := by rw [h, Option.map_some, hx]
  simp only [exec, execWatchExpiry, htimer, runToTimer_now, takeWatchExpiry_taken h hx]

/-- Settles O55. -/
theorem watchesOpenedAndClosed : Obligations.WatchesOpenedAndClosed := by
  refine ⟨⟨fun tag body s t0 h ht hrange => ⟨fun huse => ?inUse, fun huse hmet => ?met, fun huse hmet hfull => ?busy,
    fun huse hmet hroom => ?opened⟩, fun tag body s w h hw => ?cancelled,
    fun tag body s h hw => next_runOrder_refused h (cancelWatch_noSuch (s := popOrder s) hw)⟩, fun tag w s hw hx => ?expired⟩
  case inUse => exact next_runOrder_refused h (watch_inUse (s := popOrder s) ht hrange huse)
  case met =>
    rw [← popOrder_targetCode] at hmet
    exact next_runOrder_done h (watch_metAtOnce (s := popOrder s) ht hrange huse hmet)
  case busy =>
    rw [← popOrder_targetCode] at hmet
    exact next_runOrder_refused h (watch_busy (s := popOrder s) ht hrange huse hmet hfull)
  case opened =>
    rw [← popOrder_targetCode] at hmet
    have hopened := watch_opened (s := popOrder s) (tag := tag) ht hrange huse hmet hroom
    exact ⟨_, congrArg Host.Outcome.next ((runOrder_taken _ _ _ _ _ h).trans (congrArg (settleOwned tag) hopened)),
      by simp [keepsAllBut_iff, settleOwned], rfl, rfl⟩
  case cancelled =>
    exact ⟨_, next_runOrder_done h (cancelWatch_closes (s := popOrder s) hw), by simp [keepsAllBut_iff],
      by simp [Watch.cancelled], by simp⟩
  case expired =>
    exact ⟨_, exec_watchExpiry_now hw hx, by simp [keepsAllBut_iff], by simp, by simp [Answered, Watch.expired]⟩

/-! ## A change meets its watches (R161) -/

/-- Watches answered one by one, each answer behind the one before it. -/
theorem LinkController.foldl_place_answers (f : Watch → Answer) (ws : List Watch) (l : LinkController) :
    (ws.foldl (fun k w => k.place (f w)) l).answers = l.answers ++ ws.map f := by
  induction ws generalizing l with
  | nil => simp
  | cons w ws ih => simp [ih]

theorem LinkController.meet_watches (l : LinkController) (t : Target) (code second : Nat) :
    (l.meet t code second).watches = l.watches.filter (fun w => !w.metBy t code) := by
  obtain ⟨-, -, hwatches, -⟩ := LinkController.foldl_place (fun w => w.doneAnswer code second)
    (l.watches.filter (fun w => w.metBy t code)) { l with watches := l.watches.filter (fun w => !w.metBy t code) }
  exact hwatches

theorem LinkController.meet_answers (l : LinkController) (t : Target) (code second : Nat) :
    (l.meet t code second).answers
      = l.answers ++ (l.watches.filter (fun w => w.metBy t code)).map (fun w => w.doneAnswer code second) :=
  LinkController.foldl_place_answers _ _ _

/-- Each watch met passes from its own place to its answer's. -/
theorem LinkController.meet_placesUsed (l : LinkController) (t : Target) (code second : Nat) :
    (l.meet t code second).placesUsed = l.placesUsed := by
  have hsum := List.length_eq_length_filter_add (l := l.watches) (fun w => w.metBy t code)
  simp only [LinkController.placesUsed, LinkController.meet_watches, LinkController.meet_answers, List.length_append,
    List.length_map]
  omega

theorem meetWhen_same {α : Type} [DecidableEq α] {old new : α} (h : old = new) (t : Target) (code : Nat) (s : State) :
    meetWhen (differs (some old) new) t code s = s.lkc := by
  rw [h, differs_same, meetWhen_false]

theorem meetWhen_changed {α : Type} [DecidableEq α] {old new : α} (h : old ≠ new) (t : Target) (code : Nat) (s : State) :
    meetWhen (differs (some old) new) t code s = s.lkc.meet t code s.now := by
  simp [meetWhen, differs, h]

/-- A watch met is closed, and its answer stands among the answers. -/
theorem LinkController.meet_of_mem {l : LinkController} {w : Watch} (hw : w ∈ l.watches) {code : Nat}
    (h : w.meets code = true) (second : Nat) :
    w ∉ (l.meet w.target code second).watches ∧ w.doneAnswer code second ∈ (l.meet w.target code second).answers := by
  have hmet : w.metBy w.target code = true := by simp [Watch.metBy, h]
  rw [LinkController.meet_watches, LinkController.meet_answers]
  refine ⟨fun hmem => ?_, List.mem_append_right _ (List.mem_map_of_mem (List.mem_filter.mpr ⟨hw, hmet⟩))⟩
  simpa [hmet] using (List.mem_filter.mp hmem).2

theorem exec_openingExpiry_now {n : Nat} {l : Locker} {s : State} (hl : s.lmu.find n = some l) (ha : l.acting = .opening)
    (hx : l.openingExpiry = some s.now) : exec (.openingExpiry n) s = .next (moveLocker n l.windowOver s) := by
  have htimer : openingExpiryOf n s = some s.now := by simp [openingExpiryOf, hl, ha, hx]
  simp only [exec, execOpeningExpiry, htimer, runToTimer_now]
  simp [takeOpeningExpiry, hl, ha, hx, Locker.windowOver]

/-- Settles O56. -/
theorem changesMeetWatches : Obligations.ChangesMeetWatches := by
  refine ⟨fun l t code second =>
      ⟨l.meet_watches t code second, l.meet_answers t code second, l.meet_placesUsed t code second⟩,
    fun n old new s h => ?locker, fun n old new s h => ?cabin, fun n old new s h => ?lane, fun addr st x s h => ?station,
    fun n l w s hl hstate hholder hx hw htarget hmeets => ?window⟩
  case locker =>
    refine ⟨fun hs => ?_, fun hs => ?_, by simp [LockerMap.find_put_self, h], by simp [keepsAllBut_iff]⟩
    · rw [putLocker_lkc, h, Option.map_some, meetWhen_same hs]
    · rw [putLocker_lkc, h, Option.map_some, meetWhen_changed hs, State.now_eq]
  case cabin =>
    refine ⟨fun hs => ?_, fun hs => ?_, by simp [CabinUnit.find_put, h], by simp [keepsAllBut_iff]⟩
    · rw [putCabin_lkc, h, Option.map_some, meetWhen_same hs]
    · rw [putCabin_lkc, h, Option.map_some, meetWhen_changed hs, State.now_eq]
  case lane =>
    refine ⟨fun hs => ?_, fun hs => ?_, by simp [h], by simp [keepsAllBut_iff]⟩
    · rw [putLane_lkc, h, Option.map_some, meetWhen_same hs]
    · rw [putLane_lkc, h, Option.map_some, meetWhen_changed hs, State.now_eq]
  case station =>
    have hlkc : (setHealth addr x s).lkc = meetWhen (differs (some st.health) x) (.station addr) (healthCode (some x)) s := by
      simp [setHealth, FieldLine.health, h]
    refine ⟨fun hs => ?_, fun hs => ?_, by simp [h], by simp [keepsAllBut_iff]⟩
    · rw [hlkc, meetWhen_same hs]
    · rw [hlkc, meetWhen_changed hs, State.now_eq]
  case window =>
    have hacting : l.acting = .opening := by simp [Locker.acting, hstate]
    have hheld : l.windowOver.state = .held := by simp [Locker.windowOver, Locker.act, hstate, hholder]
    have hlkc : (moveLocker n l.windowOver s).lkc = s.lkc.meet w.target LockerState.held.code s.now := by
      have hchanged : l.state ≠ LockerState.held := by simp [hstate]
      simp [moveLocker, hl, hheld, htarget, meetWhen_changed hchanged]
    obtain ⟨hclosed, hanswered⟩ := LinkController.meet_of_mem hw hmeets s.now
    refine ⟨_, exec_openingExpiry_now hl hacting hx, ?_, ?_⟩
    · rwa [hlkc]
    · rw [hlkc]
      exact hanswered

end Sys2Proof.Machine

/-! SITE LOAD and SITE COMMIT (O57): the two orders by their checks, and what each owner builds afresh from a site table. -/
namespace Sys2Proof.Machine

/-! ## What the owners build from a site table (R49, R79, R122, R136) -/

section
variable {t : SiteTable}

/-- A locker of a site rebuild is Vacant and of no one, and its next status is checked for an orphan (R49). -/
theorem freshLockers_locker {b : Bank} {l : Locker} (hb : b ∈ (freshLockers t).banks) (hl : l ∈ b.lockers) :
    l.state = .vacant ∧ l.holder = none ∧ l.orphanCheck = true ∧ l.useCount = 0 := by
  obtain ⟨k, -, rfl⟩ := List.mem_map.mp hb
  rw [List.eq_of_mem_replicate hl]
  exact ⟨rfl, rfl, rfl, rfl⟩

theorem freshLockers_freeCount {b : Bank} (hb : b ∈ (freshLockers t).banks) : b.freeCount = b.lockers.length := by
  obtain ⟨k, -, rfl⟩ := List.mem_map.mp hb
  exact List.length_replicate.symm

theorem freshCabins_cabin {c : Cabin} (hc : c ∈ (freshCabins t).cabins) :
    c.state = .free ∧ c.band = none ∧ c.counter = 0 := by
  obtain ⟨k, -, rfl⟩ := List.mem_map.mp hc
  exact ⟨rfl, rfl, rfl⟩

theorem freshCabins_group {g : Group} (hg : g ∈ (freshCabins t).groups) : g.queue = [] ∧ g.nextTicket = 1 := by
  obtain ⟨k, -, rfl⟩ := List.mem_map.mp hg
  exact ⟨rfl, rfl⟩

theorem freshLanes_lane {e : Lane} (he : e ∈ (freshLanes t).lanes) :
    e.state = .idle ∧ e.band = none ∧ e.lastExpiry = none := by
  obtain ⟨k, -, rfl⟩ := List.mem_map.mp he
  exact ⟨rfl, rfl, rfl⟩

/-- Banks, cabins, call pads and lanes alike, a record of a site rebuild is a fresh one of its address and its image. -/
theorem mem_freshStations {st : Station} (h : st ∈ freshStations t) : ∃ addr image, st = freshStation addr image := by
  simp only [freshStations, List.mem_append, List.mem_map] at h
  obtain ((⟨b, -, rfl⟩ | ⟨c, -, rfl⟩) | ⟨g, -, rfl⟩) | ⟨l, -, rfl⟩ := h
  all_goals exact ⟨_, _, rfl⟩

theorem freshStations_starting {st : Station} (h : st ∈ freshStations t) :
    st.health = .starting ∧ st.missCount = 0 ∧ st.statusDue = some .clearing ∧ st.lastBit = none := by
  obtain ⟨addr, image, rfl⟩ := mem_freshStations h
  exact ⟨rfl, rfl, rfl, rfl⟩

end

/-! ## What a SITE COMMIT writes (R169, R170) -/

@[simp] theorem LinkController.cancelAll_watches (l : LinkController) : l.cancelAll.watches = [] := by
  obtain ⟨-, -, hwatches, -⟩ := LinkController.foldl_place Watch.cancelled l.watches { l with watches := [] }
  exact hwatches

section
variable (image : List Byte) (s : State)

theorem commitImage_masters :
    (commitImage image s).bdr.masters.map (·.number) = (siteTableOf image).masters := by
  simp [commitImage, rebuild, Function.comp_def]

theorem commitImage_tablesMatchSite : TablesMatchSite (commitImage image s) := rebuild_tablesMatchSite _ _ rfl

end

theorem placeAnswer_tablesMatchSite {a : Answer} {u : State} (h : TablesMatchSite u) : TablesMatchSite (placeAnswer a u) := h

/-! ## The two orders by their checks (R167, R168) -/

theorem tenanted_iff (s : State) :
    tenanted s = true ↔ s.configured = true ∧ (s.sck.day = .opened ∨ s.bdr.bands ≠ []) := by
  simp [tenanted]

section
variable {s : State} {body : List Byte}

theorem siteLoad_notClosed (h : tenanted s = true) : siteLoad body s = refused .notClosed s := by
  simp only [siteLoad, h, if_true]

theorem siteLoad_range (h : ¬tenanted s = true)
    (hout : 345 < u16At body 0 ∨ body.drop 2 = [] ∨ 346 < u16At body 0 + (body.drop 2).length) :
    siteLoad body s = refused .range s := by
  simp only [siteLoad, if_neg h]
  exact if_pos (by simpa [or_assoc] using hout)

theorem siteLoad_staged (h : ¬tenanted s = true) (hoffset : u16At body 0 ≤ 345) (hsegment : body.drop 2 ≠ [])
    (hend : u16At body 0 + (body.drop 2).length ≤ 346) :
    siteLoad body s = done .none
      { s with sts := { s.sts with staging := writeSegment s.sts.staging (u16At body 0) (body.drop 2) } } := by
  simp only [siteLoad, if_neg h]
  refine if_neg ?_
  simp only [Bool.or_eq_true, decide_eq_true_eq, not_or, not_lt]
  exact ⟨⟨hoffset, hsegment⟩, hend⟩

theorem siteCommit_invalid (h : ¬tenanted s = true) (hbad : siteImageGood s.sts.staging = false) :
    siteCommit s = refused .invalid s := by
  simp [siteCommit, h, hbad]

theorem siteCommit_commits (h : ¬tenanted s = true) (hgood : siteImageGood s.sts.staging = true) :
    siteCommit s = (commitImage (clampSite s.sts.staging) s,
      some { code := .done, clamped := decide (clampSite s.sts.staging ≠ s.sts.staging),
             body := committedBody (siteTableOf (clampSite s.sts.staging)) }) := by
  simp [siteCommit, h, hgood]

end

/-- Settles O57: each order by its checks, and the part after a commit block by block. -/
theorem siteLoadedAndCommitted : Obligations.SiteLoadedAndCommitted := by
  refine ⟨fun tag body s h => ⟨fun hfree hoffset hsegment hend => ?staged, fun hconf hday => ?notClosed,
    fun hfree hout => ?range⟩, fun tag body s h hfree => ⟨fun hgood => ?committed, fun hbad => ?invalid⟩⟩
  case staged =>
    exact next_runOrder_done h
      (siteLoad_staged (s := popOrder s) (mt (tenanted_iff _).mp hfree) hoffset hsegment hend)
  case notClosed =>
    exact next_runOrder_refused h (siteLoad_notClosed (s := popOrder s) ((tenanted_iff _).mpr ⟨hconf, hday⟩))
  case range =>
    exact next_runOrder_refused h (siteLoad_range (s := popOrder s) (mt (tenanted_iff _).mp hfree) hout)
  case invalid =>
    exact next_runOrder_refused h (siteCommit_invalid (s := popOrder s) (mt (tenanted_iff _).mp hfree) hbad)
  case committed =>
    have hcommit := siteCommit_commits (s := popOrder s) (mt (tenanted_iff _).mp hfree) hgood
    simp only [popOrder_keeps] at hcommit
    -- The rest holds of whichever image is committed; the clamping need not be unfolded.
    generalize clampSite s.sts.staging = image at hcommit ⊢
    refine ⟨_, congrArg Host.Outcome.next ((runOrder_taken _ _ _ _ _ h).trans (congrArg (settleOwned tag) hcommit)), ?_⟩
    rw [settleOwned_some]
    exact ⟨rfl, rfl, rfl, rfl, (LinkController.place_watches _ _).trans (LinkController.cancelAll_watches _), rfl,
      fun b hb l hl => freshLockers_locker hb hl, fun b hb => freshLockers_freeCount hb,
      fun c hc => freshCabins_cabin hc, fun g hg => freshCabins_group hg, fun e he => freshLanes_lane he,
      fun st hst => freshStations_starting hst, commitImage_masters image _,
      placeAnswer_tablesMatchSite (commitImage_tablesMatchSite image _), by simp [keepsAllBut_iff]⟩

end Sys2Proof.Machine

/-! The operands of an order's body (spec 11 3.01): each field reads back as it was written, and so do the bodies shape by shape,
at the lengths of R175. -/
namespace Sys2Proof.Machine

/-! ## A field of its own (spec 11 1.01) -/

theorem byteAt_u8Bytes {n : Nat} (h : n < 256) : byteAt (u8Bytes n) 0 = n :=
  (BitVec.toNat_ofNat n 8).trans (Nat.mod_eq_of_lt h)

/-- A 2-byte field written from any number keeps it modulo 2^16. -/
theorem u16At_u16Bytes_mod (n : Nat) : u16At (u16Bytes n) 0 = n % 65536 := by
  change n % 256 + 256 * (n / 256 % 256) = n % 65536
  omega

/-- A 4-byte field written from any number keeps it modulo 2^32, as the low four bytes of a band number do. -/
theorem u32At_u32Bytes_mod (n : Nat) : u32At (u32Bytes n) 0 = n % 4294967296 := by
  have hlow : u16At (u32Bytes n) 0 = n % 65536 := u16At_u16Bytes_mod n
  have hhigh : u16At (u32Bytes n) 2 = n / 65536 % 65536 := u16At_u16Bytes_mod (n / 65536)
  rw [u32At, hlow, hhigh]
  omega

theorem u32At_u32Bytes {n : Nat} (h : n < 4294967296) : u32At (u32Bytes n) 0 = n :=
  (u32At_u32Bytes_mod n).trans (Nat.mod_eq_of_lt h)

theorem bandAt_bandBytes (b : BandNo) : bandAt (bandBytes b) 0 = b := by
  have hlow : u32At (bandBytes b) 0 = b.toNat % 4294967296 := u32At_u32Bytes_mod b.toNat
  have htop : byteAt (bandBytes b) 4 = b.toNat / 4294967296 := byteAt_u8Bytes (by have := b.isLt; omega)
  rw [bandAt, hlow, htop, Nat.mod_add_div, BitVec.ofNat_toNat, BitVec.setWidth_eq]

/-! ## Bodies read into one record

The fields of a body have fixed lengths, so a read at a field's offset is by computation the read of that field alone: each
`have` below is the lemma of its field. -/

theorem issueArgs_issueBody {a : IssueArgs} (hcls : a.cls < 256) (hpaid : a.paidMinutes < 65536) (hchoice : a.choice < 65536) :
    issueArgs (issueBody a) = a := by
  have band : bandAt (issueBody a) 0 = a.band := bandAt_bandBytes a.band
  have cls : byteAt (issueBody a) 5 = a.cls := byteAt_u8Bytes hcls
  have paid : u16At (issueBody a) 6 = a.paidMinutes := u16At_u16Bytes [] a.paidMinutes hpaid
  have choice : u16At (issueBody a) 8 = a.choice := u16At_u16Bytes [] a.choice hchoice
  rw [issueArgs, band, cls, paid, choice]

theorem windowArgs_windowBody {a : WindowArgs} (hfirstBank : a.firstBank < 256) (hlastBank : a.lastBank < 256)
    (hfirstDoor : a.firstDoor < 256) (hlastDoor : a.lastDoor < 256) (hservice : a.inService < 256)
    (hretention : a.retention < 256) (hstaff : a.staffOnly < 256) : windowArgs (windowBody a) = a := by
  have firstBank : byteAt (windowBody a) 0 = a.firstBank := byteAt_u8Bytes hfirstBank
  have lastBank : byteAt (windowBody a) 1 = a.lastBank := byteAt_u8Bytes hlastBank
  have firstDoor : byteAt (windowBody a) 2 = a.firstDoor := byteAt_u8Bytes hfirstDoor
  have lastDoor : byteAt (windowBody a) 3 = a.lastDoor := byteAt_u8Bytes hlastDoor
  have service : byteAt (windowBody a) 4 = a.inService := byteAt_u8Bytes hservice
  have retention : byteAt (windowBody a) 5 = a.retention := byteAt_u8Bytes hretention
  have staff : byteAt (windowBody a) 6 = a.staffOnly := byteAt_u8Bytes hstaff
  rw [windowArgs, firstBank, lastBank, firstDoor, lastDoor, service, retention, staff]

theorem paidArgs_paidBody {a : PaidArgs} (hlane : a.lane < 256) (hamount : a.amount < 65536) : paidArgs (paidBody a) = a := by
  have lane : byteAt (paidBody a) 0 = a.lane := byteAt_u8Bytes hlane
  have band : bandAt (paidBody a) 1 = a.band := bandAt_bandBytes a.band
  have amount : u16At (paidBody a) 6 = a.amount := u16At_u16Bytes [] a.amount hamount
  rw [paidArgs, lane, band, amount]

/-- State codes written one byte each read back (R160). -/
theorem map_toNat_map_ofNat {codes : List Nat} (h : ∀ c ∈ codes, c < 256) :
    (codes.map (BitVec.ofNat 8)).map (·.toNat) = codes := by
  rw [List.map_map]
  exact (List.map_congr_left fun c hc => byteAt_u8Bytes (h c hc)).trans (List.map_id codes)

theorem watchArgs_watchBody {a : WatchArgs} (hkind : a.kind < 256) (hnumber : a.number < 65536) (hpolarity : a.polarity < 256)
    (hlimit : a.limit < 65536) (hstates : ∀ c ∈ a.states, c < 256) : watchArgs (watchBody a) = a := by
  have kind : byteAt (watchBody a) 0 = a.kind := byteAt_u8Bytes hkind
  have number : u16At (watchBody a) 1 = a.number := u16At_u16Bytes [] a.number hnumber
  have polarity : byteAt (watchBody a) 3 = a.polarity := byteAt_u8Bytes hpolarity
  have limit : u16At (watchBody a) 4 = a.limit := u16At_u16Bytes [] a.limit hlimit
  have states : ((watchBody a).drop 6).map (·.toNat) = a.states := map_toNat_map_ofNat hstates
  rw [watchArgs, kind, number, polarity, limit, states]

/-! ## A signed number, and the bodies of no fixed length -/

/-- ADJUST CLOCK's seconds read back with their sign (R128). -/
theorem s16At_adjustBody {k : Int} (hlow : -32768 ≤ k) (hhigh : k < 32768) : s16At (adjustBody k) 0 = k := by
  have hread : u16At (adjustBody k) 0 = (k % 65536).toNat := u16At_u16Bytes [] _ (by omega)
  rw [s16At, hread]
  split <;> omega

theorem watch_bodyLengthOk {a : WatchArgs} (h : a.states.length ≤ 8) :
    OrderKind.watch.bodyLengthOk (watchBody a).length = true := by
  simp only [OrderKind.bodyLengthOk, watchBody, List.length_append, List.length_map, u8Bytes_length, u16Bytes_length,
    Bool.and_eq_true, decide_eq_true_eq]
  omega

theorem tariffLoad_bodyLengthOk {segment : List Byte} (n : Nat) (h : segment.length ≤ 247) :
    OrderKind.tariffLoad.bodyLengthOk (tariffLoadBody n segment).length = true := by
  simp only [OrderKind.bodyLengthOk, tariffLoadBody, List.length_append, u8Bytes_length, Bool.and_eq_true,
    decide_eq_true_eq]
  omega

theorem siteLoad_bodyLengthOk {segment : List Byte} (n : Nat) (h : segment.length ≤ 246) :
    OrderKind.siteLoad.bodyLengthOk (siteLoadBody n segment).length = true := by
  simp only [OrderKind.bodyLengthOk, siteLoadBody, List.length_append, u16Bytes_length,
    Bool.and_eq_true, decide_eq_true_eq]
  omega

/-! ## Every order (R175) -/

/-- Settles O13, shape by shape: the operands by the lemma of each field, the length by computation where the shape fixes it. -/
theorem orderBodiesReadBack : Obligations.OrderBodiesReadBack := by
  refine ⟨fun a hcls hpaid hchoice => ⟨issueArgs_issueBody hcls hpaid hchoice, rfl⟩,
    fun b => ⟨bandAt_bandBytes b, ?band⟩,
    fun old new => ⟨bandAt_bandBytes old, bandAt_bandBytes new, rfl⟩,
    fun filter start hf hs => ⟨byteAt_u8Bytes hf, u16At_u16Bytes [] start hs, rfl⟩,
    fun n hn => ⟨u16At_u16Bytes [] n hn, ?locker⟩,
    fun n d hn hd => ⟨u16At_u16Bytes [] n hn, byteAt_u8Bytes hd, rfl⟩,
    fun a hfb hlb hfd hld hservice hretention hstaff =>
      ⟨windowArgs_windowBody hfb hlb hfd hld hservice hretention hstaff, rfl⟩,
    fun a b ha hb => ⟨byteAt_u8Bytes ha, byteAt_u8Bytes hb, ?pair⟩,
    fun b g hg => ⟨bandAt_bandBytes b, byteAt_u8Bytes hg, rfl⟩,
    fun a hlane hamount => ⟨paidArgs_paidBody hlane hamount, rfl⟩,
    fun n hn => ⟨u32At_u32Bytes hn, rfl⟩,
    fun k hlow hhigh => ⟨s16At_adjustBody hlow hhigh, rfl⟩,
    fun n hn => ⟨u16At_u16Bytes [] n hn, rfl⟩,
    fun a hkind hnumber hpolarity hlimit hstates hcount =>
      ⟨watchArgs_watchBody hkind hnumber hpolarity hlimit hstates, watch_bodyLengthOk hcount⟩,
    fun n segment hn hs => ⟨byteAt_u8Bytes hn, rfl, tariffLoad_bodyLengthOk n hs⟩,
    fun n segment hn hs => ⟨u16At_u16Bytes [] n hn, rfl, siteLoad_bodyLengthOk n hs⟩,
    fun n hn => ⟨byteAt_u8Bytes hn, ?byte⟩, fun tag => ?tag, fun x => ?empty⟩
  case band => simp [OrderKind.bodyLengthOk, bandBody]
  case locker => simp [OrderKind.bodyLengthOk, lockerBody]
  case pair => simp [OrderKind.bodyLengthOk, pairBody]
  case byte => simp [OrderKind.bodyLengthOk, byteBody]
  case tag => exact BitVec.eq_of_toNat_eq (byteAt_u8Bytes tag.isLt)
  case empty => simp [OrderKind.bodyLengthOk]

end Sys2Proof.Machine

/-! The queue of waiting commands: the step takes its front command, and no command changes it (log entry 1).
What each act keeps of it is in Laws/Frames.lean; here follow the shapes that the dispatch puts around an act. -/
namespace Sys2Proof.Machine

/-! ## The shapes of a command -/

theorem dispatchOrder_pending (o : OrderFrame) (act : State → State) (s : State) (h : ∀ t, (act t).pending = t.pending) :
    (dispatchOrder o act s).pending = s.pending := by
  unfold dispatchOrder; (repeat' split) <;> simp [h]

theorem runOrder_pending (k : OrderKind) (tag : Byte) (body : List Byte) (owner : State → Owned) (s : State)
    (ho : ∀ u, (owner u).1.pending = u.pending) : (runOrder k tag body owner s).pending = s.pending :=
  runOrder_owner (fun u => u.pending = s.pending) k tag body owner s (fun _ _ hu => hu) (fun u hu => (ho u).trans hu) rfl

theorem runToTimer_pending (timer : Option Nat) (act : State → State) (s : State) (h : ∀ t, (act t).pending = t.pending) :
    (runToTimer timer act s).pending = s.pending := by
  cases timer with
  | none => rfl
  | some x => simp [runToTimer, h]

/-- A cold reset empties the part's own memory, and the commands that wait stand outside it (R171, log entry 1). -/
theorem coldReset_pending (straps : BitVec 2) (s : State) : (coldReset straps s).pending = s.pending := by
  unfold coldReset
  dsimp only
  split
  · exact (rebuild_keeps _ _).1
  · rfl

/-! ## Every command -/

/-- A `Fault` has no constructor, and no arm of the dispatch refuses. -/
theorem exec_answers_next (c : Instr) (s : State) : ∃ t, exec c s = .next t := by
  cases c <;> exact ⟨_, rfl⟩

theorem exec_pending (c : Instr) (s t : State) (ht : exec c s = .next t) : t.pending = s.pending := by
  cases c
  all_goals
    injection ht with ht
    subst ht
  case coldReset straps => exact coldReset_pending straps s
  case unknownOrder =>
    split
    · rfl
    · exact dispatchOrder_pending _ _ _ fun u => by simp
  case lockerServiceOut | lockerServiceIn | cabinServiceOut | cabinServiceIn =>
    split
    · rfl
    · exact runOrder_pending _ _ _ _ _ fun u => by simp
  case openingExpiry | offerExpiry | entryExpiry | cleaningExpiry | abandonment | quoteExpiry | passExpiry | watchExpiry
      | desiredEntryExpiry => exact runToTimer_pending _ _ _ fun u => by simp
  case minuteBoundary | midnightRollover => exact (runClock_keeps _ s).1
  case storeWriteEnd copy => cases copy <;> rfl
  case transmissionEnd | noticeHoldAsserted | noticeHoldNegated => rfl
  case frameReceived | frameLengthOutOfRange | byteWithoutStopBit | interByteGap | startByteReceived | lineBreak
      | lineReturnToMark | warmReset | poll | pollAnswer | missedAnswer => (repeat' split) <;> simp
  all_goals exact runOrder_pending _ _ _ _ _ fun u => by simp

/-- Settles O1: the step's case of a queue with a command at its front. -/
theorem stepRunsFrontCommand : Obligations.StepRunsFrontCommand := fun _ _ _ => rfl

/-- Settles O2: every arm of the dispatch is a next state, and no shape of command touches the queue. -/
theorem everyCommandCompletes : Obligations.EveryCommandCompletes := fun c s => by
  obtain ⟨t, ht⟩ := exec_answers_next c s
  exact ⟨t, ht, exec_pending c s t ht⟩

end Sys2Proof.Machine
